-- ==== Sys2Proof/Word.lean ====
section
/-! DEFINITION. The word types of the module and their plainest arithmetic (00 R1, R3). -/

namespace Sys2Proof

/-- A register or window word: every register is 32 bits wide (R3). -/
abbrev Word := BitVec 32

/-- One byte of a frame, a record or a memory. -/
abbrev Byte := BitVec 8

/-- A sparse table by Nat key in one canonical form: keys strictly rising, no entry equal to what an unlisted key reads as. -/
abbrev Store (α : Type) := List (Nat × α)

end Sys2Proof
end

