-- ==== Sys2Proof/Syntax.lean ====
section
/-! DEFINITION. The commands of the block: one constructor per row of the table of operations and events.

`dt` is the number of TIME ticks (4 ns of crystal time) that pass before the command; a command without it acts on the present tick,
or on the tick the state has scheduled for it (assumption 2). -/

namespace Sys2Proof

/-- Domains whose writes take effect after a crossing (01 R22, R23; 18 R372). -/
inductive Dom where
  | time
  | drv
  | aon
  | spread
  deriving DecidableEq, Repr

/-- One converter sample of a shot: corrected code and the bank-node voltage the die senses at it (07 R141). -/
structure Sample where
  code : BitVec 12
  vn : Nat
  deriving DecidableEq, Repr

/-- A channel, and the current its comparators sense there in mA; `none`: no one reports it, and it is a free value (06 R114; assumption 10). -/
structure Sensed where
  v : Fin 96
  cur : Option Nat
  deriving DecidableEq, Repr

/-- A reading of the boost rail: VBST in units of 0.25 V, and the highest voltage on BSTCS in the boost controller's last cycle, in mV (06 R122). -/
structure Rail where
  vbst : Nat
  cs : Nat
  deriving DecidableEq, Repr

/-- What the die says at the end of a shot that goes into the journal: whether the SRAM write queue is full, and the highest corrected code of the shot; `none`: not reported, a free value (07 R151, R154; assumption 46). -/
structure JournalIn where
  full : Bool
  imax : Option (BitVec 12)
  deriving DecidableEq, Repr

/-- The detection conditions that hold on the tick a clear takes effect: the bits of the fault register they belong to, and the highest corrected code over the 50 µs before (08 R166, R167). -/
structure StillOn where
  bits : Nat
  code : Nat
  deriving DecidableEq, Repr

/-- Which Kennel writes fail their verification twice during a command (16 R325, R326, R332, R338): the bad slots by map bit, the map copies, and the position copy tried first. -/
structure KenFault where
  slots : List Nat
  map : BitVec 2
  pos : Bool
  deriving DecidableEq, Repr

/-- A frame as it arrives on a ring port (10 R188 to R196): addresses and EtherType as numbers in transmission order, the sequence number of its HSR tag if it has one, that tag's path identifier and whether its LSDU size agrees with the frame's length, the PCP of its 802.1Q tag if it has one and that tag's VID, its length from destination address through frame check sequence without tags, whether that check sequence is right, the quarter ns of the tick at which a PTP message's timestamp point passes the lands (09 R179), and the octets behind the EtherType. -/
structure RxFrame where
  dst : Nat
  src : Nat
  hsr : Option Nat
  path : Nat
  lsduOk : Bool
  pcp : Option Nat
  vid : Nat
  etype : Nat
  len : Nat
  fcsOk : Bool
  q : Nat
  payload : List Byte
  deriving DecidableEq, Repr

/-- Who sent a datagram: the IPv4 address, and the source MAC address of the frame that brought it, to which an answer goes (10 R198, R206). -/
structure Peer where
  ip : Word
  mac : Nat
  deriving DecidableEq, Repr

/-- Who sent an ARP frame: its source MAC address, and the sender hardware address in it (10 R198, R199). -/
structure ArpSender where
  mac : Nat
  sha : Nat
  deriving DecidableEq, Repr

/-- Who sent a Pdelay_Req: its port identity, and the quarter ns of the tick at which the message's timestamp point passed the lands (09 R179, R182). -/
structure PdelayAsk where
  spi : Nat
  q : Nat
  deriving DecidableEq, Repr

/-- A level change of a digital input (11 R240). `moved`: the level at the pin changes on this tick; else the level the filter waits on has stood long enough. -/
structure DiEdge where
  pin : Fin 32
  moved : Bool
  deriving DecidableEq, Repr

/-- A level change of an encoder's A and B (11 R242). `moved`: the levels at the pins are the given ones from this tick on; else levels the filter waits on have stood long enough. -/
structure EncEdge where
  enc : Fin 4
  moved : Bool
  deriving DecidableEq, Repr

/-- A CAN frame as received (15 R308, R310): identifier, format bits, DLC, data bytes, and the TIME ticks from its start of frame to its validity point. -/
structure CanRx where
  id : Nat
  ide : Bool
  rtr : Bool
  fdf : Bool
  brs : Bool
  esi : Bool
  dlc : Nat
  data : List Byte
  ago : Nat
  deriving DecidableEq, Repr

/-- How a transmission attempt ends (15 R304, R306, R307): sent, with the delays at which edges returned after the one driven at the end of the FDF bit; arbitration lost; or an error by its LERR code, with whether an exception of the standard exempts it from raising TXERR, how many further increments of 8 the bus causes, and the delays of the edges, none where the error came before the FDF bit. -/
inductive CanEnd where
  | sent (edges : List Nat)
  | lost
  | error (code : Nat) (exempt : Bool) (more : Nat) (edges : List Nat)
  deriving DecidableEq, Repr

/-- The instructions of the test port (19 R400). -/
inductive TestInstr where
  | bypass
  | samplePreload
  | extest
  | idcode
  | clamp
  | highz
  deriving DecidableEq, Repr

/-- The commands, in the order of the table but for some without operands that stand last; each line gives the row's mnemonic, its rule and what the row states. -/
inductive Instr where
  /-- REGISTER_WRITE (R406). A write to a register that has no row of its own is performed whole or refused whole, with each field acting by its type. -/
  | registerWrite (a : Nat) (w : Word)
  /-- REGISTER_EFFECT (R32). A performed write reaches its target domain and takes effect within the crossing bound. -/
  | registerEffect (dt : Nat) (d : Dom)
  /-- TWO_WORD_LATCH (R7). A read of the less significant word of a two-register quantity latches the more significant word for the rest of the frame. -/
  | twoWordLatch (a : Word)
  /-- NT_LATCH_READ (R170). A read of TIM_NT_FRAC latches the NT nanoseconds and seconds registers from the same tick. -/
  | ntLatchRead
  /-- SHAMEL_FRAME (R204). A datagram to port 50960 is checked and its ops are performed in order. -/
  | shamelFrame (dt : Nat) (src : Peer) (port : BitVec 16) (payload : List Byte)
  /-- SHAMEL_RESPONSE (R33). The response is sent once every op is performed and every fence in the frame is complete. -/
  | shamelResponse
  /-- READ (R201). The READ op returns n consecutive register words. -/
  | read (a : Word) (n : Nat)
  /-- WRITE (R201). The WRITE op writes n consecutive registers. -/
  | write (a : Word) (ws : List Word)
  /-- READ_WIN (R207). The READ_WIN op reads n words from the selected window target and advances SYS_WIN_ADDR. -/
  | readWin (n : Nat)
  /-- WRITE_WIN (R207). The WRITE_WIN op writes n words to the selected window target, including the NOR program queue and the staging area. -/
  | writeWin (ws : List Word)
  /-- MODIFY (R202). The MODIFY op writes the masked bits of one register on one CORE cycle. -/
  | modify (a mask value : Word)
  /-- FENCE (R34). The FENCE op holds its frame and later frames until earlier writes to the selected blocks are in effect. -/
  | fence (mask : Word)
  /-- FENCE_COMPLETE (R34). Every selected earlier write is in effect and the held ops proceed. -/
  | fenceComplete
  /-- FENCE_AT (R35). The FENCE_AT op completes as a FENCE and then holds the rest of its frame until an NT instant, or returns PAST, FAR, BUSY or ERROR. -/
  | fenceAt (sec : BitVec 64) (ns : Word)
  /-- FENCE_AT_RELEASE (R35). On the tick on which the instant takes effect the held ops are released. -/
  | fenceAtRelease
  /-- SHUTTER_NOW (R201). The SHUTTER_NOW op acts as a write of SHT_CTL.NOW. -/
  | shutterNow
  /-- COMMAND_FRAME (R71). A command frame is checked on its check tick and its commands enter the intake queue or are refused. -/
  | commandFrame (dt : Nat) (payload : List Byte)
  /-- TAKE (R11). Transit takes the oldest intake-queue entry, which is the command's arrival, and resolves it into requests in the calendar. -/
  | take
  /-- SHED_HOLD (R82). The fill has stayed beyond a threshold for a further HOLD and the shed level moves again. -/
  | shedHold
  /-- SHED_MIN_WRITE (R82). A write of CMD_SHED_LVL.MIN above the present level sets the level to MIN. -/
  | shedMinWrite (w : Word)
  /-- EPISODE_CLOSE (R85). An open drop or refusal episode closes on its 100 ms, 65,536-drop or 60 s limit and raises its one event. -/
  | episodeClose
  /-- CLOSE_POINT (R97). At a shot's close point pending requests within G of its end join it, or its end becomes final. -/
  | closePoint
  /-- FREEZE_POINT (R94). At a request's freeze point its shot's plan is fixed. -/
  | freezePoint
  /-- HANDOVER (R14). The final plan is handed to the driver die within 10 µs, or the shot does not fire and TRN_HANDOVER is raised. -/
  | handover (dt : Nat)
  /-- CANCEL_EXPIRE (R93). A cancel's calendar entry is freed when NT passes its stamp plus 2.000 s. -/
  | cancelExpire
  /-- MARKER (R73). A marker's journal record is written on the tick at which its stamp takes effect. -/
  | marker
  /-- HB_LEAD (R115). The die commands HB closed 4.0 µs before the open instant of a boosted shot. -/
  | hbLead
  /-- OPEN_INSTANT (R12). The fire strobe rises and LS of the channel begins to conduct at the planned open instant. -/
  | openInstant
  /-- BOOST_END (R115). The boost phase ends when the sensed current reaches I_BST or at T_BST_MAX, and HB opens. -/
  | boostEnd (dt : Nat) (x : Sensed)
  /-- PEAK_END (R114). The peak phase ends at open instant plus T_PK and hold begins. -/
  | peakEnd (x : Sensed)
  /-- CHOP_THRESHOLD (R117). The sensed current crosses a hysteresis threshold and LS closes or opens. -/
  | chopThreshold (dt : Nat) (v : Fin 96) (cur : Nat)
  /-- RELEASE_START (R114). Release begins at the shot's release start with the profile's REL_MODE. -/
  | releaseStart (v : Fin 96)
  /-- RELEASE_END (R119). Release ends when the sensed current falls below 20 mA. -/
  | releaseEnd (dt : Nat) (v : Fin 96)
  /-- RELX (R120). A release reaching T_REL_MAX with current flowing ends for sequencing and carries RELX. -/
  | relx (v : Fin 96)
  /-- ABSORB (R121). VBST above VBST_SET + 3 V makes fast decays run as clamps. -/
  | absorb (dt : Nat) (r : Rail)
  /-- ABSORB_END (R121). VBST below VBST_SET + 2 V returns the die to fast decay. -/
  | absorbEnd (dt : Nat) (r : Rail)
  /-- ARRIVAL (R142). The armature's arrival is confirmed on the current slope. -/
  | arrival (v : Fin 96) (samples : List Sample)
  /-- LEARN_UPDATE (R145). The learned state of the valve and profile is updated from the measured delay. -/
  | learnUpdate (dt : Nat) (v : Fin 96)
  /-- JOURNAL_WRITE (R150). A journal record, or a shot's group of records, is written into the journal ring. -/
  | journalWrite (dt : Nat) (q : JournalIn)
  /-- CAPTURE_DONE (R157). A waveform capture's samples and record copy are stored and VSN_CAP_WR advances. -/
  | captureDone (dt : Nat) (engine : Fin 4) (samples : List (BitVec 12))
  /-- DELAY_WRITE (R148). A software write to the live learned table or a FAILED mark takes effect on one TIME tick. -/
  | delayWrite (mark : Bool) (n : Nat) (w : Word)
  /-- SAVED_WRITE (R149). A software write to the saved table or saved FAILED marks also sets SAVED. -/
  | savedWrite (mark : Bool) (n : Nat) (w : Word)
  /-- RESET_ALL (R149). Every live learned state is set to its initial value. -/
  | resetAll
  /-- RESET_V (R149). The live learned states of one valve are set to their initial values. -/
  | resetV (v : Fin 96)
  /-- SAVE (R149). The saved table and marks are set from the live ones. -/
  | save
  /-- RESTORE (R149). The live table and marks are set from the saved ones. -/
  | restore
  /-- REFSET (R149). The reference table is set from the live table. -/
  | refset
  /-- JOURNAL_RESTART (R154). VSN_JCTL.RESTART sets VSN_JWR and VSN_JRD to 0 in READY. -/
  | journalRestart
  /-- CAPTURE_ARM (R156). VSN_CAP_CTL.ARM requests a capture of the valve's next shot. -/
  | captureArm (v : Fin 96)
  /-- CHANNEL_ENABLE_WRITE (R133). Clearing or setting a channel enable moves the channel among OFF, ON, DISABLING and PENDING. -/
  | channelEnableWrite (k : Fin 3) (w : Word)
  /-- BANK_ENABLE_WRITE (R135). Clearing or setting a bank enable acts on every channel of the bank and on HS. -/
  | bankEnableWrite (w : Word)
  /-- BANK_DRY_WRITE (R130). A change of BNK_DRY acts on shots freezing from the tick it takes effect. -/
  | bankDryWrite (w : Word)
  /-- PROP_SET_UPDATE (R128). A proportional channel reads its source slot 46 µs after the beat start and sets its current. -/
  | propSetUpdate
  /-- NT_SECOND (R316). NT passes a whole second: CAN timestamp pairs are latched and dither phases restart. -/
  | ntSecond
  /-- PRF_VMCLR (R123). PRF_VBST_LOWEST is set to the present VBST. -/
  | prfVmclr
  /-- OVERCURRENT (R164). LS current at or above 4.6 A puts the channel in its safe state with cause OC or SHORT. -/
  | overcurrent (dt : Nat) (v : Fin 96) (lat : Nat) (imax : Nat)
  /-- OPEN_LOAD (R164). Current below 50 mA at the open-load test instant reports OPEN on the channel. -/
  | openLoad (v : Fin 96) (cur : Nat)
  /-- STUCKON (R164). Current or drain level on an idle channel puts its bank in its safe state. -/
  | stuckon (dt : Nat) (v : Fin 96) (imax : Nat)
  /-- BOOST_TIMEOUT_FAULT (R164). BSTTO_N consecutive BSTTO shots make the channel's boosted variants run as fallback. -/
  | boostTimeoutFault (v : Fin 96) (code : Option (BitVec 12))
  /-- RELEASE_OVERRUN_FAULT (R164). RELX_N consecutive RELX shots put the channel in its safe state. -/
  | releaseOverrunFault (v : Fin 96) (code : Option (BitVec 12))
  /-- HB_FAULT (R164). HB overcurrent or desaturation puts the bank in its safe state. -/
  | hbFault (dt : Nat) (b : Fin 12)
  /-- HS_FAULT (R164). HS overcurrent or desaturation puts the bank in its safe state. -/
  | hsFault (dt : Nat) (b : Fin 12)
  /-- VLS_UNDERVOLTAGE (R164). VLSb below 8.0 V for 10 µs puts the bank in its safe state. -/
  | vlsUndervoltage (dt : Nat) (b : Fin 12) (vls : Nat)
  /-- VLS_RECOVER (R164). VLSb at or above 8.5 V for 1 ms ends the VLS undervoltage. -/
  | vlsRecover (dt : Nat) (b : Fin 12) (vls : Nat)
  /-- OV1 (R164). VBST above VBST_SET + 6 V stops the boost controller and forces clamped decays. -/
  | ov1 (dt : Nat) (r : Rail)
  /-- OV1_END (R164). VBST below VBST_SET + 2 V ends OV1. -/
  | ov1End (dt : Nat) (r : Rail)
  /-- OV2 (R164). VBST above 82.0 V for 2 µs puts the device in SAFE. -/
  | ov2 (dt : Nat) (r : Rail)
  /-- VBST_UV (R164). VBST sags or fails to regulate and PRF_VBST_UV is raised. -/
  | vbstUv (dt : Nat) (r : Rail) (start : Bool)
  /-- VBST_UV_END (R164). VBST within ±1 % of VBST_SET ends the undervoltage. -/
  | vbstUvEnd (dt : Nat) (r : Rail)
  /-- DIE_TEMP_WARNING (R164). A die junction at or above 140 °C raises the warning. -/
  | dieTempWarning (dt : Nat) (d : Fin 3) (t : Int)
  /-- DIE_TEMP_WARNING_END (R164). A die junction below 130 °C ends the warning. -/
  | dieTempWarningEnd (dt : Nat) (d : Fin 3) (t : Int)
  /-- DIE_TEMP_SHUTDOWN (R164). A die junction at or above 165 °C puts its four banks in their safe states. -/
  | dieTempShutdown (dt : Nat) (d : Fin 3) (t : Int)
  /-- DIE_LINK_LOSS (R164). Loss of the die control link opens the die's switches and puts the device in SAFE. -/
  | dieLinkLoss (dt : Nat) (d : Fin 3) (hub : Bool)
  /-- DRV_EN_LOW (R164). DRV_EN low for 2 µs opens LS, FW and HB by hard wire and, from ARMED or DRY, enters SAFE. -/
  | drvEnLow (dt : Nat)
  /-- DRV_EN_HIGH (R164). DRV_EN returns high and its recovery condition holds. -/
  | drvEnHigh (dt : Nat)
  /-- FAULT_CLEAR (R166). Software writes 1 to latched fault bits, each refused on its own until its recovery condition holds. -/
  | faultClear (addr : Nat) (w : Word)
  /-- FAULT_CLEAR_EFFECT (R166). A clear takes effect once the current of every channel concerned is below 20 mA. -/
  | faultClearEffect (dt : Nat) (still : StillOn)
  /-- SYNC (R183). A one-step Sync copy is timestamped, corrected and forwarded, and kept for the slave. -/
  | sync (dt : Nat) (p : Fin 2) (num src seq : Nat) (logInt : Int) (twoStep fcsOk : Bool) (origin corr : Int) (q : Nat) (f : RxFrame)
  /-- SYNC_OFFSET (R184). θ is taken from both copies or after 500 µs from one, and the servo, state tests and tracked offset act on it. -/
  | syncOffset (dt : Nat)
  /-- ANNOUNCE (R181). An Announce message feeds the best master clock algorithm of its domain. -/
  | announce (dt num src gm : Nat) (rank : List Nat) (logInt : Int) (seq steps : Nat)
  /-- ANNOUNCE_TIMEOUT (R181). A foreign master's Announce receipt timeout expires. -/
  | announceTimeout (d : Fin 2)
  /-- PDELAY_SEND (R182). A port sends its Pdelay_Req every 2^LOG_PDELAY s. -/
  | pdelaySend (p : Fin 2)
  /-- PDELAY_REQ (R182). A neighbour's Pdelay_Req is answered with a one-step Pdelay_Resp. -/
  | pdelayReq (dt : Nat) (p : Fin 2) (seq : Nat) (ask : PdelayAsk)
  /-- PDELAY_RESP (R182). A Pdelay_Resp updates the port's filtered link delay and its validity. -/
  | pdelayResp (dt : Nat) (p : Fin 2) (seq : Nat) (turn : Int) (ratio : Option Int) (q : Nat)
  /-- PDELAY_TIMEOUT (R182). A Pdelay exchange ends without response and is counted toward invalidity. -/
  | pdelayTimeout (dt : Nat) (p : Fin 2)
  /-- DOMAIN_LOSS (R174). No valid Sync for LOSS_N + 0.5 intervals declares the loss of a domain. -/
  | domainLoss (d : Fin 2)
  /-- HOLDOVER_EXPIRE (R174). HOLD_MAX elapses in HOLDOVER and the timebase enters FREERUN. -/
  | holdoverExpire
  /-- TIM_SWITCH (R177). TIM_CTL.SWITCH requests a domain switch, accepted or refused with TIM_SW_REFUSED. -/
  | timSwitch
  /-- SWITCH_TICK (R177). On the 10 ms multiple the domains exchange places, or the switch is refused. -/
  | switchTick
  /-- TIM_SW_DONE (R178). The residual slew has removed ρ and the normal servo resumes. -/
  | timSwDone
  /-- TIM_SET (R173). TIM_CTL.SET steps NT to the TIM_SET values outside ARMED and DRY. -/
  | timSet
  /-- TIM_CCLR (R173). Every TIM counter is cleared. -/
  | timCclr
  /-- FRAME_RECEIVE (R192). A frame arriving on a ring port is forwarded, discarded as duplicate, or delivered locally. -/
  | frameReceive (dt : Nat) (p : Fin 2) (f : RxFrame)
  /-- FRAME_TRANSMIT (R195). A queued frame leaves its port when its turn comes in strict priority. -/
  | frameTransmit (dt : Nat) (p : Fin 2)
  /-- LINK_UP (R189). A port's link comes up after 10 ms of synchronisation and negotiation. -/
  | linkUp (dt : Nat) (p : Fin 2) (speed : Nat)
  /-- LINK_DOWN (R189). Synchronisation lost for 10 µs takes a port's link down and discards its queues. -/
  | linkDown (dt : Nat) (p : Fin 2)
  /-- MODE_ALTERNATE (R190). Without an image a port switches between 2500BASE-X and 1000BASE-X every 100 ms. -/
  | modeAlternate (p : Fin 2)
  /-- SUPERVISION_SEND (R191). An HSR supervision frame is sent every 2.0 s. -/
  | supervisionSend
  /-- NODE_TABLE_AGE (R193). A node-table entry unused for 60 s is removed. -/
  | nodeTableAge
  /-- ARP_REQUEST (R198). An ARP request for the module's address is answered. -/
  | arpRequest (dt : Nat) (from_ : ArpSender) (spa tpa : Word) (request : Bool)
  /-- ICMP_ECHO (R198). An ICMP echo request is answered. -/
  | icmpEcho (dt mac : Nat) (ip : Word) (data : List Byte)
  /-- EVENT_FRAME (R209). An event frame is sent when 45 entries wait, EVT_WAIT elapses, or CMD_SHED or NET_RELEASE is raised. -/
  | eventFrame
  /-- EVENT_HEARTBEAT (R209). A COUNT 0 event frame is sent when no frame has gone out for EVT_HB. -/
  | eventHeartbeat
  /-- NET_GARP (R197). NET_CTL.GARP sends a gratuitous ARP on each port that is up. -/
  | netGarp
  /-- RING_RELEASE (R212). Each port completes its current frame and turns its transmitter off. -/
  | ringRelease
  /-- BEAT (R15). A beat starts and every signal slot is latched into the input copy. -/
  | beat
  /-- LOOP_EXECUTION (R219). One due loop is computed from the input copy in ascending loop number. -/
  | loopExecution (retries : Nat)
  /-- LOOP_OUTPUT (R216). At the output phase the loop writes its output and error slots and its sinks. -/
  | loopOutput
  /-- IO_UPDATE (R236). Analog and digital outputs and routed fans without a loop source update 47 µs after the beat start. -/
  | ioUpdate
  /-- LOOP_MODE_WRITE (R229). A write of LOOP_CTLn.MODE, admitted on leaving OFF, acts in the next execution. -/
  | loopModeWrite (n : Fin 64) (w : Word)
  /-- LOOP_APPLY (R227). A 1 in LOOP_APPLY copies a loop's shadow coefficients into force when its mode allows. -/
  | loopApply (k : Fin 2) (w : Word)
  /-- HOST_SLOT_WRITE (R234). A write of LOOP_HVALm sets the host slot's value with COND 0. -/
  | hostSlotWrite (m : Fin 256) (w : Word)
  /-- HOST_SLOT_INVALIDATE (R234). Setting a LOOP_HINV bit sets the host slot to COND 3. -/
  | hostSlotInvalidate (k : Fin 8) (w : Word)
  /-- DI_CHANGE (R240). A digital input changes its filtered state and its slot. -/
  | diChange (dt : Nat) (e : DiEdge)
  /-- ENC_EDGE (R242). An encoder A or B transition changes the count or is counted as illegal. -/
  | encEdge (dt : Nat) (e : EncEdge) (a b : Bool)
  /-- ENC_INDEX (R242). A rising Z edge clears the count when ZCLR is 1. -/
  | encIndex (dt : Nat) (k : Fin 4)
  /-- GIO_DO_OVERLOAD (R241). An overloaded digital output switches off and latches its fault bit. -/
  | gioDoOverload (dt : Nat) (k : Fin 16)
  /-- GIO_AO_FAULT (R239). An analog output that cannot drive its load sets OPEN or SHORT. -/
  | gioAoFault (dt : Nat) (k : Fin 8)
  /-- AO_FAULT_END (R239). An analog output condition absent for 10 ms clears its bit. -/
  | aoFaultEnd (dt : Nat) (k : Fin 8)
  /-- EPH_ENABLE (R229). Setting EPH_CTLn.EN enables Ephemeris on a loop, subject to admission. -/
  | ephEnable (n : Fin 64) (w : Word)
  /-- EPH_CLEAR (R252). EPH_CTLn.CLEAR sets every bin of the loop to 0 between executions. -/
  | ephClear (n : Fin 64)
  /-- EPH_RESTORE (R252). EPH_CTLn.RESTORE sets every bin of the loop to its initial value. -/
  | ephRestore (n : Fin 64)
  /-- EPH_BIN_WRITE (R252). A host write to a bin stands over a learning update of that execution. -/
  | ephBinWrite (k : Fin 8192) (w : Word)
  /-- EPH_CCLR (R261). The EPH drop, discard and learning counters are cleared. -/
  | ephCclr
  /-- INJ_ARM (R255). ARM binds an injection generator to a loop and charges its cost. -/
  | injArm (g : Fin 4)
  /-- INJ_ABORT (R258). ABORT stops an active generator. -/
  | injAbort (g : Fin 4)
  /-- EPH_INJ_END (R255). A generator reaches m = LEN and releases its loop. -/
  | ephInjEnd (g : Fin 4)
  /-- CAP_ARM (R259). ARM binds a response-capture channel to a loop. -/
  | capArm (c : Fin 8)
  /-- CAP_STOP (R259). STOP ends a response capture at once. -/
  | capStop (c : Fin 8)
  /-- EPH_CAP_DONE (R259). A capture has counted LEN records and releases its loop. -/
  | ephCapDone (c : Fin 8)
  /-- CAPTURE_QUEUE_WRITE (R261). A queued response-capture record is written to DRAM. -/
  | captureQueueWrite
  /-- OUTPUT_SAMPLE (R263). A front-end output sample is linearised and written with its tag to its slot. -/
  | outputSample (dt : Nat) (k : Fin 16) (low : Bool)
  /-- EXC_LEVEL_WRITE (R274). A change of an excitation level flushes its pair and starts suppression. -/
  | excLevelWrite (j : Fin 8) (w : Word)
  /-- SUPPRESSION_END (R274). The settle time and filter length have passed and the channel produces output again. -/
  | suppressionEnd (k : Fin 16)
  /-- AFE_EXC_FAULT (R277). Excitation current above 30 mA for 1 ms switches the output off. -/
  | afeExcFault (dt : Nat) (j : Fin 8) (q : Nat)
  /-- EXC_RESTART (R277). A faulted excitation output is switched on again after 1 s. -/
  | excRestart (j : Fin 8)
  /-- EXC_FAULT_CLEAR (R277). A restart that stays within 30 mA for 100 ms clears FAULT. -/
  | excFaultClear (j : Fin 8)
  /-- AFE_CHEN_WRITE (R283). Clearing a channel enable sets COND 3; setting it flushes and restarts the channel. -/
  | afeChenWrite (w : Word)
  /-- ZONE_UPDATE (R292). Every 10 ms zone temperatures are formed and every fan's state and duty are set. -/
  | zoneUpdate (milli : List Nat)
  /-- TACH_EDGE (R287). A tach falling edge updates the fan's speed slot. -/
  | tachEdge (dt : Nat) (k : Fin 16) (near : Bool)
  /-- TACH_TIMEOUT (R299). No tach edge within the timeout makes the fan TACH_LOST or STALL_SUSPECT at the next update. -/
  | tachTimeout (k : Fin 16)
  /-- SWITCH_TRIP (R288). A fan switch current of 3.6 A or more opens the switch within 10 µs. -/
  | switchTrip (dt : Nat) (sw : Fin 8) (milli : Nat)
  /-- FAN_LOCKED_ROTOR (R297). Switch current above LR_ILIM for 20 ms opens the switch as a failed attempt. -/
  | fanLockedRotor (dt : Nat) (k : Fin 16) (milli : Nat)
  /-- FAN_ENABLE_WRITE (R295). Setting or clearing a FAN_EN bit starts a fan or lets it coast or stop. -/
  | fanEnableWrite (w : Word)
  /-- FAN_RESTART (R296). A 1 written to FAN_LOCK restarts a LOCKED fan with KICK. -/
  | fanRestart (w : Word)
  /-- CAN_RX_FRAME (R308). A received CAN frame at its validity point is filtered into a FIFO, the decoder, or discarded. -/
  | canRxFrame (dt : Nat) (x : Fin 2) (f : CanRx)
  /-- CAN_RX_RELEASE (R309). A write to CANx_RXFk_ACK releases the n oldest FIFO entries. -/
  | canRxRelease (x k : Fin 2) (n : BitVec 7)
  /-- CAN_DEC_TMO (R314). A decoded signal not written for TMO ms takes COND 3. -/
  | canDecTmo (x : Fin 2) (e : Fin 256)
  /-- CAN_TX_PUSH (R311). PUSH appends the staged frame to the transmit queue. -/
  | canTxPush (x : Fin 2)
  /-- CAN_ABORT_HEAD (R311). ABORT_HEAD removes the queue head, at once or after its attempt. -/
  | canAbortHead (x : Fin 2)
  /-- CAN_FLUSH (R311). FLUSH removes every entry of the transmit queue. -/
  | canFlush (x : Fin 2)
  /-- CAN_TX_ATTEMPT (R312). The controller chooses a candidate and starts an arbitration attempt. -/
  | canTxAttempt (dt : Nat) (x : Fin 2)
  /-- CAN_TX_END (R307). An attempt ends in success, lost arbitration or an error, with fault confinement applied. -/
  | canTxEnd (dt : Nat) (x : Fin 2) (e : CanEnd)
  /-- CAN_TT_ARM (R313). ARM makes a timed buffer armed for its NT instant. -/
  | canTtArm (x : Fin 2) (b : Fin 4)
  /-- CAN_TT_CANCEL (R313). CANCEL makes a timed buffer idle, or acts as ABORT_HEAD during transmission. -/
  | canTtCancel (x : Fin 2) (b : Fin 4)
  /-- CAN_TT_INSTANT (R313). A timed buffer's instant takes effect and its frame becomes a candidate. -/
  | canTtInstant (x : Fin 2) (b : Fin 4)
  /-- CAN_ENCODE (R315). An encode frame is built from its sinks 49 µs after a due beat start. -/
  | canEncode
  /-- CAN_MODE_WRITE (R305). A write of CANx_CTL.MODE requests a new mode. -/
  | canModeWrite (x : Fin 2) (w : Word)
  /-- CAN_MODE_EFFECT (R305). The new mode takes effect at the end of the frame in progress, or once 11 recessive bits have passed on leaving CONFIG. -/
  | canModeEffect (dt : Nat) (x : Fin 2)
  /-- CAN_RECOVER (R306). RECOVER begins bus-off recovery. -/
  | canRecover (x : Fin 2)
  /-- CAN_RECOVERED (R306). 128 occurrences of 11 recessive bits end bus-off recovery with both counters at 0. -/
  | canRecovered (dt : Nat) (x : Fin 2)
  /-- CAN_CCLR (R312). Every counter of the controller is cleared. -/
  | canCclr (x : Fin 2)
  /-- RECORD_WRITE (R325). The recorder takes the next queued event and writes and verifies its record, or merges it as a repeat. -/
  | recordWrite (dt : Nat) (f : KenFault)
  /-- LOG_MEDIUM_FAILED (R338). 64 consecutive slot failures or both maps unwritable fail the Kennel and start the DRAM mirror. -/
  | logMediumFailed (dt : Nat) (maps : Bool)
  /-- REC_LOST (R328). After losses, REC_LOST is queued on the first cycle the queue has room. -/
  | recLost
  /-- OPSEC_TICK (R330). The AON domain counts one operating second. -/
  | opsecTick
  /-- POSITION_PERSIST (R332). A position copy is written every 60 s. -/
  | positionPersist (fail : Bool)
  /-- REC_FREEZE (R329). A write of FREEZE stops appends and merges. -/
  | recFreeze
  /-- REC_THAW (R329). A write of THAW ends the freeze and the queue drains. -/
  | recThaw
  /-- FREEZE_EXPIRE (R329). FREEZE_MAX elapses and the freeze ends. -/
  | freezeExpire
  /-- REC_DATA_READ (R334). A read of REC_DATA0 latches the selected slot, and with AUTO a read of REC_DATA7 advances the cursor. -/
  | recDataRead (k : Fin 8)
  /-- REC_CHAL (R336). CHAL fills the challenge registers with a fresh nonce. -/
  | recChal
  /-- CHAL_EXPIRE (R336). The nonce's CHAL_LIFE elapses and CHALV clears. -/
  | chalExpire
  /-- CHAL_LOCKOUT_END (R336). The 60 s refusal of CHAL after 8 denials ends. -/
  | chalLockoutEnd
  /-- REC_CLEAR (R336). CLEAR compares the response and starts the erase, or is denied. -/
  | recClear
  /-- REC_CLEARED (R336). The erase of the circulating area completes and REC_CLEARED is written. -/
  | recCleared (dt : Nat) (f : KenFault)
  /-- CKEY_PROG (R335). PROG starts programming the clear key store. -/
  | ckeyProg
  /-- REC_KEY_SET (R335). The clear key store is programmed and SET becomes 1. -/
  | recKeySet (dt : Nat)
  /-- SHT_NOW (R345). A NOW trigger takes a snapshot while the Shutter is armed. -/
  | shtNow
  /-- SHT_ATARM (R347). ATARM arms the AT trigger for its NT instant. -/
  | shtAtarm
  /-- SHT_AT (R345). The AT instant takes effect and triggers a snapshot. -/
  | shtAt
  /-- SHT_ATCANCEL (R347). ATCANCEL clears a pending AT trigger. -/
  | shtAtcancel
  /-- SHT_EVENT (R346). A matching event reaches SHT and triggers a snapshot. -/
  | shtEvent (dt : Nat)
  /-- SHT_IO_EDGE (R348). The selected edge on SHT_IO in input mode triggers a snapshot. -/
  | shtIoEdge (dt : Nat) (level : Bool)
  /-- SHT_REARM (R350). REARM clears HELD and arms the Shutter. -/
  | shtRearm
  /-- SHT_RDDATA_READ (R351). A read of SHT_RDDATA returns the selected word and advances INDEX. -/
  | shtRddataRead
  /-- RPL_REC_START (R47). Setting CMD_RPL_CTL.REC restarts the REPLAY stream at its first entry. -/
  | rplRecStart
  /-- RPL_PLAY (R48). Setting PLAY in ARMED or DRY computes Δ and starts playback. -/
  | rplPlay
  /-- RPL_ENTRY (R48). A stream entry is presented to CMD at its shifted NT, or skipped for a CRC failure. -/
  | rplEntry
  /-- VERIFY (R61). IMG_CTL.VERIFY starts the checks of R57 on the source. -/
  | verify (src : Fin 4)
  /-- VERIFY_END (R61). Verification completes and sets ERR, VERIFIED, SWAPOK and IMG_SWAP_SECT. -/
  | verifyEnd (dt : Nat)
  /-- COMMIT (R62). IMG_CTL.COMMIT enters LOADING and starts a load. -/
  | commit (src : Fin 4) (keep : Bool)
  /-- LOAD_END (R62). A load ends with the image in force, a restored copy, or no image, and the device returns to READY. -/
  | loadEnd (dt : Nat)
  /-- NOR_ERASE (R59). IMG_NOR_CTL.ERASE invalidates a slot and starts its erase. -/
  | norErase (slot : Fin 4)
  /-- NOR_ERASE_END (R59). The erase of a slot completes. -/
  | norEraseEnd (dt : Nat)
  /-- NOR_COMMIT (R59). IMG_NOR_CTL.COMMIT starts the checks on a slot. -/
  | norCommit (slot : Fin 4)
  /-- NOR_COMMIT_END (R59). The slot is marked valid or left invalid and the directory is updated. -/
  | norCommitEnd (dt : Nat)
  /-- PREFER (R59). IMG_NOR_CTL.PREFER makes a valid slot preferred. -/
  | prefer (slot : Fin 4)
  /-- KEY_PROG (R56). IMG_KEY_CTL.PROG starts programming the image key store. -/
  | keyProg
  /-- KEY_SET (R56). The image key store is programmed and SET becomes 1. -/
  | keySet (dt : Nat)
  /-- SWAP_ARM (R65). IMG_SWAP_CTL.ARM arms a timed swap and starts copying into the standby buffers. -/
  | swapArm
  /-- SWAP_READY (R65). Swap preparation completes and STATE becomes 2. -/
  | swapReady (dt : Nat)
  /-- SWAP_CANCEL (R68). CANCEL cancels a pending swap before its tick. -/
  | swapCancel
  /-- SWAP_TICK (R66). On the swap tick every differing swappable part changes buffer at once, or the swap is late. -/
  | swapTick
  /-- SWAP_DONE (R66). The staged image is copied to the copy in force and DONE is set. -/
  | swapDone (dt : Nat)
  /-- POWER_ON (R359). VSUP rises above 8.7 V with the AON domain unpowered and the module resets. -/
  | powerOn (dt vsup vhld : Nat) (strap : Fin 64)
  /-- RESET_PIN (R359). RESET_N low beyond RST_FILT resets the module. -/
  | resetPin (dt : Nat) (strap : Fin 64)
  /-- SWRST (R359). SYS_CTL.SWRST with KEY 0xC0DE resets the module. -/
  | swrst (key : BitVec 16)
  /-- CLOCK_LOSS (R359). XO missing for 20 µs or a PLL out of lock resets the module. -/
  | clockLoss (dt : Nat)
  /-- BROWN_OUT (R359). VSUP recovered for 100 ms after a power-failure last gasp resets the module. -/
  | brownOut (dt vsup : Nat)
  /-- REINSERTION (R359). EJECT_REQ_N high for 1 s after NET_RELEASE resets the module. -/
  | reinsertion
  /-- BOOT_COMPLETE (R361). BOOT's steps end and the device enters LOADING. -/
  | bootComplete (dt : Nat) (calBad : Bool) (vhld : Nat)
  /-- ARM_FIRST (R366). The first SYS_ARM word with KEY 0xA5C3 sets ARMSTEP. -/
  | armFirst (target : Bool)
  /-- ARM_SECOND (R366). The second SYS_ARM word enters ARMED or DRY, or is refused. -/
  | armSecond (target : Bool)
  /-- DISARM (R362). SYS_CTL.DISARM returns ARMED or DRY to READY. -/
  | disarm
  /-- SAFECLR (R362). SYS_CTL.SAFECLR leaves SAFE for READY, or for LOADING after an SRAM error. -/
  | safeclr
  /-- DRAIN (R362). SYS_CTL.DRAIN enters DRAINING. -/
  | drain
  /-- SRAM_UE (R24). An SRAM double-bit error is reported and acted on by region. -/
  | sramUe (dt : Nat) (region : Fin 14) (u : Nat)
  /-- WDOG_EXPIRE (R367). The host watchdog reaches TIMEOUT and WDOGX is set. -/
  | wdogExpire
  /-- SYS_WDOG_WRITE (R367). A write of SYS_WDOG sets the timeout or enable on the running count. -/
  | sysWdogWrite (w : Word)
  /-- SPREAD_WRITE (R372). A write of PWR_CTL turns a domain's spreading on or off at the next triangle turn. -/
  | spreadWrite (w : Word)
  /-- PWR_FAIL (R368). VSUP below PF_THR for 20 µs gives the power-failure notice and enters DRAINING. -/
  | pwrFail (dt vsup vhld : Nat)
  /-- PWR_VSUP_OV (R356). VSUP above 62.0 V for 10 µs stops the boost controller. -/
  | pwrVsupOv (dt vsup : Nat)
  /-- VSUP_OV_END (R356). VSUP below 60.0 V restarts the boost controller with soft start. -/
  | vsupOvEnd (dt vsup : Nat)
  /-- POWER_OFF (R357). VHLD below 10.0 V with VSUP absent powers the module off. -/
  | powerOff (dt vhld : Nat)
  /-- PWR_EJECT (R370). EJECT_REQ_N low for EJ_FILT enters DRAINING once the state allows. -/
  | pwrEject (dt : Nat) (low : Bool)
  /-- DRAIN_TIMEOUT (R364). 20 ms after entry into DRAINING an open shot begins its release with TRUNC. -/
  | drainTimeout
  /-- LAST_GASP (R341). The last gasp closes episodes, drains the recorder queue, writes REC_LASTGASP and a clean position copy. -/
  | lastGasp (dt : Nat) (f : KenFault) (erased : Nat)
  /-- RANGE_SAMPLE (R269). Each first-stage range sample at 256,000 S/s is corrected and judged for up-range, down-range and saturation, and a decision takes force two range samples later. -/
  | rangeSample (dt : Nat) (xs : List (List Int × Bool))
  /-- NOR_PROGRAM_DRAIN (R60). The 4 KB NOR program queue programs its words into the slot and drains, making room and clearing IMG_NOR_STATUS.BUSY. -/
  | norProgramDrain (dt n : Nat)
  /-- DIE_LINK_RESYNC (R164). The control link to a driver die resynchronises by itself after a link loss, so that the fault's recovery condition holds. -/
  | dieLinkResync (dt : Nat) (d : Fin 3)
  /-- CAN_PROTO_ERROR (R306). A protocol error found while receiving another node's frame raises the error flag, moves RXERR and the error state, and opens or continues a CAN_PROTO episode. -/
  | canProtoError (dt : Nat) (x : Fin 2) (code : Fin 8) (eights : Nat)
  /-- DITHER_EDGE (R129). At each half period of DIT_F × 10 Hz, the square-wave dither of a proportional channel changes sign and so changes the channel's set current. -/
  | ditherEdge (v : Fin 96)
  /-- TEST_PORT_INSTRUCTION (R400). An IEEE 1149.1 instruction on the test port is performed, with EXTEST, CLAMP and HIGHZ acting as BYPASS while DRV_EN is high. -/
  | testPortInstruction (instr : TestInstr)
  /-- CMD_LCLR (R79). Every CMD_LANE_DROP register is cleared. -/
  | cmdLclr
  /-- CMD_CCLR (R79). The CMD refusal, drop, frame, accepted and discard counters are cleared. -/
  | cmdCclr
  /-- CMD_PCLR (R82). CMD_QFILL.PEAK is set to the present fill. -/
  | cmdPclr
  /-- TRN_CCLR (R104). The TRN shot count, counters and TRN_WAIT_MAX are cleared. -/
  | trnCclr
  /-- TRN_PCLR (R93). TRN_CAL_PEAK.PEAK is set to the present fill. -/
  | trnPclr
  /-- TRN_WCLR (R100). TRN_WAIT_MAX.WAIT is set to 0. -/
  | trnWclr
  /-- SHT_CCLR (R345). SHT_MISS_CNT is cleared. -/
  | shtCclr
  /-- REC_CCLR (R328). The REC lost, merge and write counters are cleared. -/
  | recCclr
  /-- AFE_CCLR (R271). Every AFE range and saturation counter is cleared. -/
  | afeCclr
  /-- FAN_CCLR (R296). FAN_ATT_CNT is cleared. -/
  | fanCclr
  /-- BNK_CCLR (R133). The BNK inhibit, pend and plate counters are cleared. -/
  | bnkCclr
  /-- PRF_CCLR (R120). Every PRF counter is cleared. -/
  | prfCclr
  /-- VSN_CCLR (R154). Every VSN counter, shot count and NOARR count is cleared. -/
  | vsnCclr
  /-- NET_CCLR (R195). Every NET counter is cleared. -/
  | netCclr
  /-- GIO_CCLR (R242). Every GIO_ENCERRk is cleared. -/
  | gioCclr
  /-- LOOP_CCLR (R230). Every LOOP_STATn.OVERRUN is cleared. -/
  | loopCclr
  deriving DecidableEq, Repr

end Sys2Proof
end

