-- ==== Sys2Proof/Decode.lean ====
section
/-! DEFINITION. The command a word spells by the bits of the table of operations. No row of the table gives bits: commands reach the block as frames, register writes and events, not as words. -/

namespace Sys2Proof

/-- The command a word spells: none, because no row has bits. -/
def decodeTableWord (_nbits _w : Nat) : Option Instr := none

end Sys2Proof
end

