-- ==== Sys2Proof/Machine/Bits.lean ====
section
/-! DEFINITION. Bit fields, little-endian bytes, saturating and rounding arithmetic, and CRC-32C (00 R1, R2; 16 R320). -/

namespace Sys2Proof.Machine

/-- Field of `n` bits from bit `lsb` up (R1). -/
def fld (w : Word) (lsb n : Nat) : Nat := (w.toNat / 2 ^ lsb) % 2 ^ n

/-- Replace the field of `n` bits from bit `lsb` up by `v` taken modulo its width (R1). -/
def setFld (w : Word) (lsb n v : Nat) : Word :=
  BitVec.ofNat 32 (w.toNat - fld w lsb n * 2 ^ lsb + (v % 2 ^ n) * 2 ^ lsb)

/-- One bit of a word. -/
def bitOf (w : Word) (i : Nat) : Bool := w.getLsbD i

/-- A truth value as a bit. -/
def b2n (b : Bool) : Nat := if b then 1 else 0

/-- A word from a natural number, modulo 2^32. -/
def w32 (n : Nat) : Word := BitVec.ofNat 32 n

/-- A word from an integer in two's complement. -/
def w32i (i : Int) : Word := BitVec.ofInt 32 i

/-- The bytes of `n`, `len` of them, least significant first (R2). -/
def leBytes : Nat → Nat → List Byte
  | 0, _ => []
  | k + 1, n => BitVec.ofNat 8 n :: leBytes k (n / 256)

/-- The number that little-endian bytes spell (R2). -/
def leNat : List Byte → Nat
  | [] => 0
  | b :: bs => b.toNat + 256 * leNat bs

/-- The number that bytes in transmission order spell, first byte most significant. -/
def beNat (bs : List Byte) : Nat := bs.foldl (fun a b => 256 * a + b.toNat) 0

/-- `len` bytes of `bs` from offset `o`, as a little-endian number; bytes beyond the end read 0. -/
def leAt (bs : List Byte) (o len : Nat) : Nat := leNat ((bs.drop o).take len)

/-- The signed value of an `n`-bit number. -/
def sext (n v : Nat) : Int := if v % 2 ^ n < 2 ^ (n - 1) then (v % 2 ^ n : Nat) else (v % 2 ^ n : Nat) - (2 ^ n : Nat)

/-- Add 1 and stay at 0xFFFF_FFFF (the saturating counters). -/
def satInc (w : Word) : Word := if w = 0xFFFFFFFF#32 then w else w + 1

/-- Limit an integer to a range. -/
def clampI (lo hi x : Int) : Int := max lo (min hi x)

/-- Limit a natural number from above. -/
def sat (hi x : Nat) : Nat := min hi x

/-- Quotient rounded to nearest, ties toward +∞; `d` is positive. -/
def divRound (x : Int) (d : Nat) : Int := (2 * x + d) / (2 * d)

/-- Quotient rounded to nearest, ties away from zero; `d` is positive. -/
def divRoundAway (x : Int) (d : Nat) : Int :=
  if 0 ≤ x then (2 * x + d) / (2 * d) else -((2 * (-x) + d) / (2 * d))

/-- Quotient rounded up. -/
def ceilDiv (a b : Nat) : Nat := (a + b - 1) / b

/-- One bit step of CRC-32C, reflected polynomial 0x82F63B78 (R320). -/
def crcBit (c : Word) : Word := if c.getLsbD 0 then (c >>> 1) ^^^ 0x82F63B78#32 else c >>> 1

/-- One byte step of CRC-32C. -/
def crcByte (c : Word) (b : Byte) : Word :=
  crcBit (crcBit (crcBit (crcBit (crcBit (crcBit (crcBit (crcBit (c ^^^ b.setWidth 32))))))))

/-- CRC-32C: the Castagnoli polynomial, initial value 0xFFFF_FFFF, reflected, final XOR 0xFFFF_FFFF (R320). -/
def crc32c (bs : List Byte) : Word := (bs.foldl crcByte 0xFFFFFFFF#32) ^^^ 0xFFFFFFFF#32

/-- Count the set bits of the low `n` bits. -/
def popcount (n : Nat) (w : Nat) : Nat := ((List.range n).filter fun i => w.testBit i).length

end Sys2Proof.Machine
end

