-- ==== Sys2Proof/Machine/Crypto.lean ====
section
/-! DEFINITION. SHA-256 (FIPS 180-4) and HMAC-SHA-256 (RFC 2104), which 03 R54, R56 and 16 R335, R336 use. The constants are PRESUMED from those standards, which the spec names (assumption 3). -/

namespace Sys2Proof.Machine

/-- The greatest number below `r + 2 ^ n` whose power `k` does not exceed `x`, bit by bit from `r` up. -/
def rootUp (k x : Nat) : Nat → Nat → Nat
  | 0, r => r
  | n + 1, r => rootUp k x n (if (r + 2 ^ n) ^ k ≤ x then r + 2 ^ n else r)

/-- The first 32 bits behind the binary point of the root `k` of a number below 2 ^ 9. -/
def rootFrac (k p : Nat) : Word := w32 (rootUp k (p * 2 ^ (32 * k)) 40 0)

/-- The first 64 primes. -/
def shaPrimes : List Nat := (List.range 312).filter fun p => decide (2 ≤ p) && (List.range p).all fun d => decide (d < 2) || p % d != 0

/-- Round constants of SHA-256: from the cube roots of the first 64 primes. -/
def shaK : List Word := shaPrimes.map (rootFrac 3)

/-- Initial hash value of SHA-256: from the square roots of the first 8 primes. -/
def shaH0 : List Word := (shaPrimes.take 8).map (rootFrac 2)

/-- The padded message of SHA-256. -/
def shaPad (m : List Byte) : List Byte :=
  m ++ 0x80#8 :: List.replicate ((119 - m.length % 64) % 64) 0 ++ (leBytes 8 (8 * m.length)).reverse

/-- The big-endian words of a block. -/
def beWords : Nat → List Byte → List Word
  | 0, _ => []
  | k + 1, bs => w32 (beNat (bs.take 4)) :: beWords k (bs.drop 4)

/-- Message schedule: the last 16 words, newest first, give the next one. -/
def shaExpand : Nat → List Word → List Word
  | 0, ws => ws
  | k + 1, ws =>
    let a := ws.getD 14 0
    let b := ws.getD 1 0
    let s0 := a.rotateRight 7 ^^^ a.rotateRight 18 ^^^ (a >>> 3)
    let s1 := b.rotateRight 17 ^^^ b.rotateRight 19 ^^^ (b >>> 10)
    shaExpand k ((ws.getD 15 0 + s0 + ws.getD 6 0 + s1) :: ws)

/-- The eight working variables of SHA-256. -/
structure ShaVars where
  a : Word
  b : Word
  c : Word
  d : Word
  e : Word
  f : Word
  g : Word
  h : Word
  deriving DecidableEq, Repr

/-- One round. -/
def shaRound (v : ShaVars) (kw : Word × Word) : ShaVars :=
  let s1 := v.e.rotateRight 6 ^^^ v.e.rotateRight 11 ^^^ v.e.rotateRight 25
  let ch := (v.e &&& v.f) ^^^ (~~~v.e &&& v.g)
  let t1 := v.h + s1 + ch + kw.1 + kw.2
  let s0 := v.a.rotateRight 2 ^^^ v.a.rotateRight 13 ^^^ v.a.rotateRight 22
  let mj := (v.a &&& v.b) ^^^ (v.a &&& v.c) ^^^ (v.b &&& v.c)
  { a := t1 + (s0 + mj), b := v.a, c := v.b, d := v.c, e := v.d + t1, f := v.e, g := v.f, h := v.g }

/-- Compress one 64-byte block into the hash value. -/
def shaBlock (hs : List Word) (blk : List Byte) : List Word :=
  let ws := (shaExpand 48 (beWords 16 blk).reverse).reverse
  let v0 : ShaVars := ⟨hs.getD 0 0, hs.getD 1 0, hs.getD 2 0, hs.getD 3 0, hs.getD 4 0, hs.getD 5 0, hs.getD 6 0, hs.getD 7 0⟩
  let v := (shaK.zip ws).foldl shaRound v0
  [v0.a + v.a, v0.b + v.b, v0.c + v.c, v0.d + v.d, v0.e + v.e, v0.f + v.f, v0.g + v.g, v0.h + v.h]

/-- Compress `n` blocks in order. -/
def shaBlocks : Nat → List Word → List Byte → List Word
  | 0, hs, _ => hs
  | k + 1, hs, bs => shaBlocks k (shaBlock hs (bs.take 64)) (bs.drop 64)

/-- SHA-256 of a message, 32 bytes in the order the algorithm produces them. -/
def sha256 (m : List Byte) : List Byte :=
  let p := shaPad m
  (shaBlocks (p.length / 64) shaH0 p).flatMap fun w => (leBytes 4 w.toNat).reverse

/-- HMAC-SHA-256 with a 32-byte key (R54). -/
def hmacSha256 (key m : List Byte) : List Byte :=
  let k := key ++ List.replicate (64 - key.length) 0
  sha256 (k.map (· ^^^ 0x5c#8) ++ sha256 (k.map (· ^^^ 0x36#8) ++ m))

/-- The ASCII bytes of a string. -/
def ascii (s : String) : List Byte := s.toList.map fun c => BitVec.ofNat 8 c.toNat

end Sys2Proof.Machine
end

