-- ==== Sys2Proof/Config.lean ====
section
/-! DEFINITION. What one module fixes at manufacture and the values the spec leaves open: opaque constants, of which nothing can be proved but what holds for every value. -/

namespace Sys2Proof.Config

/-- A value the spec does not state, drawn with the plain counter `State.free` (assumption 10). -/
opaque freeValue : Nat → BitVec 64

/-- A byte of the factory calibration region of the NOR flash, by offset in the region (01 R26; assumption 6). -/
opaque factoryByte : Nat → BitVec 8

/-- The logic version of SYS_VER (18, SYS registers). -/
opaque logicVersion : BitVec 32

/-- The serial number of SYS_SERIAL (18, SYS registers). -/
opaque serialNumber : BitVec 64

/-- An octet 0 … 5 of the module's MAC address, from the identity in the factory calibration (10 R197). -/
opaque macOctet : Nat → BitVec 8

/-- The hub's random source: byte `k` of nonce number `n` (16 R336). -/
opaque nonceByte : Nat → Nat → BitVec 8

/-- The temperature a thermocouple or NTC curve yields, Q15.16, by curve number, parameter words P0 … P3, the input as a ratio (numerator, denominator) in mV or in units of 0.01 Ω, and the cold-junction temperature: the functions of IEC 60584-1 and the binary64 logarithm are not in the spec (13 R280; assumption 33). -/
opaque curveValue : Nat → List (BitVec 32) → Int → Nat → Int → Int

/-- The deviation, in 2^-16 °C, of the PT curve's implementation from the exact inverse, by R0 and the input ratio; the model bounds it by 0.01 °C (13 R280; assumption 33). -/
opaque ptError : Nat → Int → Nat → Int

/-- The factory gain trim of a front-end channel in a range, unit 2^-48: how many FS0/2^31 one unit of a first-stage sample is worth there, before the factor 2^RANGE; the spec gives no value and no unit of a first-stage sample (13 R263; assumption 66). -/
opaque afeGain : Nat → Nat → Int

/-- The factory offset trim of a front-end channel in a range, unit FS0/2^31 (13 R263; assumption 66). -/
opaque afeOffset : Nat → Nat → Int

end Sys2Proof.Config
end

