-- ==== Sys2Proof/Machine/RegMap.lean ====
section
/-! DEFINITION. The register map of R403 and R404: every register with its address, its reset value and the bits of each access type of R5, as the register tables of the chapters give them. -/

namespace Sys2Proof.Machine

/-- One row of the register index (R404): `count` registers every `stride` bytes, the group repeated `count2` times every `stride2` bytes.
The masks give the bits of each access type of R5; SHD bits stand in `rw` (the register holds the shadow) and IMG bits in `ro`. -/
structure RegRow where
  base : Nat
  stride : Nat
  count : Nat
  stride2 : Nat
  count2 : Nat
  reset : Nat
  ro : Nat
  rw : Nat
  w1c : Nat
  w1s : Nat
  wo : Nat
  deriving DecidableEq, Repr

/-! Register addresses, by the spec's own names; a range of registers carries the name of its first member. -/
namespace Reg

abbrev SYS_ID : Nat := 0x0
abbrev SYS_VER : Nat := 0x4
abbrev SYS_STATE : Nat := 0x10
abbrev SYS_STATUS : Nat := 0x14
abbrev SYS_ARM : Nat := 0x18
abbrev SYS_CTL : Nat := 0x1C
abbrev SYS_WDOG : Nat := 0x20
abbrev SYS_COMPAT : Nat := 0x24
abbrev SYS_ATTN : Nat := 0x28
abbrev SYS_ECC_CE : Nat := 0x2C
abbrev SYS_WIN_SEL : Nat := 0x40
abbrev SYS_WIN_ADDR : Nat := 0x44
abbrev SYS_WIN_DATA : Nat := 0x48
abbrev IMG_CTL : Nat := 0x10000
abbrev IMG_STATUS : Nat := 0x10004
abbrev IMG_ERR_OFF : Nat := 0x10008
abbrev IMG_SERIAL : Nat := 0x1000C
abbrev IMG_SWAP_CTL : Nat := 0x10020
abbrev IMG_SWAP_AT_SEC_LO : Nat := 0x10024
abbrev IMG_SWAP_AT_SEC_HI : Nat := 0x10028
abbrev IMG_SWAP_AT_NS : Nat := 0x1002C
abbrev IMG_SWAP_SECT : Nat := 0x10030
abbrev IMG_NOR_CTL : Nat := 0x10040
abbrev IMG_NOR_STATUS : Nat := 0x10044
abbrev IMG_SLOTA_SERIAL : Nat := 0x10048
abbrev IMG_SLOTB_SERIAL : Nat := 0x1004C
abbrev IMG_KEY_CTL : Nat := 0x10060
abbrev IMG_KEY_ID : Nat := 0x10064
abbrev IMG_KEY_CHK : Nat := 0x10068
abbrev IMG_KEY : Nat := 0x10080
abbrev CMD_CTL : Nat := 0x20000
abbrev CMD_MIN_LEAD : Nat := 0x20004
abbrev CMD_LATE_TOL : Nat := 0x20008
abbrev CMD_SHED_LVL : Nat := 0x2000C
abbrev CMD_QFILL : Nat := 0x20010
abbrev CMD_STAT : Nat := 0x20014
abbrev CMD_ACC_LO : Nat := 0x20020
abbrev CMD_ACC_HI : Nat := 0x20024
abbrev CMD_FRM_CNT : Nat := 0x20028
abbrev CMD_DISCARD : Nat := 0x2002C
abbrev CMD_LAST_REJ : Nat := 0x20030
abbrev CMD_DROP_CNT : Nat := 0x20040
abbrev CMD_REJ_CNT : Nat := 0x20084
abbrev CMD_RPL_CTL : Nat := 0x20100
abbrev CMD_RPL_LEN : Nat := 0x20104
abbrev CMD_RPL_CRCERR : Nat := 0x20108
abbrev CMD_RPL_DELTA_LO : Nat := 0x2010C
abbrev CMD_RPL_DELTA_HI : Nat := 0x20110
abbrev CMD_LANE_DROP : Nat := 0x20400
abbrev TRN_CTL : Nat := 0x30000
abbrev TRN_FREEZE : Nat := 0x30004
abbrev TRN_GAP_EFF : Nat := 0x30008
abbrev TRN_CAL_FILL : Nat := 0x30010
abbrev TRN_CAL_PEAK : Nat := 0x30014
abbrev TRN_STAT : Nat := 0x30018
abbrev TRN_SHOT_LO : Nat := 0x30020
abbrev TRN_SHOT_HI : Nat := 0x30024
abbrev TRN_JOIN_CNT : Nat := 0x30028
abbrev TRN_WAIT_MAX : Nat := 0x3004C
abbrev TRN_BK_FB : Nat := 0x30080
abbrev BNK_CTL : Nat := 0x40000
abbrev BNK_ROLE : Nat := 0x40004
abbrev BNK_BKEN : Nat := 0x40008
abbrev BNK_DRY : Nat := 0x4000C
abbrev BNK_CHEN : Nat := 0x40010
abbrev BNK_CHST : Nat := 0x40020
abbrev BNK_BKST : Nat := 0x40040
abbrev BNK_INH_CNT : Nat := 0x40050
abbrev BNK_PEND_CNT : Nat := 0x40054
abbrev BNK_PLATE_CNT : Nat := 0x40058
abbrev BNK_FLT_CFG : Nat := 0x40100
abbrev BNK_DIEFLT : Nat := 0x40104
abbrev BNK_BKFLT : Nat := 0x40200
abbrev BNK_PSET : Nat := 0x40400
abbrev BNK_CHFLT : Nat := 0x40600
abbrev PRF_CTL : Nat := 0x50000
abbrev PRF_VBST_SET : Nat := 0x50004
abbrev PRF_VBST : Nat := 0x50008
abbrev PRF_VBST_LOWEST : Nat := 0x5000C
abbrev PRF_STAT : Nat := 0x50010
abbrev PRF_VFLT : Nat := 0x50014
abbrev PRF_RDSEL : Nat := 0x50020
abbrev PRF_RD : Nat := 0x50024
abbrev PRF_VLOW_CNT : Nat := 0x50080
abbrev PRF_BSTTO_CNT : Nat := 0x500C0
abbrev VSN_CTL : Nat := 0x60000
abbrev VSN_LD_CTL : Nat := 0x60004
abbrev VSN_ARR_CFG : Nat := 0x60010
abbrev VSN_HCFG : Nat := 0x60014
abbrev VSN_HCFG2 : Nat := 0x60018
abbrev VSN_JCTL : Nat := 0x60020
abbrev VSN_JWR : Nat := 0x60024
abbrev VSN_JRD : Nat := 0x60028
abbrev VSN_JSEQ : Nat := 0x6002C
abbrev VSN_JDROP : Nat := 0x60030
abbrev VSN_CAP_CTL : Nat := 0x60050
abbrev VSN_CAP_SLOTS : Nat := 0x60054
abbrev VSN_CAP_WR : Nat := 0x60058
abbrev VSN_CAP_RD : Nat := 0x6005C
abbrev VSN_CAP_SEQ : Nat := 0x60060
abbrev VSN_CAP_MISS : Nat := 0x60064
abbrev VSN_FAILED : Nat := 0x60100
abbrev VSN_SFAILED : Nat := 0x60110
abbrev VSN_VSTAT : Nat := 0x60400
abbrev VSN_VSHOT : Nat := 0x60600
abbrev VSN_DELAY : Nat := 0x61000
abbrev VSN_SAVED : Nat := 0x64000
abbrev VSN_REF : Nat := 0x67000
abbrev TIM_CTL : Nat := 0x70000
abbrev TIM_STAT : Nat := 0x70004
abbrev TIM_NT_FRAC : Nat := 0x70010
abbrev TIM_NT_NS : Nat := 0x70014
abbrev TIM_NT_SEC_LO : Nat := 0x70018
abbrev TIM_NT_SEC_HI : Nat := 0x7001C
abbrev TIM_SET_NS : Nat := 0x70020
abbrev TIM_SET_SEC_LO : Nat := 0x70024
abbrev TIM_SET_SEC_HI : Nat := 0x70028
abbrev TIM_INC_FRAC : Nat := 0x70030
abbrev TIM_INC_NS : Nat := 0x70034
abbrev TIM_FREQ : Nat := 0x70038
abbrev TIM_PHASE : Nat := 0x7003C
abbrev TIM_SLEW_MAX : Nat := 0x70040
abbrev TIM_HOLD_MAX : Nat := 0x70044
abbrev TIM_OFS_A : Nat := 0x70050
abbrev TIM_OFS_B : Nat := 0x70054
abbrev TIM_TRK_LO : Nat := 0x70058
abbrev TIM_TRK_HI : Nat := 0x7005C
abbrev TIM_SW_RESID : Nat := 0x70060
abbrev TIM_LINK_PA : Nat := 0x70070
abbrev TIM_LINK_PB : Nat := 0x70074
abbrev TIM_GMID_A_LO : Nat := 0x70080
abbrev TIM_SYNC_A_CNT : Nat := 0x700A0
abbrev NET_CTL : Nat := 0x80000
abbrev NET_STAT : Nat := 0x80004
abbrev NET_IPV4 : Nat := 0x80008
abbrev NET_MAC_LO : Nat := 0x8000C
abbrev NET_MAC_HI : Nat := 0x80010
abbrev NET_PA_RX : Nat := 0x80040
abbrev NET_PB_RX : Nat := 0x80080
abbrev NET_DUP_CNT : Nat := 0x800C0
abbrev LOOP_GCTL : Nat := 0x90000
abbrev LOOP_APPLY : Nat := 0x90004
abbrev LOOP_ADMIT : Nat := 0x9000C
abbrev LOOP_RDSEL : Nat := 0x90010
abbrev LOOP_RDVAL : Nat := 0x90014
abbrev LOOP_RDTAG : Nat := 0x90018
abbrev LOOP_HINV : Nat := 0x90020
abbrev LOOP_HVAL : Nat := 0x90400
abbrev LOOP_CTL : Nat := 0x91000
abbrev LOOP_STAT : Nat := 0x91004
abbrev LOOP_SP : Nat := 0x91008
abbrev LOOP_KP : Nat := 0x91020
abbrev LOOP_ALPHA : Nat := 0x91030
abbrev LOOP_IMIN : Nat := 0x91034
abbrev LOOP_CFG : Nat := 0x91050
abbrev LOOP_OFS : Nat := 0x91054
abbrev LOOP_SLOT : Nat := 0x91058
abbrev LOOP_FFSLOT : Nat := 0x9105C
abbrev LOOP_OUT : Nat := 0x91060
abbrev EPH_CTL : Nat := 0xA0000
abbrev EPH_BPAGE : Nat := 0xA0004
abbrev EPH_CDROP_CNT : Nat := 0xA0010
abbrev EPH_IGCTL : Nat := 0xA0100
abbrev EPH_IGAMP : Nat := 0xA0104
abbrev EPH_IGHOLD : Nat := 0xA010C
abbrev EPH_IGFI0 : Nat := 0xA0110
abbrev EPH_IGM : Nat := 0xA0124
abbrev EPH_CCTL : Nat := 0xA0200
abbrev EPH_CBASE : Nat := 0xA0204
abbrev EPH_CCNT : Nat := 0xA0218
abbrev EPH_LCTL : Nat := 0xA1000
abbrev EPH_CFG : Nat := 0xA1004
abbrev EPH_PREFA : Nat := 0xA1008
abbrev EPH_KR : Nat := 0xA1010
abbrev EPH_PAR : Nat := 0xA101C
abbrev EPH_STAT : Nat := 0xA1020
abbrev EPH_PER : Nat := 0xA1024
abbrev EPH_BIN : Nat := 0xA8000
abbrev AFE_CTL : Nat := 0xB0000
abbrev AFE_CHEN : Nat := 0xB0004
abbrev AFE_STAT : Nat := 0xB0008
abbrev AFE_EXC : Nat := 0xB0020
abbrev AFE_CHCFG : Nat := 0xB0100
abbrev AFE_CHST : Nat := 0xB0200
abbrev AFE_RAW : Nat := 0xB0300
abbrev AFE_RCNT : Nat := 0xB0400
abbrev AFE_SATCNT : Nat := 0xB0500
abbrev FAN_CTL : Nat := 0xC0000
abbrev FAN_EN : Nat := 0xC0004
abbrev FAN_LOCK : Nat := 0xC0008
abbrev FAN_STAT : Nat := 0xC000C
abbrev FAN_ATT_CNT : Nat := 0xC0010
abbrev FAN_ST : Nat := 0xC0100
abbrev FAN_ZST : Nat := 0xC0200
abbrev CAN_CTL (x : Nat) : Nat := 0xD0000 + 0x10000 * x
abbrev CAN_STAT (x : Nat) : Nat := 0xD0004 + 0x10000 * x
abbrev CAN_NBT (x : Nat) : Nat := 0xD0008 + 0x10000 * x
abbrev CAN_DBT (x : Nat) : Nat := 0xD000C + 0x10000 * x
abbrev CAN_TDC (x : Nat) : Nat := 0xD0010 + 0x10000 * x
abbrev CAN_TXERR (x : Nat) : Nat := 0xD0014 + 0x10000 * x
abbrev CAN_RXERR (x : Nat) : Nat := 0xD0018 + 0x10000 * x
abbrev CAN_TSCFG (x : Nat) : Nat := 0xD001C + 0x10000 * x
abbrev CAN_TSC (x : Nat) : Nat := 0xD0020 + 0x10000 * x
abbrev CAN_RXOK_CNT (x : Nat) : Nat := 0xD0030 + 0x10000 * x
abbrev CAN_RXF_ST (x : Nat) : Nat := 0xD0100 + 0x10000 * x
abbrev CAN_RXF_ACK (x : Nat) : Nat := 0xD0104 + 0x10000 * x
abbrev CAN_RXF_W (x : Nat) : Nat := 0xD0180 + 0x10000 * x
abbrev CAN_TXQ_CTL (x : Nat) : Nat := 0xD0300 + 0x10000 * x
abbrev CAN_TXQ_ST (x : Nat) : Nat := 0xD0304 + 0x10000 * x
abbrev CAN_TXW (x : Nat) : Nat := 0xD0380 + 0x10000 * x
abbrev CAN_TT_CTL (x : Nat) : Nat := 0xD0400 + 0x10000 * x
abbrev CAN_TT_NS (x : Nat) : Nat := 0xD0404 + 0x10000 * x
abbrev CAN_TT_WIN (x : Nat) : Nat := 0xD0410 + 0x10000 * x
abbrev CAN_TT_W (x : Nat) : Nat := 0xD0420 + 0x10000 * x
abbrev CAN_FLT (x : Nat) : Nat := 0xD0800 + 0x10000 * x
abbrev CAN_FCTL (x : Nat) : Nat := 0xD0C00 + 0x10000 * x
abbrev REC_CTL : Nat := 0xF0000
abbrev REC_STAT : Nat := 0xF0004
abbrev REC_POS : Nat := 0xF0008
abbrev REC_WRAP : Nat := 0xF000C
abbrev REC_FIDX : Nat := 0xF0010
abbrev REC_BADCNT : Nat := 0xF0014
abbrev REC_OPSEC_LO : Nat := 0xF0018
abbrev REC_OPSEC_HI : Nat := 0xF001C
abbrev REC_PCYC : Nat := 0xF0020
abbrev REC_LOST_CNT : Nat := 0xF0024
abbrev REC_MIRPOS : Nat := 0xF0030
abbrev REC_MEDFAIL : Nat := 0xF0034
abbrev REC_CURSOR : Nat := 0xF0040
abbrev REC_FREEZE : Nat := 0xF0050
abbrev REC_DATA : Nat := 0xF0060
abbrev REC_CLEAR : Nat := 0xF0080
abbrev REC_CHALLENGE : Nat := 0xF0084
abbrev REC_AUTH : Nat := 0xF0094
abbrev REC_CKEY_CTL : Nat := 0xF00C0
abbrev REC_CKEY_ID : Nat := 0xF00C4
abbrev REC_CKEY_CHK : Nat := 0xF00C8
abbrev REC_CKEY : Nat := 0xF00E0
abbrev SHT_CTL : Nat := 0x100000
abbrev SHT_STAT : Nat := 0x100004
abbrev SHT_SEQ : Nat := 0x100008
abbrev SHT_AT_NS : Nat := 0x100010
abbrev SHT_TRIG : Nat := 0x100020
abbrev SHT_IOCFG : Nat := 0x100024
abbrev SHT_SNAP_CAUSE : Nat := 0x100030
abbrev SHT_SNAP_NS : Nat := 0x100034
abbrev SHT_EVSEL : Nat := 0x100040
abbrev SHT_MISS_CNT : Nat := 0x100060
abbrev SHT_RDSEL : Nat := 0x100070
abbrev SHT_RDDATA : Nat := 0x100074
abbrev SHT_RDBLK : Nat := 0x100400
abbrev PWR_CTL : Nat := 0x110000
abbrev PWR_STAT : Nat := 0x110004
abbrev PWR_PFCFG : Nat := 0x110008
abbrev PWR_RET0 : Nat := 0x110010
abbrev PWR_RET1 : Nat := 0x110014
abbrev PWR_RET2 : Nat := 0x110018
abbrev PWR_VMON : Nat := 0x110020
abbrev GIO_CTL : Nat := 0x120000
abbrev GIO_DI : Nat := 0x120004
abbrev GIO_DO : Nat := 0x120008
abbrev GIO_DOFLT : Nat := 0x12000C
abbrev GIO_AOSTAT : Nat := 0x120010
abbrev GIO_AO : Nat := 0x120020
abbrev GIO_ENC : Nat := 0x120040
abbrev GIO_ENCERR : Nat := 0x120050

end Reg

/-- Registers of block 0x00, offsets within the block. -/
def regRows0 : List RegRow :=
  [⟨0x0, 4, 1, 0x0, 1, 0x960001, 0xFFFFFFFF, 0x0, 0x0, 0x0, 0x0⟩,
   ⟨0x4, 4, 3, 0x0, 1, 0x0, 0xFFFFFFFF, 0x0, 0x0, 0x0, 0x0⟩,
   ⟨0x10, 4, 1, 0x0, 1, 0x101, 0x7FF07, 0x0, 0x0, 0x0, 0x0⟩,
   ⟨0x14, 4, 1, 0x0, 1, 0x0, 0xFF1B, 0x0, 0x4, 0x0, 0x0⟩,
   ⟨0x18, 4, 1, 0x0, 1, 0x0, 0x0, 0x0, 0x0, 0x0, 0x1FFFF⟩,
   ⟨0x1C, 4, 1, 0x0, 1, 0x0, 0x0, 0x0, 0x0, 0x0, 0xFFFF000F⟩,
   ⟨0x20, 4, 1, 0x0, 1, 0x10032, 0x0, 0x1FFFF, 0x0, 0x0, 0x0⟩,
   ⟨0x24, 4, 1, 0x0, 1, 0x0, 0x0, 0x1, 0x0, 0x0, 0x0⟩,
   ⟨0x28, 4, 1, 0x0, 1, 0x4, 0x0, 0x7, 0x0, 0x0, 0x0⟩,
   ⟨0x2C, 4, 1, 0x0, 1, 0x0, 0x0, 0x0, 0xFFFFFFFF, 0x0, 0x0⟩,
   ⟨0x40, 4, 1, 0x0, 1, 0x0, 0x0, 0x3, 0x0, 0x0, 0x0⟩,
   ⟨0x44, 4, 1, 0x0, 1, 0x0, 0x0, 0xFFFFFFFF, 0x0, 0x0, 0x0⟩,
   ⟨0x48, 4, 1, 0x0, 1, 0x0, 0x0, 0xFFFFFFFF, 0x0, 0x0, 0x0⟩]

/-- Registers of block 0x01, offsets within the block. -/
def regRows1 : List RegRow :=
  [⟨0x0, 4, 1, 0x0, 1, 0x0, 0x0, 0x34, 0x0, 0x0, 0x3⟩,
   ⟨0x4, 4, 1, 0x0, 1, 0x0, 0x1F0F3F, 0x0, 0x0, 0x0, 0x0⟩,
   ⟨0x8, 4, 1, 0x0, 1, 0x0, 0xFFFFFFFF, 0x0, 0x0, 0x0, 0x0⟩,
   ⟨0xC, 4, 1, 0x0, 1, 0x0, 0xFFFFFFFF, 0x0, 0x0, 0x0, 0x0⟩,
   ⟨0x20, 4, 1, 0x0, 1, 0x0, 0xC, 0x0, 0x70, 0x0, 0x3⟩,
   ⟨0x24, 4, 1, 0x0, 1, 0x0, 0x0, 0xFFFFFFFF, 0x0, 0x0, 0x0⟩,
   ⟨0x28, 4, 1, 0x0, 1, 0x0, 0x0, 0xFFFFFFFF, 0x0, 0x0, 0x0⟩,
   ⟨0x2C, 4, 1, 0x0, 1, 0x0, 0x0, 0xFFFFFFFF, 0x0, 0x0, 0x0⟩,
   ⟨0x30, 4, 1, 0x0, 1, 0x0, 0xF, 0x0, 0x0, 0x0, 0x0⟩,
   ⟨0x40, 4, 1, 0x0, 1, 0x10, 0x0, 0x30, 0x0, 0x0, 0x7⟩,
   ⟨0x44, 4, 1, 0x0, 1, 0x0, 0xF, 0x0, 0x0, 0x0, 0x0⟩,
   ⟨0x48, 4, 1, 0x0, 1, 0x0, 0xFFFFFFFF, 0x0, 0x0, 0x0, 0x0⟩,
   ⟨0x4C, 4, 1, 0x0, 1, 0x0, 0xFFFFFFFF, 0x0, 0x0, 0x0, 0x0⟩,
   ⟨0x60, 4, 1, 0x0, 1, 0x0, 0x2, 0x0, 0x0, 0x0, 0x1⟩,
   ⟨0x64, 4, 1, 0x0, 1, 0x0, 0x0, 0xFFFFFFFF, 0x0, 0x0, 0x0⟩,
   ⟨0x68, 4, 1, 0x0, 1, 0x0, 0xFFFFFFFF, 0x0, 0x0, 0x0, 0x0⟩,
   ⟨0x80, 4, 8, 0x0, 1, 0x0, 0x0, 0x0, 0x0, 0x0, 0xFFFFFFFF⟩]

/-- Registers of block 0x02, offsets within the block. -/
def regRows2 : List RegRow :=
  [⟨0x0, 4, 1, 0x0, 1, 0x0, 0x0, 0x0, 0x0, 0x0, 0x3⟩,
   ⟨0x4, 4, 1, 0x0, 1, 0xC8, 0x0, 0x3FF, 0x0, 0x0, 0x0⟩,
   ⟨0x8, 4, 1, 0x0, 1, 0x0, 0x0, 0x1FF, 0x0, 0x0, 0x0⟩,
   ⟨0xC, 4, 1, 0x0, 1, 0xA00, 0x3, 0x300FF00, 0x0, 0x0, 0x0⟩,
   ⟨0x10, 4, 1, 0x0, 1, 0x0, 0x7FFF7FFF, 0x0, 0x0, 0x0, 0x80000000⟩,
   ⟨0x14, 4, 1, 0x0, 1, 0x0, 0x3, 0x0, 0x300, 0x0, 0x0⟩,
   ⟨0x20, 4, 1, 0x0, 1, 0x0, 0xFFFFFFFF, 0x0, 0x0, 0x0, 0x0⟩,
   ⟨0x24, 4, 1, 0x0, 1, 0x0, 0xFFFFFFFF, 0x0, 0x0, 0x0, 0x0⟩,
   ⟨0x28, 4, 1, 0x0, 1, 0x0, 0x0, 0x0, 0xFFFFFFFF, 0x0, 0x0⟩,
   ⟨0x2C, 4, 1, 0x0, 1, 0x0, 0x0, 0x0, 0xFFFFFFFF, 0x0, 0x0⟩,
   ⟨0x30, 4, 1, 0x0, 1, 0x0, 0x37FFF0F, 0x0, 0x0, 0x0, 0x0⟩,
   ⟨0x40, 4, 4, 0x0, 1, 0x0, 0x0, 0x0, 0xFFFFFFFF, 0x0, 0x0⟩,
   ⟨0x84, 4, 14, 0x0, 1, 0x0, 0x0, 0x0, 0xFFFFFFFF, 0x0, 0x0⟩,
   ⟨0x100, 4, 1, 0x0, 1, 0x0, 0x200, 0x7, 0x100, 0x0, 0x0⟩,
   ⟨0x104, 4, 1, 0x0, 1, 0x0, 0xFFFFFFFF, 0x0, 0x0, 0x0, 0x0⟩,
   ⟨0x108, 4, 1, 0x0, 1, 0x0, 0x0, 0x0, 0xFFFFFFFF, 0x0, 0x0⟩,
   ⟨0x10C, 4, 1, 0x0, 1, 0x0, 0xFFFFFFFF, 0x0, 0x0, 0x0, 0x0⟩,
   ⟨0x110, 4, 1, 0x0, 1, 0x0, 0xFFFFFFFF, 0x0, 0x0, 0x0, 0x0⟩,
   ⟨0x400, 4, 128, 0x0, 1, 0x0, 0x0, 0x0, 0xFFFFFFFF, 0x0, 0x0⟩]

/-- Registers of block 0x03, offsets within the block. -/
def regRows3 : List RegRow :=
  [⟨0x0, 4, 1, 0x0, 1, 0x0, 0x0, 0x0, 0x0, 0x0, 0x1⟩,
   ⟨0x4, 4, 1, 0x0, 1, 0x32, 0x0, 0xFF, 0x0, 0x0, 0x0⟩,
   ⟨0x8, 4, 1, 0x0, 1, 0x8C, 0x3FF, 0x0, 0x0, 0x0, 0x0⟩,
   ⟨0x10, 4, 1, 0x0, 1, 0x0, 0x7FFFF, 0x0, 0x0, 0x0, 0x0⟩,
   ⟨0x14, 4, 1, 0x0, 1, 0x0, 0x7FFFF, 0x0, 0x0, 0x0, 0x80000000⟩,
   ⟨0x18, 4, 1, 0x0, 1, 0x0, 0x8, 0x0, 0x7, 0x0, 0x0⟩,
   ⟨0x20, 4, 1, 0x0, 1, 0x0, 0xFFFFFFFF, 0x0, 0x0, 0x0, 0x0⟩,
   ⟨0x24, 4, 1, 0x0, 1, 0x0, 0xFFFFFFFF, 0x0, 0x0, 0x0, 0x0⟩,
   ⟨0x28, 4, 9, 0x0, 1, 0x0, 0x0, 0x0, 0xFFFFFFFF, 0x0, 0x0⟩,
   ⟨0x4C, 4, 1, 0x0, 1, 0x0, 0x1FF, 0x0, 0x0, 0x0, 0x80000000⟩,
   ⟨0x80, 4, 12, 0x0, 1, 0x0, 0x0, 0x0, 0xFFFFFFFF, 0x0, 0x0⟩]

/-- Registers of block 0x04, offsets within the block. -/
def regRows4 : List RegRow :=
  [⟨0x0, 4, 1, 0x0, 1, 0x0, 0x0, 0x0, 0x0, 0x0, 0x1⟩,
   ⟨0x4, 4, 1, 0x0, 1, 0x0, 0xFFFFFF, 0x0, 0x0, 0x0, 0x0⟩,
   ⟨0x8, 4, 1, 0x0, 1, 0x0, 0x0, 0xFFF, 0x0, 0x0, 0x0⟩,
   ⟨0xC, 4, 1, 0x0, 1, 0x0, 0x0, 0xFFF, 0x0, 0x0, 0x0⟩,
   ⟨0x10, 4, 3, 0x0, 1, 0x0, 0x0, 0xFFFFFFFF, 0x0, 0x0, 0x0⟩,
   ⟨0x20, 4, 6, 0x0, 1, 0x0, 0xFFFFFFFF, 0x0, 0x0, 0x0, 0x0⟩,
   ⟨0x40, 4, 1, 0x0, 1, 0x0, 0xFFFFFF, 0x0, 0x0, 0x0, 0x0⟩,
   ⟨0x50, 4, 1, 0x0, 1, 0x0, 0x0, 0x0, 0xFFFFFFFF, 0x0, 0x0⟩,
   ⟨0x54, 4, 1, 0x0, 1, 0x0, 0x0, 0x0, 0xFFFFFFFF, 0x0, 0x0⟩,
   ⟨0x58, 4, 1, 0x0, 1, 0x0, 0x0, 0x0, 0xFFFFFFFF, 0x0, 0x0⟩,
   ⟨0x100, 4, 1, 0x0, 1, 0x6488, 0x0, 0xFFFF, 0x0, 0x0, 0x0⟩,
   ⟨0x104, 4, 1, 0x0, 1, 0x0, 0x1007, 0x0, 0x2770, 0x0, 0x0⟩,
   ⟨0x200, 4, 12, 0x0, 1, 0x0, 0x3C, 0x0, 0x3, 0x0, 0x0⟩,
   ⟨0x400, 4, 96, 0x0, 1, 0x0, 0x3FF, 0x0, 0x0, 0x0, 0x0⟩,
   ⟨0x600, 4, 96, 0x0, 1, 0x0, 0xFF44, 0x0, 0x3B, 0x0, 0x0⟩]

/-- Registers of block 0x05, offsets within the block. -/
def regRows5 : List RegRow :=
  [⟨0x0, 4, 1, 0x0, 1, 0x0, 0x0, 0x0, 0x0, 0x0, 0x3⟩,
   ⟨0x4, 4, 1, 0x0, 1, 0x0, 0xFF, 0x0, 0x0, 0x0, 0x0⟩,
   ⟨0x8, 4, 1, 0x0, 1, 0x0, 0x3FF, 0x0, 0x0, 0x0, 0x0⟩,
   ⟨0xC, 4, 1, 0x0, 1, 0x3FF, 0x3FF, 0x0, 0x0, 0x0, 0x0⟩,
   ⟨0x10, 4, 1, 0x0, 1, 0x0, 0xF, 0x0, 0x0, 0x0, 0x0⟩,
   ⟨0x14, 4, 1, 0x0, 1, 0x0, 0x5, 0x0, 0x2, 0x0, 0x0⟩,
   ⟨0x20, 4, 1, 0x0, 1, 0x1, 0x0, 0x1F, 0x0, 0x0, 0x0⟩,
   ⟨0x24, 4, 8, 0x0, 1, 0x0, 0xFFFFFFFF, 0x0, 0x0, 0x0, 0x0⟩,
   ⟨0x80, 4, 12, 0x0, 1, 0x0, 0x0, 0x0, 0xFFFFFFFF, 0x0, 0x0⟩,
   ⟨0xC0, 4, 4, 0x0, 1, 0x0, 0x0, 0x0, 0xFFFFFFFF, 0x0, 0x0⟩]

/-- Registers of block 0x06, offsets within the block. -/
def regRows6 : List RegRow :=
  [⟨0x0, 4, 1, 0x0, 1, 0x0, 0x0, 0x0, 0x0, 0x0, 0x1⟩,
   ⟨0x4, 4, 1, 0x0, 1, 0x0, 0x40, 0x7F20, 0x0, 0x0, 0x1F⟩,
   ⟨0x10, 4, 1, 0x0, 1, 0x3409A, 0x0, 0x7FFFF, 0x0, 0x0, 0x0⟩,
   ⟨0x14, 4, 1, 0x0, 1, 0x7338064, 0x0, 0x1FFFF3FF, 0x0, 0x0, 0x0⟩,
   ⟨0x18, 4, 1, 0x0, 1, 0xC8, 0x0, 0x3FF, 0x0, 0x0, 0x0⟩,
   ⟨0x20, 4, 1, 0x0, 1, 0x0, 0x0, 0x1, 0x0, 0x0, 0x2⟩,
   ⟨0x24, 4, 1, 0x0, 1, 0x0, 0x1FFFFFF, 0x0, 0x0, 0x0, 0x0⟩,
   ⟨0x28, 4, 1, 0x0, 1, 0x0, 0x0, 0x1FFFFFF, 0x0, 0x0, 0x0⟩,
   ⟨0x2C, 4, 1, 0x0, 1, 0x0, 0xFFFFFFFF, 0x0, 0x0, 0x0, 0x0⟩,
   ⟨0x30, 4, 7, 0x0, 1, 0x0, 0x0, 0x0, 0xFFFFFFFF, 0x0, 0x0⟩,
   ⟨0x50, 4, 1, 0x0, 1, 0x0, 0x0, 0x7F77F06, 0x0, 0x1, 0x0⟩,
   ⟨0x54, 4, 1, 0x0, 1, 0x0, 0x0, 0x3FFF, 0x0, 0x0, 0x0⟩,
   ⟨0x58, 4, 1, 0x0, 1, 0x0, 0x1FFF, 0x0, 0x0, 0x0, 0x0⟩,
   ⟨0x5C, 4, 1, 0x0, 1, 0x0, 0x0, 0x1FFF, 0x0, 0x0, 0x0⟩,
   ⟨0x60, 4, 1, 0x0, 1, 0x0, 0xFFFFFFFF, 0x0, 0x0, 0x0, 0x0⟩,
   ⟨0x64, 4, 1, 0x0, 1, 0x0, 0x0, 0x0, 0xFFFFFFFF, 0x0, 0x0⟩,
   ⟨0x100, 4, 3, 0x0, 1, 0x0, 0x0, 0xFFFFFFFF, 0x0, 0x0, 0x0⟩,
   ⟨0x110, 4, 3, 0x0, 1, 0x0, 0x0, 0xFFFFFFFF, 0x0, 0x0, 0x0⟩,
   ⟨0x400, 4, 96, 0x0, 1, 0x0, 0xFFFF7F, 0x0, 0x0, 0x0, 0x0⟩,
   ⟨0x600, 4, 96, 0x0, 1, 0x0, 0x0, 0x0, 0xFFFFFFFF, 0x0, 0x0⟩,
   ⟨0x1000, 4, 2976, 0x0, 1, 0x0, 0xFFF0000, 0xFFFF, 0x0, 0x0, 0x0⟩,
   ⟨0x4000, 4, 2976, 0x0, 1, 0x0, 0x0, 0xFFFF, 0x0, 0x0, 0x0⟩,
   ⟨0x7000, 4, 2976, 0x0, 1, 0x0, 0x0, 0xFFFF, 0x0, 0x0, 0x0⟩]

/-- Registers of block 0x07, offsets within the block. -/
def regRows7 : List RegRow :=
  [⟨0x0, 4, 1, 0x0, 1, 0x0, 0x0, 0x4, 0x0, 0x0, 0xB⟩,
   ⟨0x4, 4, 1, 0x0, 1, 0x0, 0x3FF, 0x0, 0x0, 0x0, 0x0⟩,
   ⟨0x10, 4, 1, 0x0, 1, 0x0, 0xFFFF, 0x0, 0x0, 0x0, 0x0⟩,
   ⟨0x14, 4, 1, 0x0, 1, 0x0, 0x3FFFFFFF, 0x0, 0x0, 0x0, 0x0⟩,
   ⟨0x18, 4, 1, 0x0, 1, 0x0, 0xFFFFFFFF, 0x0, 0x0, 0x0, 0x0⟩,
   ⟨0x1C, 4, 1, 0x0, 1, 0x0, 0xFFFFFFFF, 0x0, 0x0, 0x0, 0x0⟩,
   ⟨0x20, 4, 1, 0x0, 1, 0x0, 0x0, 0x3FFFFFFF, 0x0, 0x0, 0x0⟩,
   ⟨0x24, 4, 1, 0x0, 1, 0x0, 0x0, 0xFFFFFFFF, 0x0, 0x0, 0x0⟩,
   ⟨0x28, 4, 1, 0x0, 1, 0x0, 0x0, 0xFFFFFFFF, 0x0, 0x0, 0x0⟩,
   ⟨0x30, 4, 1, 0x0, 1, 0x0, 0xFFFFFFFF, 0x0, 0x0, 0x0, 0x0⟩,
   ⟨0x34, 4, 1, 0x0, 1, 0x4, 0x7, 0x0, 0x0, 0x0, 0x0⟩,
   ⟨0x38, 4, 1, 0x0, 1, 0x0, 0xFFFFFFFF, 0x0, 0x0, 0x0, 0x0⟩,
   ⟨0x3C, 4, 1, 0x0, 1, 0x0, 0xFFFFFFFF, 0x0, 0x0, 0x0, 0x0⟩,
   ⟨0x40, 4, 1, 0x0, 1, 0x64, 0x0, 0x1FF, 0x0, 0x0, 0x0⟩,
   ⟨0x44, 4, 1, 0x0, 1, 0x1F4, 0x0, 0x3FFF, 0x0, 0x0, 0x0⟩,
   ⟨0x50, 4, 1, 0x0, 1, 0x0, 0xFFFFFFFF, 0x0, 0x0, 0x0, 0x0⟩,
   ⟨0x54, 4, 1, 0x0, 1, 0x0, 0xFFFFFFFF, 0x0, 0x0, 0x0, 0x0⟩,
   ⟨0x58, 4, 1, 0x0, 1, 0x0, 0xFFFFFFFF, 0x0, 0x0, 0x0, 0x0⟩,
   ⟨0x5C, 4, 1, 0x0, 1, 0x0, 0xFFFFFFFF, 0x0, 0x0, 0x0, 0x0⟩,
   ⟨0x60, 4, 1, 0x0, 1, 0x0, 0xFFFFFFFF, 0x0, 0x0, 0x0, 0x0⟩,
   ⟨0x70, 4, 1, 0x0, 1, 0x0, 0x3FFFF, 0x0, 0x0, 0x0, 0x0⟩,
   ⟨0x74, 4, 1, 0x0, 1, 0x0, 0x3FFFF, 0x0, 0x0, 0x0, 0x0⟩,
   ⟨0x80, 4, 4, 0x0, 1, 0x0, 0xFFFFFFFF, 0x0, 0x0, 0x0, 0x0⟩,
   ⟨0xA0, 4, 7, 0x0, 1, 0x0, 0x0, 0x0, 0xFFFFFFFF, 0x0, 0x0⟩]

/-- Registers of block 0x08, offsets within the block. -/
def regRows8 : List RegRow :=
  [⟨0x0, 4, 1, 0x0, 1, 0x0, 0x0, 0x0, 0x0, 0x0, 0x3⟩,
   ⟨0x4, 4, 1, 0x0, 1, 0x0, 0x3F7F7F, 0x0, 0x80, 0x0, 0x0⟩,
   ⟨0x8, 4, 1, 0x0, 1, 0x0, 0xFFFFFFFF, 0x0, 0x0, 0x0, 0x0⟩,
   ⟨0xC, 4, 1, 0x0, 1, 0x0, 0xFFFFFFFF, 0x0, 0x0, 0x0, 0x0⟩,
   ⟨0x10, 4, 1, 0x0, 1, 0x0, 0xFFFF, 0x0, 0x0, 0x0, 0x0⟩,
   ⟨0x40, 4, 10, 0x0, 1, 0x0, 0x0, 0x0, 0xFFFFFFFF, 0x0, 0x0⟩,
   ⟨0x80, 4, 10, 0x0, 1, 0x0, 0x0, 0x0, 0xFFFFFFFF, 0x0, 0x0⟩,
   ⟨0xC0, 4, 14, 0x0, 1, 0x0, 0x0, 0x0, 0xFFFFFFFF, 0x0, 0x0⟩]

/-- Registers of block 0x09, offsets within the block. -/
def regRows9 : List RegRow :=
  [⟨0x0, 4, 1, 0x0, 1, 0x0, 0x0, 0x0, 0x0, 0x0, 0x1⟩,
   ⟨0x4, 4, 2, 0x0, 1, 0x0, 0x0, 0x0, 0x0, 0x0, 0xFFFFFFFF⟩,
   ⟨0xC, 4, 1, 0x0, 1, 0x0, 0x3FFF, 0x0, 0x0, 0x0, 0x0⟩,
   ⟨0x10, 4, 1, 0x0, 1, 0x0, 0x0, 0x3FF, 0x0, 0x0, 0x0⟩,
   ⟨0x14, 4, 1, 0x0, 1, 0x0, 0xFFFFFFFF, 0x0, 0x0, 0x0, 0x0⟩,
   ⟨0x18, 4, 1, 0x0, 1, 0xC0, 0xFF, 0x0, 0x0, 0x0, 0x0⟩,
   ⟨0x20, 4, 8, 0x0, 1, 0xFFFFFFFF, 0x0, 0xFFFFFFFF, 0x0, 0x0, 0x0⟩,
   ⟨0x400, 4, 256, 0x0, 1, 0x0, 0x0, 0xFFFFFFFF, 0x0, 0x0, 0x0⟩,
   ⟨0x1000, 4, 1, 0x80, 64, 0x0, 0x0, 0xFFFF7F37, 0x0, 0x0, 0x0⟩,
   ⟨0x1004, 4, 1, 0x80, 64, 0x0, 0xFFFF02DB, 0x0, 0x124, 0x0, 0x0⟩,
   ⟨0x1008, 4, 3, 0x80, 64, 0x0, 0x0, 0xFFFFFFFF, 0x0, 0x0, 0x0⟩,
   ⟨0x1020, 4, 4, 0x80, 64, 0x0, 0x0, 0xFFFFFFFF, 0x0, 0x0, 0x0⟩,
   ⟨0x1030, 4, 1, 0x80, 64, 0x0, 0x0, 0xFFFF, 0x0, 0x0, 0x0⟩,
   ⟨0x1034, 4, 6, 0x80, 64, 0x0, 0x0, 0xFFFFFFFF, 0x0, 0x0, 0x0⟩,
   ⟨0x1050, 4, 1, 0x80, 64, 0x0, 0x3FFFFF, 0x0, 0x0, 0x0, 0x0⟩,
   ⟨0x1054, 4, 1, 0x80, 64, 0x0, 0xFFFFFF, 0x0, 0x0, 0x0, 0x0⟩,
   ⟨0x1058, 4, 1, 0x80, 64, 0x3FFFFFFF, 0x3FFFFFFF, 0x0, 0x0, 0x0, 0x0⟩,
   ⟨0x105C, 4, 1, 0x80, 64, 0x3FF, 0x1F3FFF, 0x0, 0x0, 0x0, 0x0⟩,
   ⟨0x1060, 4, 5, 0x80, 64, 0x0, 0xFFFFFFFF, 0x0, 0x0, 0x0, 0x0⟩]

/-- Registers of block 0x0A, offsets within the block. -/
def regRows10 : List RegRow :=
  [⟨0x0, 4, 1, 0x0, 1, 0x0, 0x0, 0x0, 0x0, 0x0, 0x1⟩,
   ⟨0x4, 4, 1, 0x0, 1, 0x0, 0x0, 0x7, 0x0, 0x0, 0x0⟩,
   ⟨0x10, 4, 2, 0x0, 1, 0x0, 0x0, 0x0, 0xFFFFFFFF, 0x0, 0x0⟩,
   ⟨0x100, 4, 1, 0x40, 4, 0x0, 0x3000000, 0x3F01FC, 0xC000000, 0x0, 0x3⟩,
   ⟨0x104, 4, 2, 0x40, 4, 0x0, 0x0, 0xFFFFFFFF, 0x0, 0x0, 0x0⟩,
   ⟨0x10C, 4, 1, 0x40, 4, 0x0, 0x0, 0xFF, 0x0, 0x0, 0x0⟩,
   ⟨0x110, 4, 5, 0x40, 4, 0x0, 0x0, 0xFFFFFFFF, 0x0, 0x0, 0x0⟩,
   ⟨0x124, 4, 1, 0x40, 4, 0x0, 0xFFFFFFFF, 0x0, 0x0, 0x0, 0x0⟩,
   ⟨0x200, 4, 1, 0x40, 8, 0x10000, 0x3000000, 0xFF3F3C, 0xC000000, 0x0, 0x3⟩,
   ⟨0x204, 4, 5, 0x40, 8, 0x0, 0x0, 0xFFFFFFFF, 0x0, 0x0, 0x0⟩,
   ⟨0x218, 4, 2, 0x40, 8, 0x0, 0xFFFFFFFF, 0x0, 0x0, 0x0, 0x0⟩,
   ⟨0x1000, 4, 1, 0x40, 64, 0x0, 0x0, 0x7, 0x0, 0x0, 0x18⟩,
   ⟨0x1004, 4, 1, 0x40, 64, 0x0, 0xFFFF00F3, 0x0, 0x0, 0x0, 0x0⟩,
   ⟨0x1008, 4, 2, 0x40, 64, 0x0, 0xFFFFFFFF, 0x0, 0x0, 0x0, 0x0⟩,
   ⟨0x1010, 4, 3, 0x40, 64, 0x0, 0x0, 0xFFFFFFFF, 0x0, 0x0, 0x0⟩,
   ⟨0x101C, 4, 1, 0x40, 64, 0x0, 0x0, 0x1F0FFF, 0x0, 0x0, 0x0⟩,
   ⟨0x1020, 4, 1, 0x40, 64, 0x0, 0xFFF0007, 0x0, 0x0, 0x0, 0x0⟩,
   ⟨0x1024, 4, 2, 0x40, 64, 0x0, 0xFFFFFFFF, 0x0, 0x0, 0x0, 0x0⟩,
   ⟨0x8000, 4, 8192, 0x0, 1, 0x0, 0x0, 0xFFFFFFFF, 0x0, 0x0, 0x0⟩]

/-- Registers of block 0x0B, offsets within the block. -/
def regRows11 : List RegRow :=
  [⟨0x0, 4, 1, 0x0, 1, 0x0, 0x0, 0x0, 0x0, 0x0, 0x1⟩,
   ⟨0x4, 4, 1, 0x0, 1, 0x0, 0x0, 0xFFFF, 0x0, 0x0, 0x0⟩,
   ⟨0x8, 4, 1, 0x0, 1, 0x0, 0xFFFFFF, 0x0, 0x0, 0x0, 0x0⟩,
   ⟨0x20, 4, 8, 0x0, 1, 0x0, 0xFF03FF00, 0x7, 0x0, 0x0, 0x0⟩,
   ⟨0x100, 4, 16, 0x0, 1, 0x0, 0x3FFFFFF7, 0x0, 0x0, 0x0, 0x0⟩,
   ⟨0x200, 4, 16, 0x0, 1, 0xC0, 0xFF, 0x0, 0x0, 0x0, 0x0⟩,
   ⟨0x300, 4, 16, 0x0, 1, 0x0, 0xFFFFFFFF, 0x0, 0x0, 0x0, 0x0⟩,
   ⟨0x400, 4, 16, 0x0, 1, 0x0, 0x0, 0x0, 0xFFFFFFFF, 0x0, 0x0⟩,
   ⟨0x500, 4, 16, 0x0, 1, 0x0, 0x0, 0x0, 0xFFFFFFFF, 0x0, 0x0⟩]

/-- Registers of block 0x0C, offsets within the block. -/
def regRows12 : List RegRow :=
  [⟨0x0, 4, 1, 0x0, 1, 0x0, 0x0, 0x0, 0x0, 0x0, 0x1⟩,
   ⟨0x4, 4, 1, 0x0, 1, 0x0, 0x0, 0xFFFF, 0x0, 0x0, 0x0⟩,
   ⟨0x8, 4, 1, 0x0, 1, 0x0, 0x0, 0x0, 0xFFFF, 0x0, 0x0⟩,
   ⟨0xC, 4, 1, 0x0, 1, 0x0, 0xFF03, 0x0, 0x0, 0x0, 0x0⟩,
   ⟨0x10, 4, 1, 0x0, 1, 0x0, 0x0, 0x0, 0xFFFFFFFF, 0x0, 0x0⟩,
   ⟨0x100, 4, 16, 0x0, 1, 0x0, 0xFFFFF, 0x0, 0x0, 0x0, 0x0⟩,
   ⟨0x200, 4, 8, 0x0, 1, 0x0, 0x7FFFFF, 0x0, 0x0, 0x0, 0x0⟩]

/-- Registers of block 0x0D, offsets within the block. -/
def regRows13 : List RegRow :=
  [⟨0x0, 4, 1, 0x0, 1, 0x0, 0x0, 0x4F, 0x0, 0x0, 0x30⟩,
   ⟨0x4, 4, 1, 0x0, 1, 0x0, 0xFF, 0x0, 0x0, 0x0, 0x0⟩,
   ⟨0x8, 4, 1, 0x0, 1, 0x0, 0x0, 0x7F7FFF3F, 0x0, 0x0, 0x0⟩,
   ⟨0xC, 4, 1, 0x0, 1, 0x0, 0x0, 0xF0F1F3F, 0x0, 0x0, 0x0⟩,
   ⟨0x10, 4, 1, 0x0, 1, 0x0, 0xFF0000, 0xFF0010FF, 0x0, 0x0, 0x0⟩,
   ⟨0x14, 4, 1, 0x0, 1, 0x0, 0x1FF, 0x0, 0x0, 0x0, 0x0⟩,
   ⟨0x18, 4, 1, 0x0, 1, 0x0, 0xFF, 0x0, 0x0, 0x0, 0x0⟩,
   ⟨0x1C, 4, 1, 0x0, 1, 0x50, 0x0, 0xFF, 0x0, 0x0, 0x0⟩,
   ⟨0x20, 4, 3, 0x0, 1, 0x0, 0xFFFFFFFF, 0x0, 0x0, 0x0, 0x0⟩,
   ⟨0x30, 4, 9, 0x0, 1, 0x0, 0x0, 0x0, 0xFFFFFFFF, 0x0, 0x0⟩,
   ⟨0x100, 256, 2, 0x0, 1, 0x0, 0xFF7F, 0x3F000000, 0x10000, 0x0, 0x0⟩,
   ⟨0x104, 256, 2, 0x0, 1, 0x0, 0x0, 0x0, 0x0, 0x0, 0x7F⟩,
   ⟨0x180, 4, 21, 0x100, 2, 0x0, 0xFFFFFFFF, 0x0, 0x0, 0x0, 0x0⟩,
   ⟨0x300, 4, 1, 0x0, 1, 0x0, 0x0, 0x0, 0x0, 0x0, 0x7⟩,
   ⟨0x304, 4, 1, 0x0, 1, 0x0, 0x7F, 0x0, 0x10000, 0x0, 0x0⟩,
   ⟨0x380, 4, 21, 0x0, 1, 0x0, 0x0, 0xFFFFFFFF, 0x0, 0x0, 0x0⟩,
   ⟨0x400, 4, 1, 0x80, 4, 0x0, 0xC, 0x0, 0x30, 0x0, 0x3⟩,
   ⟨0x404, 4, 3, 0x80, 4, 0x0, 0x0, 0xFFFFFFFF, 0x0, 0x0, 0x0⟩,
   ⟨0x410, 4, 1, 0x80, 4, 0x0, 0x0, 0xFFFF, 0x0, 0x0, 0x0⟩,
   ⟨0x420, 4, 21, 0x80, 4, 0x0, 0x0, 0xFFFFFFFF, 0x0, 0x0, 0x0⟩,
   ⟨0x800, 4, 256, 0x0, 1, 0x0, 0xFFFFFFFF, 0x0, 0x0, 0x0, 0x0⟩,
   ⟨0xC00, 4, 128, 0x0, 1, 0x0, 0xFF77, 0x0, 0x0, 0x0, 0x0⟩]

/-- Registers of block 0x0F, offsets within the block. -/
def regRows15 : List RegRow :=
  [⟨0x0, 4, 1, 0x0, 1, 0x0, 0x0, 0x0, 0x0, 0x0, 0x1⟩,
   ⟨0x4, 4, 1, 0x0, 1, 0x0, 0x1FF7F, 0x0, 0x0, 0x0, 0x0⟩,
   ⟨0x8, 4, 1, 0x0, 1, 0x0, 0xFFFF, 0x0, 0x0, 0x0, 0x0⟩,
   ⟨0xC, 4, 1, 0x0, 1, 0x0, 0xFFFFFFFF, 0x0, 0x0, 0x0, 0x0⟩,
   ⟨0x10, 4, 1, 0x0, 1, 0x0, 0xFFF, 0x0, 0x0, 0x0, 0x0⟩,
   ⟨0x14, 4, 1, 0x0, 1, 0x0, 0x1FFFF, 0x0, 0x0, 0x0, 0x0⟩,
   ⟨0x18, 4, 1, 0x0, 1, 0x0, 0xFFFFFFFF, 0x0, 0x0, 0x0, 0x0⟩,
   ⟨0x1C, 4, 1, 0x0, 1, 0x0, 0xFF, 0x0, 0x0, 0x0, 0x0⟩,
   ⟨0x20, 4, 1, 0x0, 1, 0x0, 0xFFFFFF, 0x0, 0x0, 0x0, 0x0⟩,
   ⟨0x24, 4, 3, 0x0, 1, 0x0, 0x0, 0x0, 0xFFFFFFFF, 0x0, 0x0⟩,
   ⟨0x30, 4, 1, 0x0, 1, 0x0, 0xFFFF7FFF, 0x0, 0x0, 0x0, 0x0⟩,
   ⟨0x34, 4, 1, 0x0, 1, 0x0, 0xFFFFFFFF, 0x0, 0x0, 0x0, 0x0⟩,
   ⟨0x40, 4, 1, 0x0, 1, 0x0, 0x7000000, 0xFFFFF, 0x0, 0x0, 0x0⟩,
   ⟨0x50, 4, 1, 0x0, 1, 0x0, 0xFFFF0000, 0x0, 0x0, 0x1, 0x2⟩,
   ⟨0x60, 4, 8, 0x0, 1, 0x0, 0xFFFFFFFF, 0x0, 0x0, 0x0, 0x0⟩,
   ⟨0x80, 4, 1, 0x0, 1, 0x0, 0x4, 0x0, 0x0, 0x0, 0x3⟩,
   ⟨0x84, 4, 4, 0x0, 1, 0x0, 0xFFFFFFFF, 0x0, 0x0, 0x0, 0x0⟩,
   ⟨0x94, 4, 4, 0x0, 1, 0x0, 0x0, 0x0, 0x0, 0x0, 0xFFFFFFFF⟩,
   ⟨0xC0, 4, 1, 0x0, 1, 0x0, 0x2, 0x0, 0x0, 0x0, 0x1⟩,
   ⟨0xC4, 4, 1, 0x0, 1, 0x0, 0x0, 0xFFFFFFFF, 0x0, 0x0, 0x0⟩,
   ⟨0xC8, 4, 1, 0x0, 1, 0x0, 0xFFFFFFFF, 0x0, 0x0, 0x0, 0x0⟩,
   ⟨0xE0, 4, 8, 0x0, 1, 0x0, 0x0, 0x0, 0x0, 0x0, 0xFFFFFFFF⟩]

/-- Registers of block 0x10, offsets within the block. -/
def regRows16 : List RegRow :=
  [⟨0x0, 4, 1, 0x0, 1, 0x0, 0x0, 0x0, 0x0, 0x0, 0x1F⟩,
   ⟨0x4, 4, 1, 0x0, 1, 0x0, 0xF, 0x0, 0x0, 0x0, 0x0⟩,
   ⟨0x8, 4, 1, 0x0, 1, 0x0, 0xFFFFFFFF, 0x0, 0x0, 0x0, 0x0⟩,
   ⟨0x10, 4, 3, 0x0, 1, 0x0, 0x0, 0xFFFFFFFF, 0x0, 0x0, 0x0⟩,
   ⟨0x20, 4, 1, 0x0, 1, 0x0, 0x0, 0xFF07, 0x0, 0x0, 0x0⟩,
   ⟨0x24, 4, 1, 0x0, 1, 0x0, 0x0, 0x1F, 0x0, 0x0, 0x0⟩,
   ⟨0x30, 4, 1, 0x0, 1, 0x0, 0xFFFF000F, 0x0, 0x0, 0x0, 0x0⟩,
   ⟨0x34, 4, 3, 0x0, 1, 0x0, 0xFFFFFFFF, 0x0, 0x0, 0x0, 0x0⟩,
   ⟨0x40, 4, 8, 0x0, 1, 0x0, 0x0, 0xFFFF, 0x0, 0x0, 0x0⟩,
   ⟨0x60, 4, 1, 0x0, 1, 0x0, 0x0, 0x0, 0xFFFFFFFF, 0x0, 0x0⟩,
   ⟨0x70, 4, 1, 0x0, 1, 0x0, 0x0, 0xFFF001F, 0x0, 0x0, 0x0⟩,
   ⟨0x74, 4, 1, 0x0, 1, 0x0, 0xFFFFFFFF, 0x0, 0x0, 0x0, 0x0⟩,
   ⟨0x400, 4, 256, 0x0, 1, 0x0, 0xFFFFFFFF, 0x0, 0x0, 0x0, 0x0⟩]

/-- Registers of block 0x11, offsets within the block. -/
def regRows17 : List RegRow :=
  [⟨0x0, 4, 1, 0x0, 1, 0x7, 0x0, 0x7, 0x0, 0x0, 0x0⟩,
   ⟨0x4, 4, 1, 0x0, 1, 0x0, 0x3F, 0x0, 0x0, 0x0, 0x0⟩,
   ⟨0x8, 4, 1, 0x0, 1, 0x10A0055, 0x0, 0xFFFF01FF, 0x0, 0x0, 0x0⟩,
   ⟨0x10, 4, 1, 0x0, 1, 0x0, 0xFFFFFFFF, 0x0, 0x0, 0x0, 0x0⟩,
   ⟨0x14, 4, 1, 0x0, 1, 0x0, 0x0, 0x0, 0x3F, 0x0, 0x0⟩,
   ⟨0x18, 4, 2, 0x0, 1, 0x0, 0x0, 0xFFFFFFFF, 0x0, 0x0, 0x0⟩,
   ⟨0x20, 4, 10, 0x0, 1, 0x0, 0xFFFFFFFF, 0x0, 0x0, 0x0, 0x0⟩]

/-- Registers of block 0x12, offsets within the block. -/
def regRows18 : List RegRow :=
  [⟨0x0, 4, 1, 0x0, 1, 0x0, 0x0, 0x0, 0x0, 0x0, 0x1⟩,
   ⟨0x4, 4, 1, 0x0, 1, 0x0, 0xFFFFFFFF, 0x0, 0x0, 0x0, 0x0⟩,
   ⟨0x8, 4, 1, 0x0, 1, 0x0, 0xFFFF, 0x0, 0x0, 0x0, 0x0⟩,
   ⟨0xC, 4, 1, 0x0, 1, 0x0, 0x0, 0x0, 0xFFFF, 0x0, 0x0⟩,
   ⟨0x10, 4, 1, 0x0, 1, 0x0, 0xFFFFFF, 0x0, 0x0, 0x0, 0x0⟩,
   ⟨0x20, 4, 8, 0x0, 1, 0x0, 0x3FFFF, 0x0, 0x0, 0x0, 0x0⟩,
   ⟨0x40, 4, 4, 0x0, 1, 0x0, 0xFFFFFFFF, 0x0, 0x0, 0x0, 0x0⟩,
   ⟨0x50, 4, 4, 0x0, 1, 0x0, 0xFFFFFFFF, 0x0, 0x0, 0x0, 0x0⟩]

/-- The rows of a block (R403); CAN1 repeats CAN0 (R404). -/
def blockRows (b : Nat) : List RegRow :=
  match b with
  | 0 => regRows0
  | 1 => regRows1
  | 2 => regRows2
  | 3 => regRows3
  | 4 => regRows4
  | 5 => regRows5
  | 6 => regRows6
  | 7 => regRows7
  | 8 => regRows8
  | 9 => regRows9
  | 10 => regRows10
  | 11 => regRows11
  | 12 => regRows12
  | 13 => regRows13
  | 15 => regRows15
  | 16 => regRows16
  | 17 => regRows17
  | 18 => regRows18
  | 14 => regRows13
  | _ => []

/-- Whether offset `o` is a member of a row. -/
def RegRow.has (r : RegRow) (o : Nat) : Bool :=
  let d := o - r.base
  let k := if r.count2 ≤ 1 then 0 else d / r.stride2
  let m := d - k * r.stride2
  decide (r.base ≤ o) && decide (k < max r.count2 1) && decide (m % r.stride = 0) && decide (m / r.stride < r.count)

/-- The row of the register at address `a`, if any (R403, R404). -/
def regRow (a : Nat) : Option RegRow :=
  if a % 4 = 0 then (blockRows (a / 0x10000)).find? (·.has (a % 0x10000)) else none

/-- The reset value of the register at `a` (R6); an address without a register reads 0 (R4). -/
def regReset (a : Nat) : Word :=
  match regRow a with
  | some r => BitVec.ofNat 32 r.reset
  | none => 0

end Sys2Proof.Machine
end

