-- ==== Sys2Proof/Machine/Store.lean ====
section
/-! DEFINITION. Reading and writing a sparse store in its canonical form: registers, memories, the signal fabric and every other table by number. -/

namespace Sys2Proof.Machine

/-- What key `k` reads as: its entry, or `d k` where nothing is listed. -/
def storeGet {α : Type} (d : Nat → α) : Store α → Nat → α
  | [], k => d k
  | (j, v) :: l, k => if j = k then v else storeGet d l k

/-- Take key `k` out of the list. -/
def storeDrop {α : Type} : Store α → Nat → Store α
  | [], _ => []
  | (j, v) :: l, k => if j = k then storeDrop l k else (j, v) :: storeDrop l k

/-- Put an entry where its key belongs; `k` is not listed. -/
def storePut {α : Type} : Store α → Nat → α → Store α
  | [], k, v => [(k, v)]
  | (j, w) :: l, k, v => if k < j then (k, v) :: (j, w) :: l else (j, w) :: storePut l k v

/-- Write `v` at key `k`, keeping the canonical form: writing what an unlisted key reads as removes the entry. -/
def storeSet {α : Type} [DecidableEq α] (d : Nat → α) (l : Store α) (k : Nat) (v : α) : Store α :=
  if v = d k then storeDrop l k else storePut (storeDrop l k) k v

/-- The keys rise strictly and stand above `lo`, and no entry equals what an unlisted key reads as. -/
def storeWfFrom {α : Type} [DecidableEq α] (d : Nat → α) : Nat → Store α → Bool
  | _, [] => true
  | lo, (k, v) :: l => decide (lo ≤ k) && !decide (v = d k) && storeWfFrom d (k + 1) l

/-- The canonical form of a store. -/
def storeWf {α : Type} [DecidableEq α] (d : Nat → α) (l : Store α) : Bool := storeWfFrom d 0 l

/-- Write a run of values at rising keys. -/
def storeSetList {α : Type} [DecidableEq α] (d : Nat → α) : Store α → Nat → List α → Store α
  | l, _, [] => l
  | l, k, v :: vs => storeSetList d (storeSet d l k v) (k + 1) vs

/-- Read a run of `n` values from key `k`. -/
def storeGetList {α : Type} (d : Nat → α) (l : Store α) (k n : Nat) : List α :=
  (List.range n).map fun i => storeGet d l (k + i)

/-- Clear every key of a half-open range, so that it reads as unlisted. -/
def storeClear {α : Type} (l : Store α) (lo hi : Nat) : Store α :=
  l.filter fun e => decide (e.1 < lo) || decide (hi ≤ e.1)

end Sys2Proof.Machine
end

