-- ==== Sys2Proof/Machine/State.lean ====
section
/-! DEFINITION. The state of the module as plain data, and the state right after reset.

Registers stand in one canonical store from address to performed value (R4 to R6, R403); what the engines hold beside them has a structure per block. -/

namespace Sys2Proof.Machine

/-- Why a step stops with a fault: never. No command of the table is a fault of the machine; a hardware fault sets latches and goes on (08, 18). Safe: nothing is refused. -/
inductive Fault where
  deriving DecidableEq, Repr

/-- Why a command has no meaning. -/
inductive Refusal where
  /-- Raised by an arm of `exec` whose command has no meaning yet. Safe: nothing is claimed of it. -/
  | notModelled (mnemonic : String)
  deriving DecidableEq, Repr

/-- The device states of 18 R362. -/
inductive DevState where
  | boot
  | loading
  | ready
  | armed
  | safe
  | draining
  | dry
  deriving DecidableEq, Repr

/-- The states of the timebase (09 R174). -/
inductive TimMode where
  | freerun
  | acquiring
  | locked
  | holdover
  deriving DecidableEq, Repr

/-- A performed write that is not yet in effect (01 R22; 02 R30, R32): what the register held before it, the data and mask of the write, and its tick. -/
structure Flight where
  dom : Dom
  addr : Nat
  before : Word
  data : Word
  mask : Word
  issued : Nat
  deriving DecidableEq, Repr

/-- An event as the event bus carries it (01 R19; 16 R320): `flags` are bits [7:4] of the record's byte 10, `rep` the repeat count its block attached. -/
structure Event where
  code : Nat
  args : List Byte
  sev : Nat
  flags : Nat
  opsec : Nat
  pcyc : Nat
  ntsec : Nat
  rep : Nat
  eseq : Nat
  tick : Nat
  deriving DecidableEq, Repr

/-- An open episode of 04 R85, by event code and key. -/
structure Episode where
  code : Nat
  key : Nat
  args : List Byte
  opened : Nat
  last : Nat
  count : Nat
  level : Nat
  deriving DecidableEq, Repr

/-- A signal slot: Q15.16 value and tag (01 R16). -/
structure Slot where
  tag : Byte
  val : Word
  deriving DecidableEq, Repr

/-- Crystal time, network time and the beat. `nt` and `inc` are in units of 2^-32 ns. -/
structure Clock where
  now : Nat
  nt : Nat
  inc : Nat
  beat : Nat
  beatTick : Nat
  beatAny : Bool
  stepped : Bool
  deriving DecidableEq, Repr

/-- Device state, arming, host watchdog, supplies and reset (18). `swSafe`: in DRAINING, a fault that calls for device SAFE holds the switches in that safe state (R362; 08 R163). -/
structure Sys where
  powered : Bool
  dev : DevState
  cause : Nat
  prev : Nat
  armStep : Option (Nat × Bool)
  wdogLast : Option Nat
  firstLoad : Bool
  drainTick : Option Nat
  drainCode : Nat
  gaspDone : Bool
  gaspUsed : Bool
  gaspFail : Bool
  gaspRun : Option (Nat × Nat × Nat)
  devTick : Nat
  released : Option Nat
  ejLow : Bool
  ejRise : Nat
  ejServed : Bool
  drvEnLow : Bool
  swSafe : Bool
  safeUe : Bool
  vsup : Nat
  vhld : Nat
  boostOn : Bool
  boostStart : Nat
  ethOn : Bool
  strap : Nat
  deriving DecidableEq, Repr

/-- What the image logic is doing (03 R61, R62). Sources: 0 staging, 1 slot A, 2 slot B, 3 the copy in force; `boot` is the load of R58, and `keep` the KEEP_LEARN it was started with. -/
inductive ImgJob where
  | idle
  | verify (src : Nat)
  | load (src : Nat) (boot keep : Bool)
  deriving DecidableEq, Repr

/-- The image logic (03): working copies of the sections, standby buffers, the job under way with the tick on which it began, erases and NOR commits under way (slot and the tick by which they end), the ticks by which a swap preparation, the copy after a swap (none: no swap done) and key programming end, the program queue, the NOR words written since their slot's erase, the key store, and the ticks of SRAM errors in the verification buffer while it is in use (01 R24 region 13). -/
structure Img where
  sects : List (List Byte)
  jrnSize : Nat
  capSize : Nat
  rplSize : Nat
  standby : List (List Byte)
  job : ImgJob
  began : Nat
  erasing : List (Nat × Nat)
  commits : List (Nat × Nat)
  prepDue : Nat
  swapDue : Option Nat
  keyDue : Nat
  ue : List Nat
  norQueue : List (Nat × Word)
  norWritten : List Nat
  key : Option (List Byte)
  keyProg : Bool
  deriving DecidableEq, Repr

/-- A command as CMD queues it: its converted stamp in ns of NT, its words W1 and W2, and its SOURCE (04 R72, R74). -/
structure Cmd where
  stamp : Int
  w1 : Word
  w2 : Word
  source : Nat
  deriving DecidableEq, Repr

/-- Intake and REPLAY (04, 02 R46 to R48): the queue; the commands of accepted frames that reach it on later ticks, with their tick and whether the frame came from the ring (R71); the tick on which the queue last stopped being empty (01 R11); the ticks of the last rise and fall of the shed level and of the last change of the band the fill lies in (R82). -/
structure CmdState where
  queue : List Cmd
  coming : List (Nat × Bool × Cmd)
  headTick : Nat
  shedUpAt : Nat
  shedDownAt : Nat
  fillAt : Nat
  lastTake : Option Nat
  rplStart : Nat
  rplPos : Nat
  rplDelta : Int
  deriving DecidableEq, Repr

/-- A request: one lane of a command (05 R90). `fixed` holds the exit interval of a continuation (R98); `subst` says R103 moved it to ALT. -/
structure Req where
  cmd : Cmd
  lane : Nat
  valve : Nat
  prof : Nat
  shift : Nat
  fixed : Option (Int × Int)
  subst : Bool
  deriving DecidableEq, Repr

/-- A calendar entry: an accepted command with its open requests (05 R93). -/
structure CalEntry where
  cmd : Cmd
  reqs : List Req
  deriving DecidableEq, Repr

/-- The boost decision of 05 R100, or a shot frozen as inhibited (06 R132). -/
inductive Decision where
  | boost
  | wait
  | fallback
  | inhibited
  deriving DecidableEq, Repr

/-- Where a shot stands (06 R114). `pending` shots wait for a re-enabled channel's release end (R134); `withheld` shots will not fire and await their open instant, at which their record is due (07 R150); of a `done` shot the record is due or written, and it stays only until its close point has passed (05 R97). -/
inductive Phase where
  | frozen
  | handed
  | pending
  | boost
  | peak
  | hold
  | release
  | done
  | withheld
  deriving DecidableEq, Repr

/-- A frozen shot (`closeTick`: no close point before this tick, R97): its plan (02 R39), the profile bytes frozen with it (03 R67), and what its execution has shown (`confirm`: the tick of the sample that confirmed the arrival). -/
structure Shot where
  id : Nat
  req : Req
  q : Int
  e : Int
  openRef : Int
  openAt : Int
  dUsed : Nat
  decision : Decision
  own : List Byte
  fb : List Byte
  joins : List Req
  pflags : Nat
  deferSh : Nat
  waitSh : Nat
  pendSh : Nat
  closed : Bool
  closeTick : Nat
  frozenAt : Nat
  dry : Bool
  phase : Phase
  hbLead : Bool
  xprof : Nat
  relAt : Option Int
  relStart : Nat
  confirm : Nat
  openTick : Nat
  stepping : Bool
  dflags : Nat
  vbst : Nat
  tbst : Nat
  imax : Nat
  arr : Option Nat
  depth : Nat
  learned : Option Nat
  capture : Option Nat
  deriving DecidableEq, Repr

/-- A journal record, or a shot's group of records, waiting to be written (07 R150). -/
inductive JItem where
  | shot (s : Shot)
  | req (typ : Nat) (r : Req) (flags : Nat) (inst : Int) (e : Int) (d : Nat)
  | marker (c : Cmd) (inst : Int)
  deriving DecidableEq, Repr

/-- Transit (05). `wins` are the frozen boost windows by bank (R100). `ready` holds each valve's ready instant plus one, 0 where the valve has had no shot (R99). `substTold` are the lanes whose substitution has been reported, each with the PRIMARY it had (R105). -/
structure Trn where
  cal : List CalEntry
  shots : List Shot
  ready : Store Int
  wins : List (Nat × Int × Int)
  nextId : Nat
  substTold : List (Nat × Nat)
  deriving DecidableEq, Repr

/-- A re-enabled channel or bank whose release had not finished (06 R134): MIN_OFF of that release and its end instant. -/
structure Reopen where
  minOff : Nat
  endAt : Option Int
  deriving DecidableEq, Repr

/-- A clear of fault bits that has reached the dies and waits until the currents concerned are below 20 mA (08 R166). -/
structure FltClear where
  addr : Nat
  bits : Nat
  issued : Nat
  deriving DecidableEq, Repr

/-- The switches from a tick on: LS and FW by valve, HB by bank. -/
structure SwMark where
  tick : Nat
  ls : BitVec 96
  fw : BitVec 96
  hb : BitVec 12
  deriving DecidableEq, Repr

/-- The switches and what the dies hold (06, 08). A set bit of `ls`, `fw`, `hb`, `hs` is a closed switch. `clampV` is the drain voltage, unit 0.25 V, to which LS limits a clamped channel (R119, R121); `marks` are the switch positions of the last 10 ms, newest first (07 R141, R155); `olFrom` is the tick, plus one, from which the open-load test of a proportional channel counts, 0 with none (08 R164); `linkHub` tells which link losses the hub detected (08 R167). -/
structure Drv where
  ls : BitVec 96
  fw : BitVec 96
  clamp : BitVec 96
  clampV : Store Nat
  marks : List SwMark
  hb : BitVec 12
  hs : BitVec 12
  strobe : BitVec 12
  hbFor : Store Nat
  lastClose : Store Nat
  chReopen : Store (Option Reopen)
  bkReopen : Store (Option Reopen)
  relFrom : Store Nat
  dithNeg : BitVec 96
  dithFrom : Nat
  dithNext : Store Nat
  clears : List FltClear
  hbFltTick : Store Nat
  olFrom : Store Nat
  linkUp : BitVec 3
  linkHub : BitVec 3
  openRep : BitVec 96
  shortRep : BitVec 96
  deriving DecidableEq, Repr

/-- A capture engine at work: its shot with its valve, the settings taken at the freeze point (07 R155, R156), the tick of the open instant once the shot has fired, and the shot's record once written: its bytes, its index in the ring if it entered it, and the measured delay of an arrival. -/
structure CapEng where
  shot : Nat
  valve : Nat
  dec : Nat
  pre : Nat
  openTick : Option Nat
  samples : Option (List (BitVec 16))
  record : Option (List Byte × Option Nat × Option Nat)
  deriving DecidableEq, Repr

/-- Sensing, learning and journal work (07). The tables, marks and statistics stand in the VSN registers. `hostIdx` are the entries of the live table the host wrote on `hostTick`, `learnt` the entries updated on a tick with the shots they came from (R147); `lastProf` is the profile of each valve's last shot (R160). -/
structure Vsn where
  jq : List JItem
  engines : List (Option CapEng)
  hcapPend : List Nat
  liveBusy : Nat
  savedBusy : Nat
  refBusy : Nat
  hostTick : Nat
  hostIdx : List Nat
  learnt : List (Nat × Nat × Nat)
  lastProf : Store Nat
  deriving DecidableEq, Repr

/-- One op of a Shamel frame (10 R201). -/
inductive Op where
  | read (addr n : Nat)
  | write (addr : Nat) (ws : List Word)
  | readWin (addr n : Nat)
  | writeWin (addr : Nat) (ws : List Word)
  | modify (addr : Nat) (mask value : Word)
  | fence (mask : Nat)
  | fenceAt (addr : Nat) (sec ns : Nat)
  | shutterNow (addr : Nat)
  deriving DecidableEq, Repr

/-- What an op answered (10 R201, R203): the status, the words performed, the read data. -/
structure OpResult where
  status : Nat
  done : Nat
  data : List Word
  deriving DecidableEq, Repr

/-- A Shamel frame being performed: ops still to do, results so far, and the latches of R7, R170, R334 (each an address with the value it returns). -/
structure Frame where
  ip : Word
  mac : Nat
  port : Nat
  seq : Nat
  noResp : Bool
  stop : Bool
  ops : List Op
  results : List (Op × OpResult)
  skip : Bool
  latches : List (Nat × Word)
  deriving DecidableEq, Repr

/-- A response: to whom, with the MAC address of the frame that asked, and its bytes (10 R198, R206). -/
structure Response where
  ip : Word
  mac : Nat
  port : Nat
  bytes : List Byte
  deriving DecidableEq, Repr

/-- The stored pair of one of the last eight senders, most recently used first (10 R205). -/
structure Sender where
  ip : Word
  port : Nat
  seq : Nat
  resp : Option (List Byte)
  deriving DecidableEq, Repr

/-- What a frame waits for: for the writes to the blocks of a mask that were performed by a tick (02 R34), and then for an instant if it is a FENCE_AT (R35); for its AON writes (R33); for an instant in ns of NT (R35). -/
inductive Wait where
  | fence (mask since : Nat) (thenAt : Option Int)
  | aon
  | instant (t : Int)
  deriving DecidableEq, Repr

/-- A frame that waits. -/
structure Held where
  frame : Frame
  wait : Wait
  deriving DecidableEq, Repr

/-- Shamel processing (10 R200 to R207; 02 R30 to R36): the frame that waits with every later one behind it, the frames behind it, the frames held by FENCE_AT with those that run beside after their release, the finished frames whose response has not been sent, the response sent last, the last eight senders; while ops are performed (`running`), the latches of their frame; and what the op performed last answered. -/
structure Shm where
  cur : Option Held
  waiting : List Frame
  held : List Held
  ready : List (Frame × Response)
  sent : Option Response
  senders : List Sender
  running : Bool
  latches : List (Nat × Word)
  last : OpResult
  deriving DecidableEq, Repr

/-- The recorder (16). Positions and counters stand in the REC registers. `own` are records of the recorder itself that come before the queue (R326); `lastRec` is P of R327 with its slot. -/
structure Rec where
  started : Bool
  queue : List Event
  own : List Event
  opsec : Nat
  opsecTick : Nat
  pcyc : Nat
  lostRun : Nat
  lostEseq : Nat
  lastRec : Option Event
  lastSlot : Nat
  lastMirror : Bool
  frozenAt : Option Nat
  frozenPeak : Nat
  gen : Nat
  genCopy : Nat
  clean : Bool
  persistTick : Nat
  consec : Nat
  challenge : Option (List Byte)
  chalTick : Nat
  chalNo : Nat
  denials : Nat
  lockUntil : Nat
  key : Option (List Byte)
  keyProg : Bool
  clrPend : Bool
  clrBoot : Bool
  erasePos : Nat
  clrWrap : Nat
  clrPos : Nat
  clrTick : Nat
  keyTick : Nat
  curData : List Word
  gaspLost : Nat
  deriving DecidableEq, Repr

/-- The Shutter (17): the latched words by area, matching events that have not yet acted, as tick and code, one per tick, the tick of the snapshot held, the instant of the AT trigger in ns of NT, and the tick on which the pulse on SHT_IO began. -/
structure Sht where
  copies : List (List Word)
  evPend : List (Nat × Nat)
  snapTick : Option Nat
  atInst : Int
  pulse : Option Nat
  deriving DecidableEq, Repr

/-- What an egress queue holds: a forwarded frame, or one the module originates (10 R191, R195). -/
inductive FrameKind where
  | forwarded
  | event
  | shamel
  | arp
  | icmp
  | ptp
  | pdelay
  | supervision
  deriving DecidableEq, Repr

/-- A frame in an egress queue (10 R191, R195): its kind, addresses and EtherType, PCP and VID of its 802.1Q tag, path identifier, LSDU size and sequence number of its HSR tag, the IPv4 destination with source and destination UDP port (0 for ICMP) of a packet the module originates, its length from destination address through frame check sequence with its tags, whether that check sequence leaves corrupted, the ingress instant from which a PTP message's stay in the module counts, in 2^-16 ns (09 R182, R183), and its octets (of a packet the module originates, those behind the UDP header, or the ICMP message). -/
structure QFrame where
  kind : FrameKind
  dst : Nat
  src : Nat
  etype : Nat
  vlan : Option (Nat × Nat)
  tag : Option (Nat × Nat × Nat)
  dest : Option (Word × Nat × Nat)
  len : Nat
  bad : Bool
  ingress : Option Int
  bytes : List Byte
  deriving DecidableEq, Repr

/-- A ring port (10 R188 to R190, R195): `cfg` is the mode asked for, 0 while alternating. `queues` are queues 0 … 3. -/
structure Port where
  up : Bool
  mode : Nat
  cfg : Nat
  altTick : Nat
  queues : List (List QFrame)
  deriving DecidableEq, Repr

/-- A node-table entry (10 R193): source address, tick of last use, highest sequence number delivered, and the delivered ones at or below it. -/
structure NodeEntry where
  mac : Nat
  used : Nat
  high : Nat
  seen : List Nat
  deriving DecidableEq, Repr

/-- What local delivery has accepted and its block has not yet taken (10 R198): a datagram of ports 50961 and 50960, an ARP frame, an ICMP echo request. -/
inductive Delivered where
  | command (payload : List Byte)
  | shamel (src : Peer) (port : Nat) (payload : List Byte)
  | arp (from_ : ArpSender) (spa tpa : Word) (request : Bool)
  | icmp (mac : Nat) (ip : Word) (payload : List Byte)
  deriving DecidableEq, Repr

/-- The ring link and event frames (10). `rxq` holds offers of local delivery with their ticks. `evTick` is the tick of the last event frame; `lastOut` the frame that left last, with its port. -/
structure Net where
  pa : Port
  pb : Port
  hsrSeq : Nat
  nodes : List NodeEntry
  sentOn : List (Nat × Nat × Nat)
  rxq : List (Nat × Delivered)
  supTick : Nat
  supSeq : Nat
  evq : List Event
  eseq : Nat
  fseq : Nat
  evUrgent : Bool
  evTick : Nat
  evOmit : Bool
  lastOut : Option (Nat × QFrame)
  deriving DecidableEq, Repr

/-- A foreign master of a domain (09 R181): source port identity, grandmaster identity, the data set it is compared by, its Announce interval exponent, the last sequenceId, and the ticks of its last two Announce messages. -/
structure Foreign where
  src : Nat
  gm : Nat
  rank : List Nat
  logInt : Int
  seq : Nat
  last : Nat
  prev : Option Nat
  deriving DecidableEq, Repr

/-- What the slave holds of a domain (09 R174 to R177, R181): the selected master, the run of valid Syncs, tracking, a declared loss, the last valid Sync, and the latest offset in 2^-16 ns. -/
structure PtpDomain where
  foreign : List Foreign
  sel : Option (Nat × Nat)
  run : Nat
  tracked : Bool
  lost : Bool
  lastSync : Option Nat
  lastSeq : Nat
  theta : Option Int
  deriving DecidableEq, Repr

/-- A Sync waiting for its second copy (09 R184): domain, source, sequenceId, ticks of the first and of the last copy, and each port's offset. -/
structure SyncWait where
  dom : Nat
  src : Nat
  seq : Nat
  tick : Nat
  last : Nat
  copies : List (Nat × Int)
  deriving DecidableEq, Repr

/-- A port's link delay measurement (09 R182): the sequenceId of the exchange, whether it waits for its response, its sending instant once the request has left, the tick of the last request, the runs of answered and unanswered exchanges, validity, the filtered delay and the last valid one in 2^-16 ns. -/
structure PdPort where
  seq : Nat
  asked : Bool
  t1 : Option Int
  sentTick : Nat
  okRun : Nat
  noRun : Nat
  valid : Bool
  delay : Option Int
  lastValid : Int
  deriving DecidableEq, Repr

/-- The timebase (09). `taken` are the Syncs whose offset has been taken, newest first, by domain, source and sequenceId (R184). `fHist` are the last 16 values of f, newest first; `rho` is what is left of the residual at `rhoTick`, in units of 1 ns / 250,000. -/
structure Tim where
  mode : TimMode
  everLocked : Bool
  active : Nat
  trk : Int
  trkValid : Bool
  da : PtpDomain
  db : PtpDomain
  waits : List SyncWait
  taken : List (Nat × Nat × Nat)
  pd0 : PdPort
  pd1 : PdPort
  f : Int
  phi : Int
  fHist : List Int
  lockRun : Nat
  unlockRun : Nat
  holdTick : Nat
  swAt : Option Int
  swCause : Nat
  rho : Int
  rhoTick : Nat
  swStart : Nat
  deriving DecidableEq, Repr

/-- General I/O (11 R238 to R242). `di` are the filtered levels of the digital inputs, `diWait` since which tick the level at a pin differs from its filtered one, `doWant` what the sources ask of the digital outputs. Per encoder: its filtered A and B levels, since which tick its A (key 2k) and B (2k + 1) differ at the pin, the decoded edges not yet divided, and the counts latched at the last 256 beats, newest first. `edges` are the rising edges of each digital input in ns of NT, newest first (12 R248). -/
structure Gio where
  di : BitVec 32
  diWait : Store (Option Nat)
  doWant : BitVec 16
  encAb : Store (Bool × Bool)
  encWait : Store (Option Nat)
  encAcc : Store Int
  encHist : Store (List Int)
  edges : Store (List Int)
  deriving DecidableEq, Repr

/-- What a fan output holds beside its FAN_ST register (14): the start of its kick or wait, the ticks of its last tach edges, newest first, its speed in 2^-16 rpm as last measured, the tach timeout (0 none, 1 new, 2 acted on), the consecutive good edges, updates in and below the current band, and its duty at watchdog expiry. -/
structure FanCtx where
  since : Nat
  edges : List Nat
  speed : Nat
  lost : Nat
  good : Nat
  inBand : Nat
  below : Nat
  held : Nat
  deriving DecidableEq, Repr

/-- A zone's temperature sensor (14 R293): its previous reading, the tick since which it carries STALE, the consecutive good updates while unhealthy, and its health. -/
structure SensCtx where
  prev : Option Int
  staleFrom : Option Nat
  good : Nat
  bad : Bool
  deriving DecidableEq, Repr

/-- The fans (14). `acts` are enable writes and restarts that act at the next zone update: fan, and whether it starts, stops or restarts. `opened` are switches a trip has opened. -/
structure Fan where
  fans : Store FanCtx
  sens : Store SensCtx
  acts : List (Nat × Nat)
  zoneAt : Option Int
  opened : BitVec 8
  deriving DecidableEq, Repr

/-- An injection generator beside its registers (12 R254 to R258): its loop, its start instant in ns of NT, and the chirp phase, PRBS register and PRBS bit. -/
structure InjGen where
  bound : Option Nat
  start : Int
  theta : Nat
  lfsr : Nat
  bit : Bool
  deriving DecidableEq, Repr

/-- A response-capture channel beside its registers (12 R259 to R261): its loop, its start instant (none while it waits for a generator), executions seen since, and the records of this capture not written. -/
structure CapCh where
  bound : Option Nat
  start : Option Int
  seen : Nat
  missed : Nat
  deriving DecidableEq, Repr

/-- Ephemeris and tuning (12): the bins W in Q23.40, ue of each loop, generators, capture channels, the queue of captured records (channel, index, address, bytes), the bins the host has written within the execution in progress of their loop, and the CLEAR (false) and RESTORE (true) of loops that wait for the end of one. -/
structure Eph where
  bins : Store Int
  ue : BitVec 64
  gens : Store InjGen
  chans : Store CapCh
  capq : List (Nat × Nat × Nat × List Byte)
  hostBins : List Nat
  binOps : List (Nat × Bool)
  deriving DecidableEq, Repr

/-- A loop beside its registers (11): the coefficient words in force (KP … OFF_VAL) and REVERSE, DPV, FFEN in force; i in Q23.40, d, x_prev (none before R223 sets it), y and e in Q15.16; the mode of the last completed execution; a fallback cause that acts at the next execution; whether the mode was entered by a fallback. -/
structure LoopCtx where
  coef : List Word
  sel : BitVec 3
  acc : Int
  d : Int
  xPrev : Option Int
  y : Int
  e : Int
  last : Nat
  fall : Option Nat
  viaFb : Bool
  deriving DecidableEq, Repr

/-- An execution that has been computed and waits for its output phase (11 R216): its completion time in 1/398 of a tick, what it learned (`learn` until it is committed), MTRK as it began, and everything its output writes. -/
structure LoopRun where
  loop : Nat
  finish : Nat
  mode : Nat
  held : Bool
  ctx : LoopCtx
  errTag : Byte
  fresh : Bool
  lim : Bool
  j : Option Nat
  learn : List (Nat × Int)
  lrn : Bool
  track : Bool
  ff : Int
  inj : Option Int
  injOn : Bool
  sp : Int
  pv : Word
  pvTag : Byte
  u : Int
  deriving DecidableEq, Repr

/-- The control engine (11): the loops, the loops of this beat still to be computed and still to be output, computed executions, the time from which the engine is free in 1/398 of a tick, and the instants of this beat at which sinks update. -/
structure LoopSt where
  ctx : Store LoopCtx
  todo : List Nat
  outs : List Nat
  runs : List LoopRun
  freeAt : Nat
  propAt : Option Int
  ioAt : Option Int
  encAt : Option Int
  deriving DecidableEq, Repr

/-- A finished output window of a front-end channel (13 R263): its sum, the range in force at its end, whether it holds a replaced and a saturated range sample, the tick of its end, and the points of its custom curve then (03 R67). -/
structure AfeWin where
  sum : Int
  range : Nat
  tr : Bool
  sat : Bool
  tick : Nat
  pts : List (Int × Int)
  deriving DecidableEq, Repr

/-- A front-end channel beside its registers (13): the range in force, the run below the down-range threshold, the decisions on the last two range samples, the previous range sample, how many more are replaced, the numbers of the last replaced and saturated ones and of the last flush, the tick of that flush, the integrators and combs of the first and of the second stage, a finished output window, the end of a suppression, whether a value has been valid since the last start, the standing condition, and the runs of output samples beyond OPEN, beyond SHORT and within. -/
structure AfeCh where
  range : Nat
  below : Nat
  dec1 : Option Nat
  dec2 : Option Nat
  prev : Int
  repl : Nat
  lastRepl : Nat
  lastSat : Nat
  flushed : Nat
  flushTick : Nat
  fig : List Int
  fcb : List Int
  ig : List Int
  cb : List Int
  out : Option AfeWin
  supEnd : Option Nat
  valid : Bool
  cond : Nat
  runOpen : Nat
  runShort : Nat
  runIn : Nat
  deriving DecidableEq, Repr

/-- The front end (13): the range-sample counter, the channels, the excitation outputs a fault has switched off with the tick of it, and the ticks of their restarts, plus one (0: none). -/
structure Afe where
  n : Nat
  chans : Store AfeCh
  excOff : BitVec 8
  excTick : Store Nat
  restarted : Store Nat
  deriving DecidableEq, Repr

/-- A frame to send (15 R310): W0, the low six bits of W1 (DLC, FDF, BRS) and its data bytes. -/
structure CanFrame where
  w0 : Word
  ctl : Nat
  data : List Byte
  deriving DecidableEq, Repr

/-- A frame in transmission: its source (0 queue, 1 encoder, 2 timed) with the frame or buffer number, the tick of its start, and whether it is removed if the attempt fails (15 R311, R313). -/
structure CanTx where
  src : Nat
  num : Nat
  frame : CanFrame
  start : Nat
  abort : Bool
  deriving DecidableEq, Repr

/-- A CAN FD controller beside its registers (15): the mode in effect, the transmit queue, the FIFO entries of 21 words oldest first, pending encoded frames, the data each encode frame last had when it became pending, the frame in transmission, attempts of the timed buffers, the ticks of the decode entries' last writes, plus one (0: none), bus-off recovery, the timestamp counter at a tick, and whether the end of a load waits for the frame in transmission (R317). -/
structure Can where
  mode : Nat
  q : List CanFrame
  fifo0 : List (List Word)
  fifo1 : List (List Word)
  enc : List (Nat × CanFrame)
  encLast : Store (Option (List Byte))
  tx : Option CanTx
  tries : Store Nat
  decAt : Store Nat
  recov : Bool
  tsBase : Nat
  tsTick : Nat
  reload : Bool
  deriving DecidableEq, Repr

/-- The whole state of the module. `bus` holds the events of the present tick (01 R19), `second` is the last NT second that has been marked (15 R316), `free` draws free values. -/
structure State where
  pending : List Instr
  clk : Clock
  regs : Store Word
  flights : List Flight
  sys : Sys
  img : Img
  cmd : CmdState
  trn : Trn
  drv : Drv
  vsn : Vsn
  shm : Shm
  rcd : Rec
  sht : Sht
  net : Net
  tim : Tim
  gio : Gio
  fan : Fan
  eph : Eph
  loop : LoopSt
  afe : Afe
  can0 : Can
  can1 : Can
  second : Nat
  tap : Option TestInstr
  dram : List Host.Cell
  nor : List Host.Cell
  kennel : List Host.Cell
  fabric : Store Slot
  inputs : Store Slot
  bus : List Event
  episodes : List Episode
  free : Nat
  deriving DecidableEq, Repr

/-- What a slot without a producer reads as: value 0, COND 3 (R17). -/
def slotNone (_ : Nat) : Slot := { tag := 0xC0, val := 0 }

/-- What an unwritten byte of DRAM reads as: 0 (DESIGN CHOICE, assumption 5; unsafe). -/
def dramNone (_ : Nat) : Byte := 0

/-- What an unwritten byte of the NOR flash reads as: erased, but for the factory calibration region (R26, R59; assumption 6). -/
def norNone (a : Nat) : Byte :=
  if 0x01000000 ≤ a ∧ a < 0x01100000 then Config.factoryByte (a - 0x01000000) else 0xFF

/-- What an unwritten byte of the Kennel reads as: a fresh Kennel (R333), reserved ranges 0 (R27; assumption 7). -/
def kennelNone (a : Nat) : Byte :=
  if a < 0x00210000 ∨ (0x00220000 ≤ a ∧ a < 0x00220080) then 0xFF else 0

/-- The state right after a power-on reset: BOOT, every register at its Reset column (R6, R360, R362). Where the spec gives no value, the model's: beat and input copy (assumption 8), sequence numbers (24), what left the module last (25), supplies and straps (26), pins (28), and 0 as the recorded stream start of REPLAY (DESIGN CHOICE, assumption 69). -/
def State.reset : State :=
  { pending := []
    clk := { now := 0, nt := 0, inc := 4 * 2 ^ 32, beat := 0, beatTick := 0, beatAny := false, stepped := false }
    regs := []
    flights := []
    sys := { powered := true, dev := .boot, cause := 1, prev := 0, armStep := none, wdogLast := none, firstLoad := false,
             drainTick := none, drainCode := 0, gaspDone := false, gaspUsed := false, gaspFail := false, gaspRun := none, devTick := 0, released := none, ejLow := false, ejRise := 0,
             ejServed := false, drvEnLow := false, swSafe := false, safeUe := false, vsup := 870, vhld := 0, boostOn := false, boostStart := 0, ethOn := false, strap := 0 }
    img := { sects := [], jrnSize := 0, capSize := 0, rplSize := 0, standby := [], job := .idle, began := 0, erasing := [], commits := [], prepDue := 0, swapDue := none, keyDue := 0, ue := [],
             norQueue := [], norWritten := [], key := none, keyProg := false }
    cmd := { queue := [], coming := [], headTick := 0, shedUpAt := 0, shedDownAt := 0, fillAt := 0, lastTake := none, rplStart := 0, rplPos := 0, rplDelta := 0 }
    trn := { cal := [], shots := [], ready := [], wins := [], nextId := 0, substTold := [] }
    drv := { ls := 0, fw := 0, clamp := 0, clampV := [], marks := [], hb := 0, hs := 0, strobe := 0, hbFor := [], lastClose := [], chReopen := [], bkReopen := [],
             relFrom := [], dithNeg := 0, dithFrom := 0, dithNext := [], clears := [], hbFltTick := [], olFrom := [], linkUp := 7, linkHub := 0, openRep := 0, shortRep := 0 }
    vsn := { jq := [], engines := [none, none, none, none], hcapPend := [], liveBusy := 0, savedBusy := 0, refBusy := 0, hostTick := 0, hostIdx := [], learnt := [], lastProf := [] }
    shm := { cur := none, waiting := [], held := [], ready := [], sent := none, senders := [], running := false, latches := [],
             last := { status := 0, done := 0, data := [] } }
    rcd := { started := false, queue := [], own := [], opsec := 0, opsecTick := 0, pcyc := 0, lostRun := 0, lostEseq := 0, lastRec := none, lastSlot := 0,
             lastMirror := false, frozenAt := none, frozenPeak := 0, gen := 0, genCopy := 1, clean := false, persistTick := 0, consec := 0, challenge := none,
             chalTick := 0, chalNo := 0, denials := 0, lockUntil := 0, key := none, keyProg := false, clrPend := false, clrBoot := false, erasePos := 0,
             clrWrap := 0, clrPos := 0, clrTick := 0, keyTick := 0, curData := [], gaspLost := 0 }
    sht := { copies := [], evPend := [], snapTick := none, atInst := 0, pulse := none }
    net := { pa := { up := false, mode := 0, cfg := 0, altTick := 0, queues := [[], [], [], []] }
             pb := { up := false, mode := 0, cfg := 0, altTick := 0, queues := [[], [], [], []] }
             hsrSeq := 0, nodes := [], sentOn := [], rxq := [], supTick := 0, supSeq := 0, evq := [], eseq := 0, fseq := 0, evUrgent := false, evTick := 0, evOmit := false, lastOut := none }
    tim := { mode := .freerun, everLocked := false, active := 0, trk := 0, trkValid := false
             da := { foreign := [], sel := none, run := 0, tracked := false, lost := false, lastSync := none, lastSeq := 0, theta := none }
             db := { foreign := [], sel := none, run := 0, tracked := false, lost := false, lastSync := none, lastSeq := 0, theta := none }
             waits := [], taken := []
             pd0 := { seq := 0, asked := false, t1 := none, sentTick := 0, okRun := 0, noRun := 0, valid := false, delay := none, lastValid := 0 }
             pd1 := { seq := 0, asked := false, t1 := none, sentTick := 0, okRun := 0, noRun := 0, valid := false, delay := none, lastValid := 0 }
             f := 0, phi := 0, fHist := [], lockRun := 0, unlockRun := 0, holdTick := 0, swAt := none, swCause := 0, rho := 0, rhoTick := 0, swStart := 0 }
    gio := { di := 0, diWait := [], doWant := 0, encAb := [], encWait := [], encAcc := [], encHist := [], edges := [] }
    fan := { fans := [], sens := [], acts := [], zoneAt := none, opened := 0 }
    eph := { bins := [], ue := 0, gens := [], chans := [], capq := [], hostBins := [], binOps := [] }
    loop := { ctx := [], todo := [], outs := [], runs := [], freeAt := 0, propAt := none, ioAt := none, encAt := none }
    afe := { n := 0, chans := [], excOff := 0, excTick := [], restarted := [] }
    can0 := { mode := 0, q := [], fifo0 := [], fifo1 := [], enc := [], encLast := [], tx := none, tries := [], decAt := [], recov := false, tsBase := 0, tsTick := 0, reload := false }
    can1 := { mode := 0, q := [], fifo0 := [], fifo1 := [], enc := [], encLast := [], tx := none, tries := [], decAt := [], recov := false, tsBase := 0, tsTick := 0, reload := false }
    second := 0
    tap := none
    dram := []
    nor := []
    kennel := []
    fabric := []
    inputs := []
    bus := []
    episodes := []
    free := 0 }

end Sys2Proof.Machine
end

