-- ==== Sys2Proof/Machine/Ops.lean ====
section
/-! DEFINITION. The named operations every family shares: registers, the clock, events and episodes, memories, the outcome of a command. -/

namespace Sys2Proof.Machine

/-! ### Registers -/

/-- The performed value of the register at `a` (02 R30). -/
def State.reg (s : State) (a : Nat) : Word := storeGet regReset s.regs a

/-- Put a value into the register at `a`. -/
def State.setReg (s : State) (a : Nat) (w : Word) : State := { s with regs := storeSet regReset s.regs a w }

/-- A field of a register. -/
def State.rf (s : State) (a lsb n : Nat) : Nat := fld (s.reg a) lsb n

/-- Put a field of a register. -/
def State.setRf (s : State) (a lsb n v : Nat) : State := s.setReg a (setFld (s.reg a) lsb n v)

/-- One bit of a register. -/
def State.bit (s : State) (a i : Nat) : Bool := bitOf (s.reg a) i

/-- Set or clear one bit of a register. -/
def State.setBit (s : State) (a i : Nat) (b : Bool) : State := s.setRf a i 1 (b2n b)

/-- Count one in a saturating counter. -/
def State.count (s : State) (a : Nat) : State := s.setReg a (satInc (s.reg a))

/-- Clear the `n` registers from `a` up, 4 bytes apart. -/
def State.clearRegs (s : State) (a : Nat) : Nat → State
  | 0 => s
  | n + 1 => (s.clearRegs a n).setReg (a + 4 * n) 0

/-- Put a run of registers from `a` up, 4 bytes apart. -/
def State.putRegs (s : State) (a : Nat) : List Word → State
  | [] => s
  | w :: ws => (s.setReg a w).putRegs (a + 4) ws

/-- Add one to a 64-bit counter held in two registers, the less significant at `lo` (R7). -/
def State.count64 (s : State) (lo : Nat) : State :=
  let v := ((s.reg lo).toNat + 2 ^ 32 * (s.reg (lo + 4)).toNat + 1) % 2 ^ 64
  (s.setReg lo (w32 v)).setReg (lo + 4) (w32 (v / 2 ^ 32))

/-- The first write in flight on an address, if any. -/
def firstFlight : List Flight → Nat → Option Flight
  | [], _ => none
  | f :: fs, a => if f.addr = a then some f else firstFlight fs a

/-- The value of a register that is in effect: the performed one, or what it was before the first write still in flight (02 R30, R32). -/
def State.eff (s : State) (a : Nat) : Word :=
  match firstFlight s.flights a with
  | some f => f.before
  | none => s.reg a

/-- A field of a register as it is in effect. -/
def State.ef (s : State) (a lsb n : Nat) : Nat := fld (s.eff a) lsb n

/-! ### Time -/

/-- Let `k` TIME ticks pass: NT grows by the increment on each (01 R21; 09 R168). -/
def State.advance (s : State) (k : Nat) : State :=
  { s with clk := { s.clk with now := s.clk.now + k, nt := s.clk.nt + k * s.clk.inc } }

/-- NT in whole ns. -/
def State.ntNs (s : State) : Nat := s.clk.nt / 2 ^ 32

/-- NT seconds. -/
def State.ntSec (s : State) : Nat := s.ntNs / 1000000000

/-- NT nanoseconds within the second. -/
def State.ntSub (s : State) : Nat := s.ntNs % 1000000000

/-- NT on the 4 ns grid, as an arrival is taken (R11). -/
def State.ntGrid (s : State) : Int := (s.ntNs / 4 * 4 : Nat)

/-- TIME ticks until NT is at or after `t` ns (R28). -/
def State.ticksTo (s : State) (t : Int) : Nat :=
  if t ≤ 0 then 0 else ceilDiv (t.toNat * 2 ^ 32 - s.clk.nt) s.clk.inc

/-- Bring the clock to the first tick at which NT is at or after `t`. -/
def State.reachNt (s : State) (t : Int) : State := s.advance (s.ticksTo t)

/-- Bring the clock to tick `n` of crystal time, if it lies ahead (R405). -/
def State.reachTick (s : State) (n : Nat) : State := s.advance (n - s.clk.now)

/-- Whether NT is at or after `t` ns. -/
def State.ntAtLeast (s : State) (t : Int) : Bool := decide (t * 2 ^ 32 ≤ (s.clk.nt : Int))

/-- TIME ticks of a length in µs, ms. -/
def usTicks (n : Nat) : Nat := 250 * n

/-- TIME ticks of a length in ms. -/
def msTicks (n : Nat) : Nat := 250000 * n

/-- First grid instant at or after `t` (R91). -/
def gridUp (t : Int) : Int := (t + 3) / 4 * 4

/-- Latest grid instant at or before `t` (R91). -/
def gridDown (t : Int) : Int := t / 4 * 4

/-- Draw a free value: a value the spec does not state (assumption 10). -/
def State.draw (s : State) : BitVec 64 × State := (Config.freeValue s.free, { s with free := s.free + 1 })

/-! ### Device state and timebase -/

/-- The number of a device state in SYS_STATE (00 R8 text; 18). -/
def DevState.num : DevState → Nat
  | .boot => 1
  | .loading => 2
  | .ready => 3
  | .armed => 4
  | .safe => 5
  | .draining => 6
  | .dry => 7

/-- In ARMED or DRY. -/
def State.live (s : State) : Bool := s.sys.dev == .armed || s.sys.dev == .dry

/-- Whether an image is in force (IMG_STATUS.INFORCE). -/
def State.hasImage (s : State) : Bool := s.rf Reg.IMG_STATUS 0 2 != 0

/-- Whether the timebase is LOCKED (09 R174). -/
def State.locked (s : State) : Bool := s.tim.mode == .locked

/-- The active domain: 0 A, 1 B (09 R177). -/
def State.activeDomain (s : State) : Nat := s.tim.active

/-! ### Events (01 R19, R20; 16 R320 to R322, R343) -/

/-- Severity of an event by code and arguments (16 R343, R344; 17 R352; 18 R376). -/
def severity (code : Nat) (args : List Byte) : Nat :=
  let a0 := (args.headD 0).toNat
  match code with
  | 0x0001 => 2 | 0x0002 => 3 | 0x0003 => 3 | 0x0004 => 3 | 0x0011 => 5
  | 0x0104 => 5 | 0x0102 => 4 | 0x0103 => 3 | 0x0105 => 3 | 0x0107 => 3 | 0x010A => 3 | 0x010B => 2
  | 0x0201 => 3 | 0x0202 => 3 | 0x0240 => 3 | 0x0203 => 2 | 0x0204 => 2 | 0x0242 => 2 | 0x0241 => 1
  | 0x0301 => 4 | 0x0303 => 4 | 0x0302 => 3
  | 0x0414 => 5 | 0x0415 => 5 | 0x0410 => 4 | 0x0411 => 4 | 0x0412 => 4
  | 0x0413 => if (args.getD 1 0).toNat = 0 then 3 else 4
  | 0x0401 => 3 | 0x0402 => 3 | 0x0403 => 1 | 0x0416 => 1
  | 0x0510 => if a0 = 1 then 3 else 5
  | 0x0501 => 3 | 0x0503 => 3 | 0x0511 => 3 | 0x0502 => 2
  | 0x0604 => 4 | 0x0601 => 3 | 0x0602 => 3 | 0x0603 => 3 | 0x0605 => 3 | 0x0606 => 2 | 0x0607 => 1
  | 0x0709 => 5 | 0x0703 => 4 | 0x0706 => 4 | 0x0704 => 3 | 0x0707 => 3 | 0x0708 => 3
  | 0x0802 => 4 | 0x0801 => 3 | 0x0803 => 3 | 0x0804 => 3 | 0x0805 => 2 | 0x0806 => 2
  | 0x0903 => 4 | 0x0901 => 3 | 0x0902 => 3
  | 0x0A01 => 3 | 0x0A04 => 3 | 0x0A02 => 1 | 0x0A03 => 1
  | 0x0B01 => 4 | 0x0B03 => 4 | 0x0B04 => 3 | 0x0B02 => 2
  | 0x0C01 => 4 | 0x0C02 => 4 | 0x0C04 => 4 | 0x0C05 => 4 | 0x0C08 => 4
  | 0x0C03 => 3 | 0x0C07 => 3 | 0x0C09 => 3 | 0x0C06 => 2
  | 0x0D04 => 2 | 0x0E04 => 2
  | 0x0F01 => 5 | 0x0F02 => 4 | 0x0F03 => 4 | 0x0F04 => 5 | 0x0F05 => 3 | 0x0F06 => 2 | 0x0F07 => 3 | 0x0F08 => 1
  | 0x0F09 => 4 | 0x0F0A => 2 | 0x0F0B => 2
  | 0x1001 => 1 | 0x1002 => 2
  | 0x1101 => 4 | 0x1102 => 4 | 0x1103 => 2
  | 0x1201 => 4 | 0x1202 => 4 | 0x1203 => 3
  | _ =>
    if code / 256 = 7 then 2
    else if code / 256 = 13 ∨ code / 256 = 14 then 3 else 1

/-- Whether an event leaves the bus before another that was raised earlier: it stands on an earlier tick, or on the same tick in a block with a lower number (R19). -/
def Event.before (e x : Event) : Bool := decide (e.tick < x.tick) || (decide (e.tick = x.tick) && decide (e.code / 256 < x.code / 256))

/-- Insert an event into the bus: by tick, on one tick in ascending code order across blocks, in raise order within one (R19). -/
def busInsert : List Event → Event → List Event
  | [], e => [e]
  | x :: xs, e => if e.before x then e :: x :: xs else x :: busInsert xs e

/-- An event formed on the present tick (16 R320, R322). -/
def State.mkEvent (s : State) (code : Nat) (args : List Byte) (episode : Bool) (rep : Nat) : Event :=
  { code := code, args := (args ++ List.replicate (8 - args.length) 0).take 8, sev := severity code args
    flags := b2n (!s.locked) + 2 * b2n episode, opsec := s.rcd.opsec, pcyc := s.rcd.pcyc
    ntsec := if s.tim.everLocked then s.ntSec % 2 ^ 32 else 0, rep := rep, eseq := 0, tick := s.clk.now }

/-- Raise an event: it enters the event bus of this tick, which it leaves when the tick is over (R19). -/
def State.raise (s : State) (code : Nat) (args : List Byte := []) : State :=
  { s with bus := busInsert s.bus (s.mkEvent code args false 0) }

/-- Raise the one event of an episode that closes, with its repeat count (04 R85). -/
def State.raiseEp (s : State) (code : Nat) (args : List Byte) (rep : Nat) : State :=
  { s with bus := busInsert s.bus (s.mkEvent code args true (sat 65535 rep)) }

/-- One byte as an argument list. -/
def by1 (n : Nat) : List Byte := [BitVec.ofNat 8 n]

/-- Two bytes, little-endian, saturating. -/
def by2 (n : Nat) : List Byte := leBytes 2 (sat 65535 n)

/-- Four bytes, little-endian. -/
def by4 (n : Nat) : List Byte := leBytes 4 n

/-! ### Episodes (04 R85) -/

/-- Take the episode of a code and key out of a list. -/
def findEp : List Episode → Nat → Nat → Option Episode
  | [], _, _ => none
  | e :: es, c, k => if e.code = c ∧ e.key = k then some e else findEp es c k

/-- Every episode but that of a code and key. -/
def dropEp (es : List Episode) (c k : Nat) : List Episode := es.filter fun e => !(e.code == c && e.key == k)

/-- The arguments of an episode's event at its close: CMD_DROP adds the highest shed level and the duration in ms, saturating (R85). -/
def epArgs (e : Episode) (now : Nat) : List Byte :=
  if e.code = 0x0202 then e.args ++ by1 e.level ++ leBytes 3 (sat 0xFFFFFF ((now - e.opened) / 250000)) else e.args

/-- Close one episode: its event, with the count minus one as repeat count. -/
def State.closeEp (s : State) (e : Episode) : State :=
  { s.raiseEp e.code (epArgs e s.clk.now) (e.count - 1) with episodes := dropEp s.episodes e.code e.key }

/-- Count an occurrence in the episode of a code and key, opening it with these arguments where none is open; it closes when it reaches 65,536. -/
def State.episode (s : State) (code key : Nat) (args : List Byte) (level : Nat := 0) : State :=
  let e : Episode :=
    match findEp s.episodes code key with
    | some e => { e with last := s.clk.now, count := e.count + 1, level := max e.level level }
    | none => { code := code, key := key, args := args, opened := s.clk.now, last := s.clk.now, count := 1, level := level }
  let s1 := { s with episodes := dropEp s.episodes code key ++ [e] }
  if 65536 ≤ e.count then s1.closeEp e else s1

/-- The tick on which an open episode closes: 100 ms after its last occurrence or 60 s after it opened. -/
def epDue (e : Episode) : Nat := min (e.last + msTicks 100) (e.opened + msTicks 60000)

/-- Close every open episode, in order of event code (DRAINING, power failure, last gasp). -/
def State.closeAllEps (s : State) : State := s.episodes.foldl State.closeEp s

/-- Whether an episode of a code is open. -/
def State.epOpen (s : State) (code : Nat) : Bool := s.episodes.any fun e => e.code == code

/-! ### The event bus (R19, R20; 16 R328, R373; 10 R209; 17 R346) -/

/-- Bytes of an op in a request: 8 and 4 for each data word (10 R201). -/
def Op.len : Op → Nat
  | .write _ ws => 8 + 4 * ws.length
  | .writeWin _ ws => 8 + 4 * ws.length
  | .modify _ _ _ => 16
  | .fenceAt _ _ _ => 20
  | _ => 8

/-- Bytes of what a frame has still to perform. -/
def Frame.len (f : Frame) : Nat := 16 + (f.ops.map Op.len).sum

/-- Every frame that waits in Shamel processing. -/
def State.stalled (s : State) : List Frame := (s.shm.cur.toList ++ s.shm.held).map (·.frame) ++ s.shm.waiting

/-- Bytes of SRAM region 10 in use: event entries, frames that wait, stored responses and responses not yet sent (01 R24; assumption 14). -/
def State.region10 (s : State) : Nat :=
  32 * s.net.evq.length + (s.stalled.map Frame.len).sum + (s.shm.senders.map fun x => (x.resp.getD []).length).sum
    + (s.shm.ready.map fun r => r.2.bytes.length).sum

/-- Put an event into the recorder queue of 256, or count it lost (16 R328). -/
def State.toRecorder (s : State) (e : Event) : State :=
  if s.rcd.queue.length < 256 then
    { s with rcd := { s.rcd with queue := s.rcd.queue ++ [e], frozenPeak := max s.rcd.frozenPeak (s.rcd.queue.length + 1) } }
  else
    let s1 := (s.count Reg.REC_LOST_CNT).setBit Reg.REC_STAT 6 true
    { s1 with rcd := { s1.rcd with lostRun := s1.rcd.lostRun + 1, lostEseq := if s1.rcd.lostRun = 0 then e.eseq else s1.rcd.lostEseq
                                   gaspLost := s1.rcd.gaspLost + 1 } }

/-- Put an event into the next event frame, or omit and count it (10 R209). -/
def State.toFrames (s : State) (e : Event) : State :=
  if s.region10 + 32 ≤ 524288 then
    { s with net := { s.net with evq := s.net.evq ++ [e], evUrgent := s.net.evUrgent || e.code == 0x0203 || e.code == 0x0806 } }
  else
    let s1 := s.count (Reg.NET_DUP_CNT + 0x34)
    ({ s1 with net := { s1.net with evOmit := true } }).episode 0x0804 0 (by4 e.eseq)

/-- Whether an event matches the Shutter's EVENT trigger (17 R346). -/
def State.shtMatches (s : State) (e : Event) : Bool :=
  e.code / 256 != 16 &&
    (((List.range 8).any fun k => bitOf (s.eff Reg.SHT_TRIG) (8 + k) && s.ef (Reg.SHT_EVSEL + 4 * k) 0 16 == e.code)
      || (s.ef Reg.SHT_TRIG 0 3 != 0 && decide (s.ef Reg.SHT_TRIG 0 3 ≤ e.sev)))

/-- Give an event its number ESEQ (10 R208). -/
def State.number (s : State) (e : Event) : Event := { e with eseq := s.net.eseq % 2 ^ 32 }

/-- An event goes to the event frames, the Shutter and ATTN, and takes up its number. -/
def State.carry (s : State) (e : Event) : State :=
  let s1 := ({ s with net := { s.net with eseq := (s.net.eseq + 1) % 2 ^ 32 } }).toFrames e
  let first := !(s1.sht.evPend.any fun p => p.1 == e.tick)
  let s2 := if first && s1.shtMatches e then { s1 with sht := { s1.sht with evPend := s1.sht.evPend ++ [(e.tick, e.code)] } } else s1
  if s2.rf Reg.SYS_ATTN 0 3 ≠ 0 ∧ s2.rf Reg.SYS_ATTN 0 3 ≤ e.sev then s2.setBit Reg.SYS_STATUS 2 true else s2

/-- REC_LOST takes its place in the recorder queue as soon as there is room after losses (16 R328). -/
def State.queueLost (s : State) : State :=
  if s.rcd.lostRun ≠ 0 ∧ s.rcd.queue.length < 256 then
    let e := s.number (s.mkEvent 0x0F05 (by4 s.rcd.lostRun ++ by4 s.rcd.lostEseq) false 0)
    let s1 := (s.carry e).setBit Reg.REC_STAT 6 false
    { s1 with rcd := { s1.rcd with queue := s1.rcd.queue ++ [e], lostRun := 0 } }
  else s

/-- One event leaves the bus for the recorder, the event frames, the Shutter and ATTN. -/
def State.deliver (s : State) (e0 : Event) : State :=
  let s1 := s.queueLost
  let e := s1.number e0
  (s1.toRecorder e).carry e

/-- The events of every tick that is over leave the bus in their order; those of the present tick stay, since further ones may be raised on it (R19). -/
def State.flush (s : State) : State :=
  (s.bus.filter fun e => decide (e.tick < s.clk.now)).foldl State.deliver { s with bus := s.bus.filter fun e => !decide (e.tick < s.clk.now) }

/-- Every event leaves the bus: what takes events from their queues acts once the tick's events are there (R19). -/
def State.flushAll (s : State) : State := s.bus.foldl State.deliver { s with bus := [] }

/-- The registers that the delivery of an event may write: the recorder's lost count and status, the count of omitted event entries, and SYS_STATUS with ATTN (16 R328; 10 R209; 18 R373). -/
def busRegs : List Nat := [Reg.REC_LOST_CNT, Reg.REC_STAT, Reg.NET_DUP_CNT + 0x34, Reg.SYS_STATUS]

/-! ### Outcomes -/

/-- What a command answers. -/
abbrev Out := Host.Outcome State Fault Refusal

/-- The first offer of a datagram or frame that satisfies a test, with the tick on which local delivery made it. -/
def firstOffer (p : Delivered → Bool) : List (Nat × Delivered) → Option Nat
  | [] => none
  | x :: xs => if p x.2 then some x.1 else firstOffer p xs

/-- Take the first offer equal to `d` out of a list. -/
def eraseOffer (d : Delivered) : List (Nat × Delivered) → List (Nat × Delivered)
  | [] => []
  | x :: xs => if x.2 = d then xs else x :: eraseOffer d xs

/-- A block takes what local delivery offered to it (10 R198). -/
def State.takeOffer (s : State) (d : Delivered) : State := { s with net := { s.net with rxq := eraseOffer d s.net.rxq } }

/-- The ticks after which a block acts on an offer: those given, but no more than `bound` after the offer was made (01 R22; 04 R71). What was never offered arrives from outside at its own time. -/
def State.offerWait (s : State) (d : Delivered) (bound dt : Nat) : Nat :=
  match firstOffer (fun x => decide (x = d)) s.net.rxq with
  | some t => min dt (t + bound - s.clk.now)
  | none => dt

/-- Show what an op answered, as the response of its frame carries it (10 R201). -/
def State.answer (s : State) (status done : Nat) (data : List Word) : State :=
  { s with shm := { s.shm with last := { status := status, done := done, data := data } } }

/-! ### Memories (01 R25 to R27) -/

/-- A byte of DRAM. -/
def State.dramByte (s : State) (a : Nat) : Byte := storeGet dramNone s.dram a

/-- A byte of the NOR flash. -/
def State.norByte (s : State) (a : Nat) : Byte := storeGet norNone s.nor a

/-- A byte of the Kennel. -/
def State.kenByte (s : State) (a : Nat) : Byte := storeGet kennelNone s.kennel a

/-- Write bytes of DRAM. -/
def State.dramPut (s : State) (a : Nat) (bs : List Byte) : State := { s with dram := storeSetList dramNone s.dram a bs }

/-- Write bytes of the NOR flash. -/
def State.norPut (s : State) (a : Nat) (bs : List Byte) : State := { s with nor := storeSetList norNone s.nor a bs }

/-- Write bytes of the Kennel. -/
def State.kenPut (s : State) (a : Nat) (bs : List Byte) : State := { s with kennel := storeSetList kennelNone s.kennel a bs }

/-- DRAM, NOR flash and Kennel stand in their canonical form. -/
def State.memWf (s : State) : Bool := storeWf dramNone s.dram && storeWf norNone s.nor && storeWf kennelNone s.kennel

/-! ### The signal fabric (01 R16 to R18) -/

/-- The live value and tag of a slot. -/
def State.slot (s : State) (n : Nat) : Slot := storeGet slotNone s.fabric n

/-- The value and tag of a slot in the beat's input copy. -/
def State.inp (s : State) (n : Nat) : Slot := storeGet slotNone s.inputs n

/-- A producer writes value and tag together (R16). -/
def State.putSlot (s : State) (n : Nat) (v : Word) (tag : Byte) : State :=
  { s with fabric := storeSet slotNone s.fabric n { tag := tag, val := v } }

/-- A producer writes a valid value. -/
def State.putVal (s : State) (n : Nat) (v : Int) : State := s.putSlot n (w32i v) 0

/-- Set a slot's condition, keeping the other tag bits and the value. -/
def State.setCond (s : State) (n c : Nat) : State :=
  let t := s.slot n
  s.putSlot n t.val (BitVec.ofNat 8 (t.tag.toNat % 64 + 64 * c))

/-- COND of a tag. -/
def Slot.cond (t : Slot) : Nat := t.tag.toNat / 64

/-- STALE of a tag. -/
def Slot.stale (t : Slot) : Bool := t.tag.getLsbD 5

end Sys2Proof.Machine
end

