-- ==== Sys2Proof/Machine/Image.lean ====
section
/-! DEFINITION. Reading the working copies of the image's sections (01 R29; 03 R52): lanes, flight maps, bank entries, profiles. -/

namespace Sys2Proof.Machine

/-- The working copy of section `id` (1 … 16); empty without an image. -/
def State.sect (s : State) (id : Nat) : List Byte := s.img.sects.getD (id - 1) []

/-- A little-endian field of a section. -/
def State.sx (s : State) (id o len : Nat) : Nat := leAt (s.sect id) o len

/-! ### Lanes (05 R87) and flight maps (R89) -/

/-- PRIMARY of a lane; 0xFF unused. Without an image every lane is unused. -/
def State.lanePrimary (s : State) (l : Nat) : Nat := if (s.sect 3).length = 0 then 0xFF else s.sx 3 (8 * l) 1

/-- ALT of a lane; 0xFF none. -/
def State.laneAlt (s : State) (l : Nat) : Nat := s.sx 3 (8 * l + 1) 1

/-- AIR of a lane, unit 0.5 µs. -/
def State.laneAir (s : State) (l : Nat) : Nat := s.sx 3 (8 * l + 2) 2

/-- DEFPROF of a lane. -/
def State.laneProf (s : State) (l : Nat) : Nat := s.sx 3 (8 * l + 4) 1

/-- Flight time of a class in a map, unit 0.25 µs. -/
def State.flightTime (s : State) (m c : Nat) : Nat := s.sx 6 (1280 * m + 4 * c) 3

/-- Per-lane correction of a map, unit 0.25 µs. -/
def State.flightCorr (s : State) (m l : Nat) : Int := sext 16 (s.sx 6 (1280 * m + 1024 + 2 * l) 2)

/-! ### Bank entries (06 R110, R111) -/

/-- A byte of bank `b`'s entry. -/
def State.bankByte (s : State) (b o len : Nat) : Nat := s.sx 4 (16 + 16 * b + o) len

/-- ROLE of a bank (R109); unused without an image. -/
def State.bankRole (s : State) (b : Nat) : Nat := s.bankByte b 0 1

/-- DELAY0 of a valve and profile, unit 0.5 µs. -/
def State.delay0 (s : State) (v p : Nat) : Nat := s.sx 4 (208 + 2 * (31 * v + p - 1)) 2

/-! ### Profiles (06 R112), as 32 bytes -/

/-- The bytes of profile `p` in the buffer in force. -/
def State.prof (s : State) (p : Nat) : List Byte := ((s.sect 5).drop (32 * (p - 1))).take 32

/-- I_BST, unit 4 mA. -/
def pIBst (p : List Byte) : Nat := leAt p 0 2 % 1024
/-- T_BST_MAX in µs; 0: no boost phase. -/
def pTBst (p : List Byte) : Nat := leAt p 2 2
/-- I_PK, unit 4 mA. -/
def pIPk (p : List Byte) : Nat := leAt p 4 2 % 1024
/-- T_PK in µs. -/
def pTPk (p : List Byte) : Nat := leAt p 6 2
/-- I_HLD, unit 4 mA. -/
def pIHld (p : List Byte) : Nat := leAt p 8 2 % 1024
/-- CHOP_BAND, unit 4 mA. -/
def pBand (p : List Byte) : Nat := leAt p 10 1
/-- V_CLAMP in V. -/
def pVClamp (p : List Byte) : Nat := leAt p 13 1
/-- SLEW in V/µs, from CTL[1:0]. -/
def pSlew (p : List Byte) : Nat := match leAt p 19 1 % 4 with
  | 0 => 2
  | 1 => 5
  | 2 => 10
  | _ => 20
/-- CHOP_FMAX in kHz. -/
def pFMax (p : List Byte) : Nat := leAt p 11 1
/-- REL_MODE. -/
def pRelMode (p : List Byte) : Nat := leAt p 12 1
/-- T_REL_MAX in µs. -/
def pTRel (p : List Byte) : Nat := leAt p 14 1
/-- FALLBACK profile number. -/
def pFallback (p : List Byte) : Nat := leAt p 15 1
/-- BOOST_WAIT_MAX in µs. -/
def pWaitMax (p : List Byte) : Nat := leAt p 16 2
/-- VBST_MIN, unit 0.5 V. -/
def pVMin (p : List Byte) : Nat := leAt p 18 1
/-- DEC_PK: the step from boost to peak is fast. -/
def pDecPk (p : List Byte) : Bool := (leAt p 19 1).testBit 2
/-- DEC_HLD: the step from peak to hold is fast. -/
def pDecHld (p : List Byte) : Bool := (leAt p 19 1).testBit 3
/-- LEARN. -/
def pLearn (p : List Byte) : Bool := (leAt p 19 1).testBit 4
/-- MIN_GAP in µs. -/
def pMinGap (p : List Byte) : Nat := leAt p 20 2
/-- MAX_SHOT in µs (unit 10 µs in the image). -/
def pMaxShot (p : List Byte) : Nat := 10 * leAt p 22 2
/-- MIN_OFF in µs. -/
def pMinOff (p : List Byte) : Nat := leAt p 24 2

/-! ### Valves and banks (01 R9) -/

/-- The bank of a valve. -/
def bankOf (v : Nat) : Nat := v % 12

/-- The die of a bank. -/
def dieOf (b : Nat) : Nat := b / 4

/-- The valves of a bank, in position order. -/
def valvesOf (b : Nat) : List Nat := (List.range 8).map fun k => 12 * k + b

/-- The banks of a die. -/
def banksOf (d : Nat) : List Nat := (List.range 4).map fun k => 4 * d + k

/-! ### The learned state as Transit reads it (07 R144) -/

/-- Index of a valve and profile in the learned tables. -/
def ldIdx (v p : Nat) : Nat := 31 * v + p - 1

/-- The live learned state L, unit 1/32 µs. -/
def State.learnL (s : State) (v p : Nat) : Nat := s.rf (Reg.VSN_DELAY + 4 * ldIdx v p) 0 16

/-- The learned delay d, unit 0.5 µs (R144). -/
def State.learnD (s : State) (v p : Nat) : Nat := (s.learnL v p + 8) / 16

/-- The FAILED mark of a valve. -/
def State.failed (s : State) (v : Nat) : Bool := s.bit (Reg.VSN_FAILED + 4 * (v / 32)) (v % 32)

end Sys2Proof.Machine
end

