-- ==== Sys2Proof/Machine/Intake.lean ====
section
/-! DEFINITION. Command frames, refusals, the intake queue, shedding and REPLAY (04; 02 R46 to R48). -/

namespace Sys2Proof.Machine

/-! ### The command word (R72) -/

/-- KIND: 0 timed, 1 detected, 2 cancel, 3 marker. -/
def Cmd.kind (c : Cmd) : Nat := fld c.w1 30 2
/-- First lane. -/
def Cmd.lane (c : Cmd) : Nat := fld c.w1 23 7
/-- Additional lanes; a marker covers its lane alone (R73). -/
def Cmd.span (c : Cmd) : Nat := if c.kind = 3 then 0 else fld c.w1 20 3
/-- Requested duration, unit 5 µs. -/
def Cmd.dur (c : Cmd) : Nat := fld c.w1 8 12
/-- Velocity class. -/
def Cmd.vclass (c : Cmd) : Nat := fld c.w1 0 8
/-- Object tag. -/
def Cmd.tag (c : Cmd) : Nat := fld c.w2 16 16
/-- Priority. -/
def Cmd.prio (c : Cmd) : Nat := fld c.w2 14 2
/-- Profile asked for; 0 the lane's default. -/
def Cmd.profile (c : Cmd) : Nat := fld c.w2 9 5
/-- Flight map. -/
def Cmd.fmap (c : Cmd) : Nat := fld c.w2 4 4
/-- NOCOAL. -/
def Cmd.noCoal (c : Cmd) : Bool := bitOf c.w2 0
/-- NOLEARN. -/
def Cmd.noLearn (c : Cmd) : Bool := bitOf c.w2 1
/-- JCAP. -/
def Cmd.jcap (c : Cmd) : Bool := bitOf c.w2 2
/-- The covered lanes. -/
def Cmd.lanes (c : Cmd) : List Nat := (List.range (c.span + 1)).map (c.lane + ·)

/-! ### Shed level (R82, R84) -/

/-- HOLD in TIME ticks. -/
def State.shedHold (s : State) : Nat := usTicks 100 * s.rf Reg.CMD_SHED_LVL 8 8

/-- The open drop episode keeps the highest shed level reached during it (R85). -/
def State.episodeLevel (s : State) (n : Nat) : State :=
  { s with episodes := s.episodes.map fun e => if e.code = 0x0202 then { e with level := max e.level n } else e }

/-- Set the shed level, note when it rose or fell, and raise CMD_SHED where it changes (R82, R84). -/
def State.setShed (s : State) (n : Nat) : State :=
  let old := s.rf Reg.CMD_SHED_LVL 0 2
  if n = old then s
  else
    let s1 := (s.setRf Reg.CMD_SHED_LVL 0 2 n).episodeLevel n
    let s2 := if n ≠ 0 then s1.setBit Reg.CMD_STAT 9 true else s1
    let s3 := { s2 with cmd := { s2.cmd with shedUpAt := if old < n then s.clk.now else s2.cmd.shedUpAt
                                             shedDownAt := if n < old then s.clk.now else s2.cmd.shedDownAt } }
    s3.raise 0x0203 (by1 n ++ by1 old ++ leBytes 2 s3.cmd.queue.length)

/-- One level up, to at most 3; one level down, to no less than MIN. -/
def State.shedUp (s : State) : State := s.setShed (min 3 (s.rf Reg.CMD_SHED_LVL 0 2 + 1))

/-- One level down, to no less than MIN. -/
def State.shedDown (s : State) : State :=
  let l := s.rf Reg.CMD_SHED_LVL 0 2
  if l ≤ s.rf Reg.CMD_SHED_LVL 24 2 then s else s.setShed (l - 1)

/-- The band a fill lies in (R82): 2 at 12,289 or more, 0 at 4,095 or less, 1 between. -/
def fillBand (n : Nat) : Nat := if 12289 ≤ n then 2 else if n ≤ 4095 then 0 else 1

/-- Replace the queue; the fill's change acts on the shed level, the peak and the full flag (R82). A queue that was empty notes the tick of its first entry (01 R11). -/
def State.setQueue (s : State) (q : List Cmd) : State :=
  let old := s.cmd.queue.length
  let new := q.length
  let s1 := { s with cmd := { s.cmd with queue := q, headTick := if old = 0 then s.clk.now else s.cmd.headTick
                                         fillAt := if fillBand old = fillBand new then s.cmd.fillAt else s.clk.now } }
  let s2 := s1.setRf Reg.CMD_QFILL 16 15 (max (s1.rf Reg.CMD_QFILL 16 15) new)
  let s3 := if new = 16384 then s2.setBit Reg.CMD_STAT 8 true else s2
  if old ≤ 12288 ∧ 12289 ≤ new then s3.shedUp
  else if 4096 ≤ old ∧ new ≤ 4095 then s3.shedDown
  else s3

/-- The tick on which the shed level moves again: the fill has stayed at 12,289 or more for a further HOLD since the last increase, or at 4,095 or less for a further HOLD since the last decrease, and the level can still move (R82). -/
def State.shedDue (s : State) : Option Nat :=
  let l := s.rf Reg.CMD_SHED_LVL 0 2
  if fillBand s.cmd.queue.length = 2 ∧ l < 3 then some (max s.cmd.shedUpAt s.cmd.fillAt + s.shedHold)
  else if fillBand s.cmd.queue.length = 0 ∧ s.rf Reg.CMD_SHED_LVL 24 2 < l then some (max s.cmd.shedDownAt s.cmd.fillAt + s.shedHold)
  else none

/-- SHED_HOLD: the fill has stayed beyond a threshold for a further HOLD, and the level moves again (R82). -/
def State.shedHoldOver (s : State) : State :=
  match s.shedDue with
  | none => s
  | some t =>
    let s1 := s.reachTick t
    if fillBand s1.cmd.queue.length = 2 then s1.shedUp else s1.shedDown

/-- A write of CMD_SHED_LVL (HOLD and MIN): HOLD 0 is not performed; MIN above the level sets the level (R82). Answers the status. -/
def State.writeShed (s : State) (w : Word) : Nat × State :=
  if fld w 8 8 = 0 then (1, s)
  else
    let s1 := (s.setRf Reg.CMD_SHED_LVL 8 8 (fld w 8 8)).setRf Reg.CMD_SHED_LVL 24 2 (fld w 24 2)
    (0, if s1.rf Reg.CMD_SHED_LVL 0 2 < fld w 24 2 then s1.setShed (fld w 24 2) else s1)

/-! ### Refusals (R78, R79, R85) -/

/-- Count a drop on every covered lane up to 127 (R79). -/
def State.laneDrops (s : State) (lane span : Nat) : State :=
  ((List.range (span + 1)).filter (fun i => lane + i ≤ 127)).foldl (fun x i => x.count (Reg.CMD_LANE_DROP + 4 * (lane + i))) s

/-- Refuse a frame or a command: the cause's counter, CMD_LAST_REJ, and its episode; causes 10 and 11 are drops (R79, R85). -/
def State.refuse (s : State) (cause source lane prio span : Nat) : State :=
  let s1 := s.count (Reg.CMD_REJ_CNT + 4 * (cause - 1))
  let s2 := s1.setReg Reg.CMD_LAST_REJ (w32 (cause + 2 ^ 8 * source + 2 ^ 16 * lane + 2 ^ 24 * prio))
  if cause = 10 ∨ cause = 11 then
    ((s2.count (Reg.CMD_DROP_CNT + 4 * prio)).laneDrops lane span).episode 0x0202 0
      (by1 cause ++ by1 prio ++ by1 lane ++ by1 source) (s2.rf Reg.CMD_SHED_LVL 0 2)
  else s2.episode 0x0201 cause (by1 cause ++ by1 source ++ by1 lane ++ by1 prio)

/-- Refuse a command. -/
def State.refuseCmd (s : State) (cause : Nat) (c : Cmd) : State := s.refuse cause c.source c.lane c.prio c.span

/-! ### Frames (R70, R71, R74) -/

/-- Offset of domain `d` against the active one: the tracked offset, rounded to the nearest ns, ties toward later (R74; 09 R176). -/
def State.stampOffset (s : State) (d : Nat) : Int :=
  if d = s.activeDomain then 0 else divRound s.tim.trk 65536

/-- The frame-level cause of a command frame, 0 if none (R78, causes 1 to 4). -/
def State.frameCause (s : State) (p : List Byte) : Nat :=
  let cnt := leAt p 6 2
  if leAt p 0 2 ≠ 0x434D ∨ leAt p 2 1 ≠ 1 ∨ 740 < cnt ∨ p.length ≠ 32 + 12 * cnt ∨ leAt p 5 1 ≠ 0 ∨ leAt p 24 4 ≠ 0 then 1
  else if w32 (leAt p 28 4) ≠ crc32c (p.take 28 ++ p.drop 32) then 2
  else if 1 < leAt p 3 1 ∨ (leAt p 3 1 ≠ s.activeDomain ∧ s.tim.trkValid = false) then 3
  else if 999999999 < leAt p 20 4 then 4
  else 0

/-- The commands of a frame, converted into NT of the active domain (R74); `delta` is a playback's shift in ns (02 R48). -/
def frameCmds (p : List Byte) (offset delta : Int) : List Cmd :=
  (List.range (leAt p 6 2)).map fun i =>
    let o := 32 + 12 * i
    { stamp := (leAt p 12 8 : Nat) * 1000000000 + (leAt p 20 4 : Nat) + 16 * (leAt p o 4 : Nat) + delta + offset
      w1 := w32 (leAt p (o + 4) 4), w2 := w32 (leAt p (o + 8) 4), source := leAt p 4 1 }

/-- The command-level cause of a command as it reaches the queue, 0 if none (R78, causes 5 to 11). FLAGS of a cancel or marker take no part (R73; assumption 50). -/
def State.cmdCause (s : State) (ring : Bool) (c : Cmd) : Nat :=
  if !s.live then 5
  else if ring && s.bit Reg.CMD_RPL_CTL 9 && !s.bit Reg.CMD_RPL_CTL 2 then 6
  else if bitOf c.w2 8 || (decide (c.kind ≤ 1) && (bitOf c.w2 3 || c.dur == 0)) then 7
  else if c.lanes.any fun l => decide (127 < l) || s.lanePrimary l == 0xFF then 8
  else if c.kind = 1 ∧ (s.sect 6).length = 0 then 9
  else if c.prio < s.rf Reg.CMD_SHED_LVL 0 2 then 10
  else if 16384 ≤ s.cmd.queue.length then 11
  else 0

/-- One command reaches the queue and enters it or is refused (R71, R80, R83). -/
def State.admitCmd (s : State) (ring : Bool) (c : Cmd) : State :=
  let k := s.cmdCause ring c
  if k = 0 then (s.setQueue (s.cmd.queue ++ [c])).count64 Reg.CMD_ACC_LO else s.refuseCmd k c

/-- Commands still to enter, from tick `n` on, one a tick. -/
def comingFrom (ring : Bool) (n : Nat) : List Cmd → List (Nat × Bool × Cmd)
  | [] => []
  | c :: cs => (n, ring, c) :: comingFrom ring (n + 1) cs

/-- The commands of a frame reach the queue in order: the first on the check tick, each further one a tick after the one before it, judged then (R71; assumption 9). -/
def State.admitAll (s : State) (ring : Bool) : List Cmd → State
  | [] => s
  | c :: cs =>
    let s1 := s.admitCmd ring c
    { s1 with cmd := { s1.cmd with coming := s1.cmd.coming ++ comingFrom ring (s.clk.now + 1) cs } }

/-- The commands of a list whose tick is `n` or earlier reach the queue, each on its own tick; the others go on waiting (R71). -/
def State.enterList (s : State) (n : Nat) : List (Nat × Bool × Cmd) → State
  | [] => { s with cmd := { s.cmd with coming := [] } }
  | e :: es =>
    if e.1 ≤ n then ((s.reachTick e.1).admitCmd e.2.1 e.2.2).enterList n es
    else { s with cmd := { s.cmd with coming := e :: es } }

/-- What enters the queue up to tick `n` enters it. -/
def State.enterTo (s : State) (n : Nat) : State := s.enterList n s.cmd.coming

/-- The tick of the last command still to enter, plus one: no frame is checked before it, since commands enter in frame order (R71; assumption 9). -/
def State.intakeFree (s : State) : Nat := s.cmd.coming.foldl (fun m e => max m (e.1 + 1)) 0

/-! ### What a command answers -/

/-- `k` ticks pass: commands of accepted frames reach the queue on their ticks, and the events of the ticks that are over leave the bus (R71; 01 R19). -/
def State.pass (s : State) (k : Nat) : State :=
  if k = 0 then s else ((s.enterTo (s.clk.now + k)).reachTick (s.clk.now + k)).flush

/-- The events of the present tick leave the bus once the tick is over: what takes events from their queues lets it pass first (01 R19). -/
def State.settle (s : State) : State := if s.bus.isEmpty then s else s.pass 1

/-- Do what takes the clock to a later tick: commands that reach the queue on the way have reached it by then (R71). -/
def State.during (s : State) (f : State → State) : State :=
  let t := f s
  if s.clk.now < t.clk.now ∧ s.cmd.coming.any (fun e => decide (e.1 ≤ t.clk.now)) = true then f (s.enterTo t.clk.now) else t

/-- The marks of switch positions from tick `n` on, and the one before. -/
def keepMarks (n : Nat) : List SwMark → List SwMark
  | [] => []
  | m :: ms => if m.tick < n then [m] else m :: keepMarks n ms

/-- Note the positions of LS, FW and HB where they differ from those of `s`. -/
def State.noteSwitches (s t : State) : State :=
  if t.drv.ls = s.drv.ls ∧ t.drv.fw = s.drv.fw ∧ t.drv.hb = s.drv.hb then t
  else { t with drv := { t.drv with marks := ⟨t.clk.now, t.drv.ls, t.drv.fw, t.drv.hb⟩ :: keepMarks (t.clk.now - msTicks 10) t.drv.marks } }

/-- A command that acts after `dt` ticks on a powered module. An unpowered module does nothing (18 R357; assumption 11). -/
def act (dt : Nat) (f : State → State) (s : State) : Out :=
  .next (if s.sys.powered then s.noteSwitches ((s.pass dt).during f).flush else s)

/-- A command that acts on the present tick or on the tick the state has scheduled. -/
abbrev actNow (f : State → State) (s : State) : Out := act 0 f s

/-! ### REPLAY (02 R46 to R48) -/

/-- Bytes of the REPLAY region (03 R50). -/
def State.rplSize (s : State) : Nat := 0x2000000 * s.img.rplSize

/-- Stop a recording on a full region (R47). -/
def State.rplFull (s : State) : State :=
  ((s.setBit Reg.CMD_RPL_CTL 0 false).setBit Reg.CMD_RPL_CTL 8 true).raise 0x0242

/-- Append a received frame to the stream, with the terminating entry behind it (R46, R47; assumption 12). OFFSET is unsigned: NT stepped back before the stream start gives 0 (DESIGN CHOICE, assumption 56). -/
def State.rplAppend (s : State) (p : List Byte) : State :=
  if p.length = 0 then s
  else
    let pad := (16 - p.length % 16) % 16
    let n := 16 + p.length + pad
    if s.rplSize < s.cmd.rplPos + n + 16 then s.rplFull
    else
      let e := leBytes 4 p.length ++ leBytes 4 (crc32c p).toNat ++ leBytes 8 (s.ntNs - s.cmd.rplStart) ++ p ++ List.replicate (pad + 16) 0
      let s1 := s.dramPut (0xC0000000 + s.cmd.rplPos) e
      { s1.setReg Reg.CMD_RPL_LEN (w32 (s.cmd.rplPos + n + 16)) with cmd := { s1.cmd with rplPos := s.cmd.rplPos + n } }

/-- A received command frame on its check tick (R70, R71, R78, R80). `ring`: it came from the ring, not from playback. A payload too short to hold SOURCE shows 0 for it (DESIGN CHOICE, assumption 57). -/
def State.takeFrame (s : State) (ring : Bool) (p : List Byte) : State :=
  let s1 := if ring && s.bit Reg.CMD_RPL_CTL 0 then s.rplAppend p else s
  let s2 := s1.count Reg.CMD_FRM_CNT
  let k := s2.frameCause p
  if k ≠ 0 then s2.refuse k (leAt p 4 1) 0 0 0
  else s2.admitAll ring (frameCmds p (s2.stampOffset (leAt p 3 1)) (if ring then 0 else 1000 * s2.cmd.rplDelta))

/-- Setting REC restarts the stream at its first entry; its start is this tick's NT (R47). A region of size 0 is full at once (01 R25). -/
def State.rplRecStart (s : State) : State :=
  let s1 := { s.setBit Reg.CMD_RPL_CTL 0 true with cmd := { s.cmd with rplStart := s.ntNs, rplPos := 0 } }
  if s1.rplSize < 16 then (s1.setReg Reg.CMD_RPL_LEN 0).rplFull
  else (s1.dramPut 0xC0000000 (List.replicate 16 0)).setReg Reg.CMD_RPL_LEN 16

/-- A little-endian field of the stream's next entry; beyond the region it reads 0 (01 R25). -/
def State.rplField (s : State) (o len : Nat) : Nat :=
  if s.rplSize < s.cmd.rplPos + o + len then 0
  else leNat (storeGetList dramNone s.dram (0xC0000000 + s.cmd.rplPos + o) len)

/-- End playback: PLAY and ACTIVE clear, RPL_END with the cause and the offset of the first entry not presented (R48). -/
def State.rplEnd (s : State) (cause : Nat) : State :=
  if s.bit Reg.CMD_RPL_CTL 9 then
    ((s.setBit Reg.CMD_RPL_CTL 1 false).setBit Reg.CMD_RPL_CTL 9 false).raise 0x0241 (by1 cause ++ by4 s.cmd.rplPos)
  else s

/-- At the terminating entry the stream ends, and so it does at an entry whose LEN is no payload's length (R46, R48; DESIGN CHOICE, assumption 55). -/
def State.rplAtEnd (s : State) : State :=
  if s.rplField 0 4 = 0 ∨ 8972 < s.rplField 0 4 then s.rplEnd 0 else s

/-- Setting PLAY in ARMED or DRY, with REC 0: Δ in whole µs, and playback starts (R48). -/
def State.rplPlay (s : State) : State :=
  if s.live && !s.bit Reg.CMD_RPL_CTL 0 && !s.bit Reg.CMD_RPL_CTL 9 then
    let d : Int := ((s.ntNs : Int) - s.cmd.rplStart).tdiv 1000
    let s1 := (s.setBit Reg.CMD_RPL_CTL 1 true).setBit Reg.CMD_RPL_CTL 9 true
    let s2 := (s1.setReg Reg.CMD_RPL_DELTA_LO (w32i d)).setReg Reg.CMD_RPL_DELTA_HI (w32i (d / 2 ^ 32))
    ({ s2 with cmd := { s2.cmd with rplPos := 0, rplDelta := d } }).rplAtEnd
  else s

/-- The NT at which the stream's next entry is presented (R48). -/
def State.rplDue (s : State) : Int := s.cmd.rplStart + 1000 * s.cmd.rplDelta + s.rplField 8 8

/-- The next entry of the stream is presented as a frame, or skipped for its CRC (R48). -/
def State.rplEntry (s : State) : State :=
  if s.bit Reg.CMD_RPL_CTL 9 then
    let s0 := s.rplAtEnd
    if s0.bit Reg.CMD_RPL_CTL 9 then
      let s1 := s0.reachNt s0.rplDue
      let n := s1.rplField 0 4
      let pos := s1.cmd.rplPos
      let p := storeGetList dramNone s1.dram (0xC0000000 + pos + 16) n
      let s2 := { s1 with cmd := { s1.cmd with rplPos := pos + 16 + n + (16 - n % 16) % 16 } }
      let s3 := if w32 (s1.rplField 4 4) = crc32c p then s2.takeFrame false p
                else (s2.count Reg.CMD_RPL_CRCERR).raise 0x0240 (by4 pos)
      s3.rplAtEnd
    else s0
  else s

/-! ### Leaving ARMED and DRY (R81, R364) -/

/-- Discard every queued command and calendar entry, count them, and report them with the state entered (R81, R86). Nothing discarded is not reported (DESIGN CHOICE, assumption 58). -/
def State.discardAll (s : State) (entered : Nat) : State :=
  let n := s.cmd.queue.length + s.trn.cal.length
  if n = 0 then s
  else
    let s1 := s.setQueue []
    let s2 := { s1 with trn := { s1.trn with cal := [] } }
    (s2.setReg Reg.CMD_DISCARD (w32 (sat 0xFFFFFFFF ((s2.reg Reg.CMD_DISCARD).toNat + n)))).raise 0x0204 (by1 entered ++ by4 n)

/-! ### Meanings -/

/-- The ticks until a frame's check tick: `dt`, within 2.0 µs of its last byte, and no sooner than the commands of the frame before it have entered (R71; assumption 9). -/
def State.checkWait (s : State) (p : List Byte) (dt : Nat) : Nat := max (s.offerWait (.command p) (usTicks 2) dt) (s.intakeFree - s.clk.now)

/-- COMMAND_FRAME (R71): a command frame is checked on its check tick and its commands enter the queue or are refused. -/
def execCommandFrame (dt : Nat) (payload : List Byte) : State → Out :=
  fun s => act (s.checkWait payload dt) (fun s => (s.takeOffer (.command payload)).takeFrame true payload) s

/-- SHED_HOLD (R82). -/
def execShedHold : State → Out := actNow State.shedHoldOver

/-- SHED_MIN_WRITE (R82): a write of CMD_SHED_LVL. -/
def execShedMinWrite (w : Word) : State → Out := actNow fun s => (s.writeShed w).2

/-- The open episode that closes first. -/
def firstEp : List Episode → Option Episode
  | [] => none
  | e :: es =>
    match firstEp es with
    | some f => if epDue f < epDue e then some f else some e
    | none => some e

/-- EPISODE_CLOSE (R85): the open episode due first closes on its tick. -/
def State.closeDue (s : State) : State :=
  match firstEp s.episodes with
  | none => s
  | some e => (s.reachTick (epDue e)).closeEp e

/-- EPISODE_CLOSE (R85). -/
def execEpisodeClose : State → Out := actNow State.closeDue

/-- RPL_REC_START (02 R47): not performed while PLAY is 1. -/
def State.recStart (s : State) : State := if s.bit Reg.CMD_RPL_CTL 1 then s else s.rplRecStart

/-- RPL_REC_START (02 R47). -/
def execRplRecStart : State → Out := actNow State.recStart

/-- RPL_PLAY (02 R48). -/
def execRplPlay : State → Out := actNow State.rplPlay

/-- RPL_ENTRY (02 R48): a playback presents its next entry no sooner than the commands of the frame before it have entered (04 R71; assumption 9). -/
def execRplEntry : State → Out := fun s => act (if s.bit Reg.CMD_RPL_CTL 9 then s.intakeFree - s.clk.now else 0) State.rplEntry s

/-- Clear every CMD_LANE_DROP register (R79). -/
def State.laneClear (s : State) : State := s.clearRegs Reg.CMD_LANE_DROP 128

/-- CMD_LCLR (R79). -/
def execCmdLclr : State → Out := actNow State.laneClear

/-- Clear the refusal, drop, frame, accepted and discard counters on one CORE cycle (R79; CMD_CTL.CCLR). -/
def State.cmdClear (s : State) : State :=
  (((s.clearRegs Reg.CMD_REJ_CNT 14).clearRegs Reg.CMD_DROP_CNT 4).clearRegs Reg.CMD_ACC_LO 4)

/-- CMD_CCLR (R79). -/
def execCmdCclr : State → Out := actNow State.cmdClear

/-- Set PEAK to the present fill (CMD_QFILL.PCLR). -/
def State.qPeakClear (s : State) : State := s.setRf Reg.CMD_QFILL 16 15 s.cmd.queue.length

/-- CMD_PCLR (R82). -/
def execCmdPclr : State → Out := actNow State.qPeakClear

end Sys2Proof.Machine
end

