-- ==== Sys2Proof/Machine/Recorder.lean ====
section
/-! DEFINITION. The event recorder and the Kennel (16): records, the bad-slot map, merges, position copies, start-up, freeze, clear, the DRAM mirror. -/

namespace Sys2Proof.Machine

/-! ### The RECC section (R342) -/

/-- Whether the working copy of section `id` is there. -/
def State.hasSect (s : State) (id : Nat) : Bool := !(s.sect id).isEmpty

/-- FREEZE_MAX in TIME ticks. -/
def State.freezeMax (s : State) : Nat := msTicks 100 * if s.hasSect 15 then s.sx 15 0 2 else 50

/-- MERGE_WIN in s. -/
def State.mergeWin (s : State) : Nat := if s.hasSect 15 then s.sx 15 2 2 else 60

/-- CHAL_LIFE in TIME ticks. -/
def State.chalLife (s : State) : Nat := msTicks 1000 * if s.hasSect 15 then s.sx 15 4 1 else 10

/-! ### The record (R320 to R322) -/

/-- The 32 bytes of a record. -/
def recBytes (e : Event) : List Byte :=
  let b := leBytes 5 e.opsec ++ leBytes 3 e.pcyc ++ leBytes 2 e.code ++ by1 (e.sev + 16 * e.flags) ++ by1 0 ++ e.args ++ leBytes 4 e.ntsec
    ++ leBytes 2 e.rep ++ leBytes 2 0
  b ++ leBytes 4 (crc32c b).toNat

/-- Whether 32 bytes pass the record CRC. -/
def recValid (bs : List Byte) : Bool := w32 (leAt bs 28 4) == crc32c (bs.take 28)

/-- Whether bytes hold the empty pattern. -/
def isEmptyRec (bs : List Byte) : Bool := bs.all (· == 0xFF)

/-- Window address of a slot by its bit in the bad-slot map: founding 0 … 2,047, circulating from 2,048 up (R326; 01 R27). -/
def slotAddr (i : Nat) : Nat := 32 * i

/-- The bytes of a slot. -/
def State.slotBytes (s : State) (i : Nat) : List Byte := storeGetList kennelNone s.kennel (slotAddr i) 32

/-- Draw `8 n` bytes of which the spec states nothing (assumption 10). -/
def State.drawBytes (s : State) : Nat → List Byte × State
  | 0 => ([], s)
  | n + 1 =>
    let d := s.draw
    let r := d.2.drawBytes n
    (leBytes 8 d.1.toNat ++ r.1, r.2)

/-! ### The bad-slot map (R326) -/

/-- Window address of a map copy. -/
def mapBase (c : Nat) : Nat := if c = 0 then 0x00210000 else 0x003F0000

/-- Whether a slot is marked bad: in either copy. -/
def State.badSlot (s : State) (i : Nat) : Bool :=
  (s.kenByte (mapBase 0 + i / 8)).getLsbD (i % 8) || (s.kenByte (mapBase 1 + i / 8)).getLsbD (i % 8)

/-- Set a slot's bit in one map copy; a copy that cannot be written is unwritable from then on (R338). -/
def State.markCopy (s : State) (f : KenFault) (i c : Nat) : State :=
  if s.bit Reg.REC_STAT (3 + c) then s
  else if f.map.getLsbD c then (s.setBit Reg.REC_STAT (3 + c) true).raise 0x0F09 (by1 c ++ leBytes 3 i)
  else
    let a := mapBase c + i / 8
    s.kenPut a [s.kenByte a ||| (1#8 <<< (i % 8))]

/-- A slot has failed twice: it is marked in both copies, counted, and no longer holds data (R325, R326, R338). -/
def State.markBad (s : State) (f : KenFault) (i : Nat) : State :=
  let was := s.badSlot i
  let d := s.drawBytes 4
  let s1 := ((d.2.kenPut (slotAddr i) d.1).markCopy f i 0).markCopy f i 1
  let s2 := if !was && s1.badSlot i then s1.setReg Reg.REC_BADCNT (s1.reg Reg.REC_BADCNT + 1) else s1
  { s2 with rcd := { s2.rcd with consec := s2.rcd.consec + 1 } }

/-- The cause for which the Kennel has failed now, 0 if none (R338). -/
def State.mediumCause (s : State) : Nat :=
  if 64 ≤ s.rcd.consec then 1 else if s.bit Reg.REC_STAT 3 && s.bit Reg.REC_STAT 4 then 2 else 0

/-- An upper bound of the bad slots, from the bytes the map copies list: enough fuel to step over them. -/
def State.badFuel (s : State) : Nat := 8 * s.kennel.length + 1

/-- The first good slot among `lo … lo + n − 1` from offset `k` up, wrapping. -/
def State.goodFrom (s : State) (lo n : Nat) : Nat → Nat → Nat
  | 0, k => k
  | fuel + 1, k => if s.badSlot (lo + k) then s.goodFrom lo n fuel ((k + 1) % n) else k

/-! ### Position copies (R331, R332) -/

/-- The 64 bytes of a position copy. -/
def State.posBytes (s : State) : List Byte :=
  let b := leBytes 4 s.rcd.gen ++ leBytes 5 s.rcd.opsec ++ leBytes 3 s.rcd.pcyc ++ leBytes 2 (s.reg Reg.REC_POS).toNat
    ++ leBytes 2 (s.reg Reg.REC_FIDX).toNat ++ leBytes 4 (s.reg Reg.REC_WRAP).toNat ++ by1 (b2n s.rcd.clean + 2 * b2n s.rcd.clrPend) ++ leBytes 3 0
    ++ leBytes 4 s.rcd.erasePos ++ List.replicate 32 0
  b ++ leBytes 4 (crc32c b).toNat

/-- Window address of a position copy. -/
def posBase (c : Nat) : Nat := 0x00220000 + 64 * c

/-- Write a position copy; a write that fails verification is repeated in the other copy. -/
def State.persist (s : State) (fail : Bool) : State :=
  let s1 := { s with rcd := { s.rcd with gen := (s.rcd.gen + 1) % 2 ^ 32, genCopy := 1 - s.rcd.genCopy } }
  if fail then
    let d := s1.drawBytes 8
    let s2 := d.2.kenPut (posBase s1.rcd.genCopy) d.1
    let s3 := { s2 with rcd := { s2.rcd with genCopy := 1 - s2.rcd.genCopy } }
    s3.kenPut (posBase s3.rcd.genCopy) s3.posBytes
  else s1.kenPut (posBase s1.rcd.genCopy) s1.posBytes

/-- The bytes of a position copy. -/
def State.posCopy (s : State) (c : Nat) : List Byte := storeGetList kennelNone s.kennel (posBase c) 64

/-- Whether a position copy passes its CRC. -/
def posValid (bs : List Byte) : Bool := w32 (leAt bs 60 4) == crc32c (bs.take 60)

/-- The ruling position copy: the valid one with the higher GEN. -/
def State.ruling (s : State) : Option Nat :=
  let a := s.posCopy 0
  let b := s.posCopy 1
  if posValid a then (if posValid b ∧ leAt a 0 4 < leAt b 0 4 then some 1 else some 0)
  else if posValid b then some 1 else none

/-! ### Writing (R323 to R327, R338, R339) -/

/-- An event that the recorder writes by itself: it takes its number and goes to the frames, the Shutter and ATTN as any other (01 R19). -/
def State.ownEvent (s : State) (code : Nat) (args : List Byte) : Event × State :=
  let e := s.number (s.mkEvent code args false 0)
  (e, s.carry e)

/-- Append a record to the DRAM mirror (R339). -/
def State.mirrorPut (s : State) (e0 : Event) : State :=
  let e := { e0 with flags := e0.flags ||| 8 }
  let i := s.rf Reg.REC_MIRPOS 0 15
  let s1 := s.dramPut (0xFF000000 + 32 * i) (recBytes e)
  let s2 := if i = 32767 then (s1.setRf Reg.REC_MIRPOS 0 15 0).setRf Reg.REC_MIRPOS 16 16 (sat 65535 (s1.rf Reg.REC_MIRPOS 16 16 + 1))
            else s1.setRf Reg.REC_MIRPOS 0 15 (i + 1)
  { (s2.count (Reg.REC_LOST_CNT + 8)) with rcd := { s2.rcd with lastRec := some e, lastSlot := i, lastMirror := true } }

/-- The Kennel has failed: flags, the failure word, and the mirror from index 0 with LOG_MEDIUM_FAILED after the pending record (R338, R340). -/
def State.mediumFail (s : State) (cause : Nat) (pend : Option Event) : State :=
  let word := w32 (cause + 256 * (s.rcd.pcyc % 2 ^ 24))
  let s1 := ((s.setBit Reg.REC_STAT 2 true).setBit Reg.SYS_STATUS 0 true).setReg Reg.PWR_RET0 word
  let s2 := (s1.setReg Reg.REC_MEDFAIL word).setReg Reg.REC_MIRPOS 0
  let s3 := match pend with
    | some e => s2.mirrorPut e
    | none => s2
  let r := s3.ownEvent 0x0F04 (leBytes 4 word.toNat ++ leBytes 3 (s3.reg Reg.REC_BADCNT).toNat)
  r.2.mirrorPut r.1

/-- Advance the circulating position past slot `k`, counting a wrap (R323). -/
def State.posAfter (s : State) (k : Nat) : State :=
  let s1 := if k < s.rf Reg.REC_POS 0 16 then s.setReg Reg.REC_WRAP (s.reg Reg.REC_WRAP + 1) else s
  if k = 65535 then (s1.setReg Reg.REC_POS 0).setReg Reg.REC_WRAP (s1.reg Reg.REC_WRAP + 1) else s1.setReg Reg.REC_POS (w32 (k + 1))

/-- Write a record to the next good circulating slot, stepping over slots that fail: the state, the slot, and the run of failed slots (first, length). -/
def State.circWrite (s : State) (f : KenFault) (e : Event) : Nat → Nat × Nat → State × Option Nat × Nat × Nat
  | 0, run => (s, none, run)
  | fuel + 1, run =>
    let k := s.goodFrom 2048 65536 s.badFuel (s.rf Reg.REC_POS 0 16)
    if f.slots.contains (2048 + k) then
      let s1 := (s.markBad f (2048 + k)).posAfter k
      let run1 := (if run.2 = 0 then k else run.1, run.2 + 1)
      if s1.mediumCause ≠ 0 then (s1, none, run1) else s1.circWrite f e fuel run1
    else ((s.kenPut (slotAddr (2048 + k)) (recBytes e)).posAfter k, some k, run)

/-- LOG_SLOT_BAD as the next record, for a run of failed slots (R326). -/
def State.slotBadEvent (s : State) (area first len : Nat) : State :=
  if len = 0 then s
  else
    let r := s.ownEvent 0x0F03 (by1 area ++ leBytes 2 first ++ by1 (sat 255 len) ++ leBytes 3 (s.reg Reg.REC_BADCNT).toNat)
    { r.2 with rcd := { r.2.rcd with own := r.2.rcd.own ++ [r.1] } }

/-- The circulating copy of a record, or the mirror where the Kennel fails over it. `fd`: the founding slot that failed. -/
def State.circRecord (s : State) (f : KenFault) (e : Event) (fd : Option Nat) (fresh : Bool) : State :=
  match s.circWrite f e (f.slots.length + 1) (0, 0) with
  | (s1, some k, run) =>
    let s2 := { s1 with rcd := { s1.rcd with consec := 0, lastRec := some e, lastSlot := k, lastMirror := false } }
    let s3 := ((if fresh then s2.count (Reg.REC_LOST_CNT + 8) else s2).persist f.pos)
    let s4 := match fd with
      | some i => s3.slotBadEvent 0 i 1
      | none => s3
    s4.slotBadEvent 1 run.1 run.2
  | (s1, none, _) => s1.mediumFail (max 1 s1.mediumCause) (some e)

/-- The founding copy of a record, while the founding area is not full (R324): the state, whether the slot failed, and its index. -/
def State.foundWrite (s : State) (f : KenFault) (e : Event) : State × Option Nat :=
  let i0 := s.rf Reg.REC_FIDX 0 12
  if 2048 ≤ i0 then (s, none)
  else
    let i := ((List.range (2048 - i0)).map (i0 + ·)).find? (fun k => !s.badSlot k)
    match i with
    | none => ((s.setReg Reg.REC_FIDX 2048).setBit Reg.REC_STAT 5 true, none)
    | some i =>
      let r := if f.slots.contains i then (s.markBad f i, some i) else (s.kenPut (slotAddr i) (recBytes e), none)
      let s1 := r.1.setReg Reg.REC_FIDX (w32 (i + 1))
      (if i = 2047 then s1.setBit Reg.REC_STAT 5 true else s1, r.2)

/-- Append a record (R323 to R326, R339). -/
def State.append (s : State) (f : KenFault) (e : Event) : State :=
  if s.bit Reg.REC_STAT 2 then (s.mirrorPut e).persist f.pos
  else
    let r := s.foundWrite f e
    let e1 := if r.2.isSome then { e with flags := e.flags ||| 4 } else e
    if r.1.mediumCause ≠ 0 then r.1.mediumFail r.1.mediumCause (some e1) else r.1.circRecord f e1 r.2 true

/-- The grown record when an event merges into the record last written (R327). -/
def State.merged (s : State) (e : Event) : Option Event :=
  match s.rcd.lastRec with
  | none => none
  | some p =>
    let fl := if s.bit Reg.REC_STAT 2 then e.flags ||| 8 else e.flags
    if p.code = e.code ∧ p.flags = fl ∧ p.args = e.args ∧ e.code ≠ 0x0F01 ∧ e.opsec - p.opsec ≤ s.mergeWin ∧ s.mergeWin ≠ 0
        ∧ p.rep + e.rep + 1 ≤ 65535 then some { p with rep := p.rep + e.rep + 1 } else none

/-- Merge: the last record is rewritten in its slot, or in the next good one where its slot fails (R327). -/
def State.mergeWrite (s : State) (f : KenFault) (p : Event) : State :=
  let s1 := s.count (Reg.REC_LOST_CNT + 4)
  if s1.rcd.lastMirror then
    ({ s1.dramPut (0xFF000000 + 32 * s1.rcd.lastSlot) (recBytes p) with rcd := { s1.rcd with lastRec := some p } }).persist f.pos
  else
    let k := s1.rcd.lastSlot
    if f.slots.contains (2048 + k) then
      let s2 := s1.markBad f (2048 + k)
      if s2.mediumCause ≠ 0 then s2.mediumFail s2.mediumCause (some p)
      else (s2.circRecord f p none false).slotBadEvent 1 k 1
    else
      let s2 := s1.kenPut (slotAddr (2048 + k)) (recBytes p)
      ({ s2 with rcd := { s2.rcd with lastRec := some p, consec := 0 } }).persist f.pos

/-- Write or merge one event. -/
def State.record (s : State) (f : KenFault) (e : Event) : State :=
  match s.merged e with
  | some p => s.mergeWrite f p
  | none => s.append f e

/-! ### Start-up (R330, R331, R333, R337, R340; 18 R361) -/

/-- Slots of which the Kennel lists some byte, by map bit, ascending. -/
def State.usedSlots (s : State) : List Nat :=
  ((s.kennel.filter fun c => decide (c.1 < 0x00210000)).map fun c => c.1 / 32).eraseDups

/-- The records of a slot list that pass their CRC, with their slots. -/
def State.validSlots (s : State) : List (Nat × List Byte) :=
  (s.usedSlots.map fun i => (i, s.slotBytes i)).filter fun x => recValid x.2

/-- Whether the Kennel is as it leaves the factory (R333). -/
def State.freshKennel (s : State) : Bool :=
  s.kennel.all fun c => decide (0x00210000 ≤ c.1) && !(decide (c.1 < 0x00214000)) && !(decide (0x00220000 ≤ c.1) && decide (c.1 < 0x00220080))
    && !(decide (0x003F0000 ≤ c.1) && decide (c.1 < 0x003F4000))

/-- The number of bad slots whose map byte lies at or after offset `lo`. -/
def State.badCount (s : State) (lo : Nat) : Nat :=
  let inMap (c : Nat) (x : Host.Cell) : Bool := decide (mapBase c + lo ≤ x.1) && decide (x.1 < mapBase c + 8448)
  let offs := (((s.kennel.filter (inMap 0)).map (·.1 - mapBase 0)) ++ ((s.kennel.filter (inMap 1)).map (·.1 - mapBase 1))).eraseDups
  (offs.map fun o => popcount 8 (s.kenByte (mapBase 0 + o) ||| s.kenByte (mapBase 1 + o)).toNat).sum

/-- Rebuild the position by a scan of both areas (R333): `powerOn` rebuilds the counters too. Answers the number of valid records. -/
def State.rebuild (s : State) (powerOn : Bool) : Nat × State :=
  let vs := s.validSlots
  let fidx := ((List.range 2048).find? fun i => isEmptyRec (s.slotBytes i) && !s.badSlot i).getD 2048
  let ops := vs.foldl (fun m x => max m (leAt x.2 0 5)) 0
  let pcs := vs.foldl (fun m x => max m (leAt x.2 5 3)) 0
  let best := (vs.filter fun x => decide (2048 ≤ x.1)).foldl (fun (b : Option (Nat × List Byte)) x =>
    match b with
    | none => some x
    | some y => if leAt x.2 0 5 < leAt y.2 0 5 ∨ (leAt x.2 0 5 = leAt y.2 0 5 ∧ leAt x.2 5 3 < leAt y.2 5 3) then some y else some x) none
  let pos := match best with
    | some x => (x.1 - 2048 + 1) % 65536
    | none => 0
  let s1 := ((s.setReg Reg.REC_FIDX (w32 fidx)).setReg Reg.REC_POS (w32 pos)).setReg Reg.REC_WRAP 0
  let s2 := if powerOn then { s1 with rcd := { s1.rcd with opsec := ops, pcyc := pcs } } else s1
  (vs.length, { s2 with rcd := { s2.rcd with gen := 0, genCopy := 1 } })

/-- Put an event of the recorder behind what waits. -/
def State.queueOwn (s : State) (code : Nat) (args : List Byte) : State :=
  let r := s.ownEvent code args
  r.2.toRecorder r.1

/-- Count one power cycle, saturating (R330). -/
def State.countCycle (s : State) (powerOn : Bool) : State :=
  if powerOn then { s with rcd := { s.rcd with pcyc := sat 0xFFFFFF (s.rcd.pcyc + 1) } } else s

/-- The recorder's step of BOOT: the position is taken, the counters restored, SYS_RESET queued as the first record of the reset, REC_INIT or REC_UNCLEAN behind it; after a medium failure in this power cycle the mirror restarts (R330, R333, R337, R340; 18 R359 to R361). -/
def State.recorderStart (s0 : State) : State :=
  if s0.rcd.started then s0
  else
    let waiting := s0.rcd.queue
    let on := s0.sys.cause == 1
    let s := { s0 with rcd := { s0.rcd with started := true, queue := [], persistTick := s0.clk.now } }
    let reset (x : State) : State := x.queueOwn 0x0004 (by1 x.sys.cause ++ by1 (x.reg Reg.PWR_RET1).toNat)
    let s1 :=
      match s.ruling with
      | some c =>
        let b := s.posCopy c
        let r := ((s.setReg Reg.REC_POS (w32 (leAt b 12 2))).setReg Reg.REC_FIDX (w32 (leAt b 14 2))).setReg Reg.REC_WRAP (w32 (leAt b 16 4))
        let ops := leAt b 4 5
        let was := (leAt b 20 1).testBit 0
        let pend := (leAt b 20 1).testBit 1
        let r1 := { r with rcd := { r.rcd with gen := leAt b 0 4, genCopy := c, clrPend := pend, clrBoot := pend, clrTick := s.clk.now, erasePos := leAt b 24 4
                                               opsec := if on then ops else r.rcd.opsec, pcyc := if on then leAt b 9 3 else r.rcd.pcyc
                                               clean := if on then false else r.rcd.clean } }
        let r2 := (r1.countCycle on).setBit Reg.REC_STAT 1 pend
        let r3 := reset (r2.persist false)
        if on && !was then r3.queueOwn 0x0F02 (leBytes 5 ops) else r3
      | none =>
        let fresh := s.freshKennel
        let k := s.rebuild on
        let r := reset ((k.2.countCycle on).persist false)
        r.queueOwn 0x0F0B (by1 (b2n (!fresh)) ++ leBytes 3 k.1 ++ by4 k.2.rcd.opsec)
    let s2 := (s1.setReg Reg.REC_BADCNT (w32 (s1.badCount 0))).setBit Reg.REC_STAT 5 (decide (2048 ≤ s1.rf Reg.REC_FIDX 0 12))
    let s3 := waiting.foldl State.toRecorder s2
    let word := s3.reg Reg.PWR_RET0
    if word ≠ 0 then
      let s4 := (((s3.setBit Reg.REC_STAT 2 true).setBit Reg.SYS_STATUS 0 true).setReg Reg.REC_MEDFAIL word).setReg Reg.REC_MIRPOS 0
      let r := s4.ownEvent 0x0F04 (leBytes 4 word.toNat ++ leBytes 3 (s4.reg Reg.REC_BADCNT).toNat)
      { r.2 with rcd := { r.2.rcd with own := r.1 :: r.2.rcd.own } }
    else s3

/-! ### The queue (R325, R328, R329, R337) -/

/-- Whether the recorder may write a record now: not frozen, no erase before it. -/
def State.mayRecord (s : State) : Bool :=
  !s.bit Reg.REC_STAT 0 &&
    (s.bit Reg.REC_STAT 2 || !s.rcd.clrPend || (s.rcd.clrBoot && decide (s.rf Reg.REC_POS 0 16 < s.rcd.erasePos)))

/-- The next event to record: the recorder's own first. -/
def State.nextRecord (s : State) : Option (Event × State) :=
  match s.rcd.own, s.rcd.queue with
  | e :: es, _ => some (e, { s with rcd := { s.rcd with own := es } })
  | [], e :: es => some (e, { s with rcd := { s.rcd with queue := es } })
  | [], [] => none

/-- RECORD_WRITE: the recorder takes the next event and writes its record or merges it (R325, R327); events of the present tick reach its queue first. -/
def State.recordWrite (s0 : State) (f : KenFault) : State :=
  let s := s0.settle.recorderStart
  if s.mayRecord then
    match s.nextRecord with
    | some (e, s1) => s1.record f e
    | none => s
  else s

/-- Drain the queue (R341 step 3). -/
def State.drainRecords (s : State) (f : KenFault) : Nat → State
  | 0 => s
  | n + 1 =>
    match s.nextRecord with
    | some (e, s1) => ((s1.record f e).settle.queueLost).drainRecords f n
    | none => s

/-- LOG_MEDIUM_FAILED: the medium fails while a record is written: 64 slots in a row (cause 1), or both map copies (cause 2) (R338). -/
def State.mediumFailed (s0 : State) (cause : Nat) : State :=
  let s := s0.recorderStart
  if s.bit Reg.REC_STAT 2 then s
  else
    let pos := s.rf Reg.REC_POS 0 16
    let f : KenFault := { slots := (List.range (s.badFuel + 64)).map fun k => 2048 + (pos + k) % 65536, map := if cause = 2 then 3#2 else 0#2, pos := false }
    match s.nextRecord with
    | some (e, s1) => s1.append f e
    | none =>
      let s1 := if cause = 2 then s.markBad f (2048 + s.goodFrom 2048 65536 s.badFuel pos) else s
      s1.mediumFail (if cause = 2 then 2 else 1) none

/-- End the freeze: REC_FROZEN with its duration, the peak fill and why it ended (R329). -/
def State.thaw (s : State) (why : Nat) : State :=
  match s.rcd.frozenAt with
  | none => s
  | some t =>
    let s1 := (s.setBit Reg.REC_STAT 0 false).setBit Reg.REC_FREEZE 0 false
    ({ s1 with rcd := { s1.rcd with frozenAt := none } }).raise 0x0F08 (by2 ((s.clk.now - t) / 250000) ++ by2 s.rcd.frozenPeak ++ by1 why)

/-- A write of FREEZE: during a clear it is not performed (R329). Answers the status. -/
def State.freeze (s : State) : Nat × State :=
  if s.rcd.clrPend then (2, s)
  else if s.rcd.frozenAt.isSome then (0, s)
  else
    let s1 := (s.setBit Reg.REC_STAT 0 true).setBit Reg.REC_FREEZE 0 true
    (0, { s1 with rcd := { s1.rcd with frozenAt := some s1.clk.now, frozenPeak := s1.rcd.queue.length } })

/-- FREEZE_EXPIRE (R329). -/
def State.freezeExpire (s : State) : State :=
  match s.rcd.frozenAt with
  | none => s
  | some t => (s.reachTick (t + s.freezeMax)).thaw 1

/-- OPSEC_TICK: the next operating second, saturating (R330). -/
def State.opsecTick (s : State) : State :=
  let s1 := s.reachTick (s.rcd.opsecTick + msTicks 1000)
  { s1 with rcd := { s1.rcd with opsec := sat (2 ^ 40 - 1) (s1.rcd.opsec + 1), opsecTick := s.rcd.opsecTick + msTicks 1000 } }

/-- POSITION_PERSIST: 60 s after the last one (R330, R332). -/
def State.posPersist (s0 : State) (fail : Bool) : State :=
  let s := s0.recorderStart
  let t := s.rcd.persistTick + msTicks 60000
  let s1 := s.reachTick t
  ({ s1 with rcd := { s1.rcd with persistTick := t } }).persist fail

/-! ### The cursor (R334) -/

/-- The slot the cursor selects: its bytes and its BAD bit. -/
def State.cursorSlot (s : State) : List Byte × Bool :=
  let i := s.rf Reg.REC_CURSOR 0 17
  let a := s.rf Reg.REC_CURSOR 17 2
  if a = 2 then (storeGetList dramNone s.dram (0xFF000000 + 32 * i) 32, false)
  else
    let k := if a = 1 then 2048 + i else i
    (s.slotBytes k, s.badSlot k)

/-- Slots of a cursor area. -/
def areaLen (a : Nat) : Nat := match a with
  | 0 => 2048
  | 1 => 65536
  | _ => 32768

/-- A read of REC_DATA0 latches the selected slot's words and its VALID, BAD and EMPTY bits. -/
def State.latchRecord (s : State) : State :=
  let c := s.cursorSlot
  let s1 := { s with rcd := { s.rcd with curData := (List.range 8).map fun k => w32 (leAt c.1 (4 * k) 4) } }
  s1.setRf Reg.REC_CURSOR 24 3 (b2n (recValid c.1) + 2 * b2n c.2 + 4 * b2n (isEmptyRec c.1))

/-- A read of REC_DATAk: word 0 latches, word 7 advances the index under AUTO. Answers the word. -/
def State.readRecData (s : State) (k : Nat) : Word × State :=
  let s1 := if k = 0 then s.latchRecord else s
  let w := s1.rcd.curData.getD k 0
  if k = 7 ∧ s1.bit Reg.REC_CURSOR 19 = true then
    (w, s1.setRf Reg.REC_CURSOR 0 17 ((s1.rf Reg.REC_CURSOR 0 17 + 1) % areaLen (s1.rf Reg.REC_CURSOR 17 2)))
  else (w, s1)

/-- A write of REC_CURSOR: an index beyond its area, or area 3, is not performed (R334). -/
def State.writeCursor (s : State) (w : Word) : Nat × State :=
  if fld w 17 2 = 3 ∨ areaLen (fld w 17 2) ≤ fld w 0 17 then (1, s) else (0, s.setRf Reg.REC_CURSOR 0 20 (fld w 0 20))

/-! ### Clearing (R335 to R337) -/

/-- The bytes of `n` word registers from `a` up. -/
def State.regBytes (s : State) (a n : Nat) : List Byte := (List.range n).flatMap fun k => leBytes 4 (s.reg (a + 4 * k)).toNat

/-- CHAL: a fresh nonce, valid for CHAL_LIFE; only while the clear key is set, and BUSY in the 60 s after 8 denials. Answers the status. -/
def State.recChal (s : State) : Nat × State :=
  if s.bit Reg.REC_CKEY_CTL 1 = false then (1, s)
  else if s.clk.now < s.rcd.lockUntil then (2, s)
  else
    let nonce := (List.range 16).map fun k => Config.nonceByte s.rcd.chalNo k
    let s1 := (List.range 4).foldl (fun x k => x.setReg (Reg.REC_CHALLENGE + 4 * k) (w32 (leAt nonce (4 * k) 4))) s
    let s2 := s1.setBit Reg.REC_CLEAR 2 true
    (0, { s2 with rcd := { s2.rcd with challenge := some nonce, chalTick := s2.clk.now, chalNo := s2.rcd.chalNo + 1 } })

/-- The challenge is no longer valid. -/
def State.dropChal (s : State) : State :=
  { ((s.setBit Reg.REC_CLEAR 2 false).clearRegs Reg.REC_CHALLENGE 4) with rcd := { s.rcd with challenge := none } }

/-- The 16 octets that answer a nonce (R336 step 2). -/
def State.response (s : State) (nonce : List Byte) : List Byte :=
  (hmacSha256 (s.rcd.key.getD []) (nonce ++ (List.range 6).map Config.macOctet ++ leBytes 4 (s.reg Reg.REC_WRAP).toNat ++ ascii "RECCLR")).take 16

/-- Whether a CLEAR is not performed (R336 step 3). -/
def State.clearRefused (s : State) : Bool :=
  s.rcd.challenge.isNone || (s.sys.dev != .ready && s.sys.dev != .safe) || !s.bit Reg.REC_CKEY_CTL 1 || s.rcd.clrPend || s.rcd.frozenAt.isSome || s.bit Reg.REC_STAT 2

/-- CLEAR: compare the response and start the erase, or deny it (R336 steps 3 and 4). Answers the status. -/
def State.recClear (s : State) : Nat × State :=
  match s.rcd.challenge with
  | none => (1, s)
  | some nonce =>
    if s.clearRefused then (1, s)
    else
      let s1 := s.dropChal
      if s.regBytes Reg.REC_AUTH 4 = s.response nonce then
        let s2 := { s1.setBit Reg.REC_STAT 1 true with rcd := { s1.rcd with denials := 0, clrPend := true, clrBoot := false, clrTick := s.clk.now, erasePos := 0, lastRec := none, clrWrap := (s.reg Reg.REC_WRAP).toNat, clrPos := s.rf Reg.REC_POS 0 16 } }
        (0, ((s2.setReg Reg.REC_POS 0).setReg Reg.REC_WRAP (s2.reg Reg.REC_WRAP + 1)).persist false)
      else
        let n := s1.rcd.denials + 1
        (1, ({ s1 with rcd := { s1.rcd with denials := n, lockUntil := if 8 ≤ n then s1.clk.now + msTicks 60000 else s1.rcd.lockUntil } }).raise 0x0F07 (by1 (sat 255 n)))

/-- Write the empty pattern into the good circulating slots `lo … hi − 1`; those that fail are marked bad (R336 step 4). -/
def State.eraseSlots (s : State) (f : KenFault) (lo hi : Nat) : State :=
  let keep (c : Host.Cell) : Bool := decide (c.1 < 0x10000 + 32 * lo) || decide (0x10000 + 32 * hi ≤ c.1) || s.badSlot (c.1 / 32)
  let s1 := { s with kennel := s.kennel.filter keep }
  (f.slots.filter fun i => decide (2048 + lo ≤ i) && decide (i < 2048 + hi) && !s.badSlot i).foldl (fun x i => x.markBad f i) s1

/-- The REC_CLEARED record of a host's clear, first after it (R336 step 5). -/
def State.clearedRecord (s : State) (f : KenFault) (erased : Nat) : State :=
  let r := s.ownEvent 0x0F06 (leBytes 4 s.rcd.clrWrap ++ leBytes 2 s.rcd.clrPos ++ by1 (sat 255 (erased / 256)))
  r.2.append f r.1

/-- REC_CLEARED: the erase of the circulating area completes; after a host's clear its record is written, after an interrupted one it is not repeated (R336, R337). -/
def State.recCleared (s0 : State) (f : KenFault) : State :=
  let s := s0.recorderStart
  if s.rcd.clrPend then
    let lo := if s.rcd.clrBoot then max s.rcd.erasePos (s.rf Reg.REC_POS 0 16) else s.rcd.erasePos
    let failed := f.slots.filter fun i => decide (2048 + lo ≤ i) && !s.badSlot i
    let boot := s.rcd.clrBoot
    let s1 := s.eraseSlots f lo 65536
    let s2 : State := { s1.setBit Reg.REC_STAT 1 false with rcd := { s1.rcd with clrPend := false, clrBoot := false, erasePos := 0 } }
    let s3 := if s2.mediumCause ≠ 0 then s2.mediumFail s2.mediumCause none else s2
    let f1 := { f with slots := f.slots.filter fun i => decide (i < 2048) }
    let s4 := if boot then s3.persist f.pos else s3.clearedRecord f1 (65536 - s3.badCount 256)
    s4.slotBadEvent 1 (failed.headD 2048 - 2048) failed.length
  else s

/-- A power failure stops an erase: REC_CLEARED tells how far it came (R337). -/
def State.stopErase (s : State) (f : KenFault) (erased : Nat) : State :=
  if s.rcd.clrPend && !s.rcd.clrBoot then
    let n := min 65536 (max s.rcd.erasePos erased)
    let s1 := s.eraseSlots { f with slots := [] } s.rcd.erasePos n
    ({ s1 with rcd := { s1.rcd with clrBoot := true, erasePos := n } }).clearedRecord f n
  else s

/-- PROG of the clear key store (R335): only in READY and only while SET is 0. Answers the status. -/
def State.ckeyProg (s : State) : Nat × State :=
  if s.sys.dev ≠ .ready ∨ s.bit Reg.REC_CKEY_CTL 1 ∨ s.rcd.keyProg then (1, s)
  else (0, { (s.clearRegs Reg.REC_CKEY 8) with rcd := { s.rcd with key := some (s.regBytes Reg.REC_CKEY 8), keyProg := true, keyTick := s.clk.now } })

/-- REC_KEY_SET: the clear key store is programmed (R335). -/
def State.recKeySet (s : State) : State :=
  if s.rcd.keyProg then
    let s1 := ({ s with rcd := { s.rcd with keyProg := false } }).setBit Reg.REC_CKEY_CTL 1 true
    (s1.setReg Reg.REC_CKEY_CHK (w32 (leAt (hmacSha256 (s1.rcd.key.getD []) (ascii "MN96CLR")) 0 4))).raise 0x0F0A (by4 (s1.reg Reg.REC_CKEY_ID).toNat)
  else s

/-- CHAL_EXPIRE (R336): CHAL_LIFE after the challenge. -/
def State.chalExpire (s : State) : State :=
  match s.rcd.challenge with
  | none => s
  | some _ => (s.reachTick (s.rcd.chalTick + s.chalLife)).dropChal

/-- CHAL_LOCKOUT_END (R336): the refusal of CHAL ends. -/
def State.lockoutEnd (s : State) : State :=
  if s.rcd.lockUntil = 0 then s
  else
    let s1 := s.reachTick s.rcd.lockUntil
    { s1 with rcd := { s1.rcd with lockUntil := 0 } }

/-- Clear the recorder's counters (REC_CTL.CCLR). -/
def State.recCounters (s : State) : State := s.clearRegs Reg.REC_LOST_CNT 3

/-! ### Meanings -/

/-- RECORD_WRITE (R325): within the 50 µs of 01 R20. -/
def execRecordWrite (dt : Nat) (f : KenFault) : State → Out := act (min dt (usTicks 50)) fun s => s.recordWrite f

/-- LOG_MEDIUM_FAILED (R338). -/
def execLogMediumFailed (dt : Nat) (maps : Bool) : State → Out := act dt fun s => s.mediumFailed (if maps then 2 else 1)

/-- REC_LOST (R328). -/
def execRecLost : State → Out := actNow State.queueLost

/-- OPSEC_TICK (R330). -/
def execOpsecTick : State → Out := actNow State.opsecTick

/-- POSITION_PERSIST (R332). -/
def execPositionPersist (fail : Bool) : State → Out := actNow fun s => s.posPersist fail

/-- REC_FREEZE (R329). -/
def execRecFreeze : State → Out := actNow fun s => s.freeze.2

/-- REC_THAW (R329). -/
def execRecThaw : State → Out := actNow fun s => s.thaw 0

/-- FREEZE_EXPIRE (R329). -/
def execFreezeExpire : State → Out := actNow State.freezeExpire

/-- REC_DATA_READ (R334): a read of REC_DATAk. -/
def execRecDataRead (k : Fin 8) : State → Out := actNow fun s => (s.readRecData k).2.answer 0 1 [(s.readRecData k).1]

/-- REC_CHAL (R336). -/
def execRecChal : State → Out := actNow fun s => s.recChal.2

/-- CHAL_EXPIRE (R336). -/
def execChalExpire : State → Out := actNow State.chalExpire

/-- CHAL_LOCKOUT_END (R336). -/
def execChalLockoutEnd : State → Out := actNow State.lockoutEnd

/-- REC_CLEAR (R336). -/
def execRecClear : State → Out := actNow fun s => s.recClear.2

/-- The ticks until the erase completes: within 300 ms of its start (R336). -/
def State.eraseWait (s : State) (dt : Nat) : Nat := if s.rcd.clrPend then min dt (s.rcd.clrTick + msTicks 300 - s.clk.now) else dt

/-- The ticks until the clear key store is programmed: within 50 ms (R335). -/
def State.keyWait (s : State) (dt : Nat) : Nat := if s.rcd.keyProg then min dt (s.rcd.keyTick + msTicks 50 - s.clk.now) else dt

/-- REC_CLEARED (R336). -/
def execRecCleared (dt : Nat) (f : KenFault) : State → Out := fun s => act (s.eraseWait dt) (fun x => x.recCleared f) s

/-- CKEY_PROG (R335). -/
def execCkeyProg : State → Out := actNow fun s => s.ckeyProg.2

/-- REC_KEY_SET (R335). -/
def execRecKeySet (dt : Nat) : State → Out := fun s => act (s.keyWait dt) State.recKeySet s

/-- REC_CCLR (R328). -/
def execRecCclr : State → Out := actNow State.recCounters

end Sys2Proof.Machine
end

