-- ==== Sys2Proof/Machine/Ring.lean ====
section
/-! DEFINITION. The ring link (10): ports, egress queues, HSR, the IPv4 stack, event frames, release. -/

namespace Sys2Proof.Machine

/-! ### The NETC section (R213) and addresses (R197) -/

/-- A field of NETC, or its value without image. -/
def State.netc (s : State) (o len dflt : Nat) : Nat := if s.hasSect 14 then s.sx 14 o len else dflt

/-- Queue of a PCP: PCP_MAP, 0xFA50 without image. -/
def State.pcpQueue (s : State) (p : Nat) : Nat := s.netc 10 2 0xFA50 / 4 ^ (p % 8) % 4

/-- The module's MAC address as a number in transmission order (R197). -/
def macNum : Nat := beNat ((List.range 6).map Config.macOctet)

/-- An IPv4 address as a number in transmission order from the register's form (first octet in bits [7:0]). -/
def ipNum (w : Word) : Nat := beNat (leBytes 4 w.toNat)

/-- The register's form of an IPv4 address given as a number. -/
def ipWord (n : Nat) : Word := w32 (leNat (leBytes 4 n).reverse)

/-- IP_BASE as a number; 192.168.96.100 without image. -/
def State.ipBase (s : State) : Nat := if s.hasSect 14 then beNat (((s.sect 14).drop 4).take 4) else 0xC0A86064

/-- The subnet broadcast address as a number. -/
def State.ipBcast (s : State) : Nat :=
  let h := 2 ^ (32 - s.netc 8 1 24)
  ipNum (s.reg Reg.NET_IPV4) / h * h + (h - 1)

/-- The largest UDP payload (R196). -/
def State.maxUdp (s : State) : Nat := if s.bit Reg.NET_STAT 6 then 8972 else 1472

/-! ### Ports and queues (R189, R195) -/

/-- A port: 0 PA, 1 PB. -/
def State.port (s : State) (p : Nat) : Port := if p = 0 then s.net.pa else s.net.pb

/-- Replace a port and show its link and mode in NET_STAT. -/
def State.setPort (s : State) (p : Nat) (x : Port) : State :=
  let s1 := if p = 0 then { s with net := { s.net with pa := x } } else { s with net := { s.net with pb := x } }
  (s1.setBit Reg.NET_STAT (p % 2) x.up).setRf Reg.NET_STAT (2 + 2 * (p % 2)) 2 x.mode

/-- Address of a port's first counter. -/
def portCnt (p : Nat) : Nat := if p = 0 then Reg.NET_PA_RX else Reg.NET_PB_RX

/-- Whether a port takes part: link up and transmitter on. -/
def State.portOn (s : State) (p : Nat) : Bool := (s.port p).up && s.sys.ethOn

/-- Size of an egress queue in bytes. -/
def queueSize (q : Nat) : Nat := match q with
  | 0 => 262144
  | 1 => 524288
  | 2 => 655360
  | _ => 65536

/-- Whether a port takes a frame of a length into an egress queue: it takes part, and the queue has room (R189, R195). -/
def State.hasRoom (s : State) (p q len : Nat) : Bool := s.portOn p && decide ((((s.port p).queues.getD q []).map (·.len)).sum + len ≤ queueSize q)

/-- Put a frame into an egress queue, or drop and count it; a full queue opens a NET_QDROP episode (R189, R195). -/
def State.enqueue (s : State) (p q : Nat) (f : QFrame) : State :=
  let x := s.port p
  if s.hasRoom p q f.len then s.setPort p { x with queues := x.queues.set q (x.queues.getD q [] ++ [f]) }
  else if s.portOn p = false then s.count (portCnt p + 0x18 + 4 * q)
  else (s.count (portCnt p + 0x18 + 4 * q)).episode 0x0803 (4 * p + q) (by1 p ++ by1 q)

/-- Queue a frame that the module originates; one that finds no queue is not counted as originated (R189, R195). -/
def State.sendOn (s : State) (p q : Nat) (f : QFrame) : State :=
  if s.hasRoom p q f.len then (s.enqueue p q f).count (portCnt p + 0x0C) else s.enqueue p q f

/-- The next HSR sequence number (R191). -/
def State.nextSeq (s : State) : State := { s with net := { s.net with hsrSeq := (s.net.hsrSeq + 1) % 65536 } }

/-- VID of originated frames (R195, R213). -/
def State.vid (s : State) : Nat := s.netc 14 2 0

/-- What of a frame does not depend on the port it leaves on: kind, destination address, EtherType, IPv4 destination with its ports, length without tags, and octets. -/
structure Outgoing where
  kind : FrameKind
  dst : Nat
  etype : Nat
  dest : Option (Word × Nat × Nat)
  len : Nat
  bytes : List Byte

/-- A frame the module originates, as it leaves on a port: its 802.1Q tag has VID and the PCP given; its HSR tag has the port's path identifier and the LSDU size, which counts the octets behind the tag's EtherType (R191, R195; assumption 37). -/
def State.outFrame (s : State) (o : Outgoing) (pcp seq p : Nat) : QFrame :=
  let n := max 64 o.len
  { kind := o.kind, dst := o.dst, src := macNum, etype := o.etype, vlan := some (pcp % 8, s.vid), tag := some (p, (n - 12) % 4096, seq)
    dest := o.dest, len := n + 10, bad := false, ingress := none, bytes := o.bytes }

/-- Send a frame the module originates once on each of `ports` with one sequence number, in the queue of its PCP (R191, R195). -/
def State.originateOn (s : State) (ports : List Nat) (pcp : Nat) (o : Outgoing) : State :=
  ports.foldl (fun x p => x.sendOn p (x.pcpQueue pcp) (s.outFrame o pcp s.net.hsrSeq p)) s.nextSeq

/-- Originate on both ports (R191). -/
def State.originate (s : State) (pcp : Nat) (o : Outgoing) : State := s.originateOn [0, 1] pcp o

/-- A UDP datagram: 28 octets of IPv4 and UDP header, 18 of Ethernet (R210). -/
def datagram (kind : FrameKind) (mac : Nat) (ip : Word) (sport dport : Nat) (payload : List Byte) : Outgoing :=
  { kind := kind, dst := mac, etype := 0x0800, dest := some (ip, sport, dport), len := 46 + payload.length, bytes := payload }

/-- PCP of responses. -/
def State.pcpResp (s : State) : Nat := s.netc 13 1 3

/-- Discard what is queued on a port, counted as queue drops (R189). -/
def State.dropQueues (s : State) (p : Nat) : State :=
  let x := s.port p
  let s1 := (List.range 4).foldl (fun y q => (x.queues.getD q []).foldl (fun z _ => z.count (portCnt p + 0x18 + 4 * q)) y) s
  s1.setPort p { x with queues := [[], [], [], []] }

/-- NET_LINK of a port. -/
def State.linkEvent (s : State) (p : Nat) : State := s.raise 0x0801 (by1 p ++ by1 (b2n (s.port p).up) ++ by1 (s.port p).mode)

/-- LINK_UP: synchronisation has been held for 10 ms and negotiation is complete; SGMII accepts 1,000 Mbit/s only (R188, R189). -/
def State.linkUp (s : State) (p speed : Nat) : State :=
  let x := s.port p
  if s.sys.ethOn = false ∨ x.up ∨ x.mode = 0 ∨ (x.mode = 3 ∧ speed ≠ 1000) then s
  else (s.setPort p { x with up := true }).linkEvent p

/-- LINK_DOWN: synchronisation or in-band status lost for 10 µs (R189). -/
def State.linkDown (s : State) (p : Nat) : State :=
  if (s.port p).up then
    let s1 := s.dropQueues p
    (s1.setPort p { s1.port p with up := false }).linkEvent p
  else s

/-- MODE_ALTERNATE: without an image a port tries the other of 2500BASE-X and 1000BASE-X after 100 ms (R190). -/
def State.modeAlternate (s : State) (p : Nat) : State :=
  let x := s.port p
  if s.sys.ethOn = false ∨ x.up ∨ x.cfg ≠ 0 then s
  else
    let s1 := s.reachTick (x.altTick + msTicks 100)
    s1.setPort p { x with mode := if x.mode = 1 then 2 else 1, altTick := s1.clk.now }

/-! ### HSR (R192, R193) -/

/-- Whether a frame has been sent on a port already (R192). -/
def State.sentAlready (s : State) (p src seq : Nat) : Bool := s.net.sentOn.contains (p, src, seq)

/-- Note a frame sent on a port; the latest 2,048 are kept. -/
def State.noteSent (s : State) (p src seq : Nat) : State := { s with net := { s.net with sentOn := ((p, src, seq) :: s.net.sentOn).take 2048 } }

/-- Whether a number lies within the 1,024 at or below the highest delivered (R193). -/
def inWindow (high seq : Nat) : Bool := decide ((high + 65536 - seq % 65536) % 65536 < 1024)

/-- The entry of a source in the node table. -/
def State.node (s : State) (mac : Nat) : Option NodeEntry := s.net.nodes.find? (·.mac == mac)

/-- Whether a copy is a duplicate (R193). -/
def State.isDup (s : State) (mac seq : Nat) : Bool :=
  match s.node mac with
  | some e => inWindow e.high seq && e.seen.contains seq
  | none => false

/-- An entry after a delivery: a number up to half the numbers ahead of the highest becomes the highest; one behind the window leaves it (DEDUCED, assumption 37). -/
def NodeEntry.took (e : NodeEntry) (now seq : Nat) : NodeEntry :=
  if inWindow e.high seq then { e with used := now, seen := seq :: e.seen }
  else if (seq % 65536 + 65536 - e.high) % 65536 < 32768 then { e with used := now, high := seq, seen := seq :: e.seen.filter (inWindow seq) }
  else { e with used := now }

/-- The entry unused for longest. -/
def oldestNode : List NodeEntry → Option NodeEntry
  | [] => none
  | e :: es =>
    match oldestNode es with
    | some f => if f.used < e.used then some f else some e
    | none => some e

/-- Note a delivery in the node table of 256 (R193). -/
def State.noteDelivered (s : State) (mac seq : Nat) : State :=
  match s.node mac with
  | some e => { s with net := { s.net with nodes := s.net.nodes.map fun x => if x.mac = mac then e.took s.clk.now seq else x } }
  | none =>
    let n : NodeEntry := { mac := mac, used := s.clk.now, high := seq, seen := [seq] }
    if s.net.nodes.length < 256 then { s with net := { s.net with nodes := s.net.nodes ++ [n] } }
    else
      let old := (oldestNode s.net.nodes).map (·.mac)
      let s1 := s.count (Reg.NET_DUP_CNT + 4)
      { s1 with net := { s1.net with nodes := (s1.net.nodes.filter fun x => some x.mac != old) ++ [n] } }

/-- NODE_TABLE_AGE: the entry unused for longest is removed at 60 s (R193). -/
def State.nodeAge (s : State) : State :=
  match oldestNode s.net.nodes with
  | none => s
  | some e =>
    let s1 := s.reachTick (e.used + msTicks 60000)
    { s1 with net := { s1.net with nodes := s1.net.nodes.filter fun x => x.mac != e.mac } }

/-! ### The IPv4 stack (R198, R199) -/

/-- One's complement sum of 16-bit words in transmission order, folded. -/
def onesSum (bs : List Byte) : Nat :=
  let rec go : List Byte → Nat
    | [] => 0
    | [a] => 256 * a.toNat
    | a :: b :: r => 256 * a.toNat + b.toNat + go r
  let n := go bs
  let m := n % 65536 + n / 65536
  (m % 65536 + m / 65536) % 65536

/-- A number in transmission order at an offset. -/
def beAt (bs : List Byte) (o len : Nat) : Nat := beNat ((bs.drop o).take len)

/-- Whether an IPv4 packet is unfragmented, without options, and its header checksum correct. -/
def ipv4Ok (b : List Byte) : Bool :=
  decide (20 ≤ b.length) && beAt b 0 1 == 0x45 && beAt b 6 2 % 0x4000 == 0 && onesSum (b.take 20) == 0xFFFF
    && decide (20 ≤ beAt b 2 2) && decide (beAt b 2 2 ≤ b.length)

/-- Whether the UDP checksum of a packet is 0 or right. -/
def udpOk (b : List Byte) : Bool :=
  let d := (b.drop 20).take (beAt b 2 2 - 20)
  decide (8 ≤ d.length) && beAt d 4 2 == d.length
    && (beAt d 6 2 == 0 || onesSum ((b.drop 12).take 8 ++ leBytes 1 0 ++ leBytes 1 17 ++ (leBytes 2 d.length).reverse ++ d) == 0xFFFF)

/-- Offer something to its block, on this tick. -/
def State.offer (s : State) (d : Delivered) : State := { s with net := { s.net with rxq := s.net.rxq ++ [(s.clk.now, d)] } }

/-- An ARP frame from another MAC that claims the module's address (R199). -/
def State.dupAddr (s : State) (sha : Nat) (spa : Word) : State :=
  if sha ≠ macNum ∧ spa = s.reg Reg.NET_IPV4 ∧ s.reg Reg.NET_IPV4 ≠ 0 then
    (s.setBit Reg.NET_STAT 7 true).raise 0x0802 (leBytes 6 sha).reverse
  else s

/-- An IPv4 packet reaches the stack (R198). -/
def State.ipv4In (s : State) (src : Nat) (b : List Byte) : State :=
  if ipv4Ok b = false then s.count (Reg.NET_DUP_CNT + 0x0C)
  else
    let dst := beAt b 16 4
    let own := decide (ipWord dst = s.reg Reg.NET_IPV4)
    let from_ := ipWord (beAt b 12 4)
    let data := (b.drop 20).take (beAt b 2 2 - 20)
    if beAt b 9 1 = 17 then
      if udpOk b = false then s.count (Reg.NET_DUP_CNT + 0x0C)
      else
        let port := beAt data 2 2
        if port = 50960 ∧ (own = true ∨ dst = s.ipBcast) then s.offer (.shamel ⟨from_, src⟩ (beAt data 0 2) (data.drop 8))
        else if port = 50961 ∧ own = true then s.offer (.command (data.drop 8))
        else s
    else if beAt b 9 1 = 1 ∧ own = true ∧ beAt data 0 1 = 8 then s.offer (.icmp src from_ data)
    else s

/-- A frame is delivered locally, complete and with a correct check sequence (R180, R193, R198). -/
def State.deliverFrame (s : State) (f : RxFrame) : State :=
  if f.etype = 0x0806 then
    s.offer (.arp ⟨f.src, beAt f.payload 8 6⟩ (ipWord (beAt f.payload 14 4)) (ipWord (beAt f.payload 24 4)) (beAt f.payload 6 2 == 1))
  else if f.etype = 0x0800 then s.ipv4In f.src f.payload
  else s

/-- Domain 0 A or 1 B of a PTP domain number; none without TIMC (09 R176, R186). -/
def State.ptpDom (s : State) (n : Nat) : Option Nat :=
  if s.hasSect 13 = false then none
  else if n = s.sx 13 0 1 then some 0
  else if n = s.sx 13 1 1 ∧ s.sx 13 1 1 ≠ 0xFF then some 1 else none

/-! ### Originated frames (R191, R197, R198) -/

/-- A number as octets in transmission order. -/
def beBytes (n x : Nat) : List Byte := (leBytes n x).reverse

/-- The octets of a supervision frame behind its EtherType: path and version, sequence number, the life check of a DANH with the source address, end of list (R191; assumption 37). -/
def State.supBytes (s : State) : List Byte := beBytes 2 1 ++ beBytes 2 s.net.supSeq ++ by1 23 ++ by1 6 ++ beBytes 6 macNum ++ by1 0 ++ by1 0

/-- SUPERVISION_SEND: every 2.0 s to 01-15-4E-00-01-00 (R191). No rule gives its PCP; it takes DEF_PCP (DESIGN CHOICE, assumption 37). -/
def State.supervision (s : State) : State :=
  let s1 := s.reachTick (s.net.supTick + msTicks 2000)
  ({ s1 with net := { s1.net with supTick := s1.clk.now, supSeq := (s1.net.supSeq + 1) % 65536 } }).originate (s.netc 9 1 0)
    { kind := .supervision, dst := 0x01154E000100, etype := 0x88FB, dest := none, len := 64, bytes := s1.supBytes }

/-- The octets of an ARP frame: operation, own addresses, target addresses. -/
def State.arpBytes (s : State) (op tha : Nat) (tpa : Word) : List Byte :=
  beBytes 2 1 ++ beBytes 2 0x0800 ++ by1 6 ++ by1 4 ++ beBytes 2 op ++ beBytes 6 macNum
    ++ leBytes 4 (s.reg Reg.NET_IPV4).toNat ++ beBytes 6 tha ++ leBytes 4 tpa.toNat

/-- An ARP frame the module sends to a MAC address. -/
def State.arpFrame (s : State) (mac op tha : Nat) (tpa : Word) : Outgoing :=
  { kind := .arp, dst := mac, etype := 0x0806, dest := none, len := 64, bytes := s.arpBytes op tha tpa }

/-- The broadcast address. -/
def macBcast : Nat := 0xFFFFFFFFFFFF

/-- A gratuitous ARP on each port that is up (R197). -/
def State.garp (s : State) : State :=
  s.originateOn ((List.range 2).filter s.portOn) s.pcpResp (s.arpFrame macBcast 1 0 (s.reg Reg.NET_IPV4))

/-- ARP_REQUEST: an ARP frame is answered where it asks for the module's address, to the source address of the frame (R198), and watched for a claim on it (R199). -/
def State.arpIn (s0 : State) (a : ArpSender) (spa tpa : Word) (request : Bool) : State :=
  let s := (s0.takeOffer (.arp a spa tpa request)).dupAddr a.sha spa
  if request && decide (tpa = s.reg Reg.NET_IPV4) then
    (s.count (Reg.NET_DUP_CNT + 0x10)).originate s.pcpResp (s.arpFrame a.mac 2 a.sha spa)
  else s

/-- ICMP_ECHO: an echo request to the module's address is answered, with payloads up to the MTU, to the source address of the frame (R198). The reply's octets are the request's with type 0 and a new checksum. -/
def State.icmpIn (s0 : State) (mac : Nat) (ip : Word) (data : List Byte) : State :=
  let s := s0.takeOffer (.icmp mac ip data)
  if 20 + data.length ≤ s.maxUdp + 28 then
    let body := leBytes 4 0 ++ data.drop 4
    let rep := leBytes 2 0 ++ beBytes 2 (0xFFFF - onesSum body) ++ data.drop 4
    (s.count (Reg.NET_DUP_CNT + 0x14)).originate s.pcpResp
      { kind := .icmp, dst := mac, etype := 0x0800, dest := some (ip, 0, 0), len := 38 + data.length, bytes := rep }
  else s

/-! ### Event frames (R208, R209) -/

/-- The payload of an event frame with these entries. -/
def State.eventPayload (s : State) (es : List Event) : List Byte :=
  let first := match es with
    | e :: _ => e.eseq
    | [] => s.net.eseq
  let h := leBytes 2 0x454D ++ by1 1 ++ by1 (s.rf Reg.NET_STAT 8 6) ++ leBytes 4 s.net.fseq ++ leBytes 2 es.length ++ by1 s.sys.dev.num
    ++ by1 (b2n (s.bit Reg.SYS_STATUS 0) + 2 * b2n s.locked + 4 * b2n s.net.evOmit) ++ leBytes 4 first ++ leBytes 4 (s.ntSec % 2 ^ 32)
  let d := es.flatMap recBytes
  h ++ leBytes 4 (crc32c (h ++ d)).toNat ++ d

/-- EVT_DST as a number; 239.96.0.1 without image (R213). -/
def State.evtDst (s : State) : Nat := if s.hasSect 14 then beAt (s.sect 14) 16 4 else 0xEF600001

/-- The MAC address of a multicast or the subnet broadcast address: IPv4 multicast maps its low 23 bits (assumption 37). -/
def State.groupMac (s : State) (ip : Nat) : Nat := if ip = s.ipBcast then macBcast else 0x01005E000000 + ip % 2 ^ 23

/-- Send one event frame with the oldest entries, at most 45, from port 50962 to port 50962 at EVT_DST (R208, R209). -/
def State.sendEvents (s : State) : State :=
  let es := s.net.evq.take 45
  let b := s.eventPayload es
  let s1 := { s with net := { s.net with evq := s.net.evq.drop 45, fseq := (s.net.fseq + 1) % 2 ^ 32, evTick := s.clk.now, evOmit := false
                                         evUrgent := s.net.evUrgent && decide (45 < s.net.evq.length) } }
  (s1.count (Reg.NET_DUP_CNT + 0x30)).originate (s.netc 12 1 5) (datagram .event (s.groupMac s.evtDst) (ipWord s.evtDst) 50962 50962 b)

/-- The tick at which an event frame is due: at once with 45 entries or an urgent one, else EVT_WAIT after the oldest (R209). -/
def State.evDue (s : State) : Option Nat :=
  match s.net.evq with
  | [] => none
  | e :: _ => some (if 45 ≤ s.net.evq.length ∨ s.net.evUrgent then s.clk.now else e.tick + usTicks (s.netc 20 1 50))

/-- EVENT_FRAME: the due event frame is sent, with what has left the event bus; none before the transmitters are on (R190, R209; 01 R19). -/
def State.eventFrame (s0 : State) : State :=
  let s := s0.settle
  match s.evDue with
  | some t => if s.sys.ethOn then (s.reachTick t).sendEvents else s0
  | none => s0

/-- EVENT_HEARTBEAT: a frame with COUNT 0 when none has gone out for EVT_HB (R209). -/
def State.eventHeartbeat (s : State) : State :=
  if s.sys.ethOn && s.net.evq.isEmpty then (s.reachTick (s.net.evTick + msTicks (s.netc 22 2 1000))).sendEvents else s

/-- Send every waiting event. -/
def State.sendAllEvents (s : State) : Nat → State
  | 0 => s
  | n + 1 => if s.net.evq.isEmpty then s else s.sendEvents.sendAllEvents n

/-- NET_RELEASE after the last gasp (R212). -/
def State.netRelease (s : State) : State :=
  ({ (s.setBit Reg.PWR_STAT 5 false) with sys := { s.sys with released := some s.clk.now } }).raise 0x0806

/-! ### Loads (R190, R197, R209) -/

/-- A port takes the mode of a load, restarting its link where the mode changes (R190). -/
def State.portLoad (s : State) (p : Nat) : State :=
  let m := s.netc p 1 0
  let x := s.port p
  if s.sys.ethOn ∧ x.cfg = m ∧ x.mode ≠ 0 then s
  else
    let s1 := s.linkDown p
    s1.setPort p { s1.port p with cfg := m, mode := if m = 0 then 1 else m, altTick := s1.clk.now }

/-- The end of a load: transmitters on from the first one, port modes, node number and address, gratuitous ARP (R190, R197). -/
def State.netLoad (s : State) : State :=
  let s1 := { (s.portLoad 0).portLoad 1 with sys := { s.sys with ethOn := true } }
  let ovr := s1.netc 3 1 0xFF
  let node := if ovr = 0xFF then s1.sys.strap else ovr
  let s2 := ((s1.setBit Reg.NET_STAT 6 ((s1.netc 2 1 0).testBit 0)).setRf Reg.NET_STAT 8 6 node).setBit Reg.NET_STAT 14 (ovr != 0xFF)
  let macs := leNat (beBytes 6 macNum)
  let s3 := (((s2.setReg Reg.NET_IPV4 (ipWord ((s2.ipBase + node) % 2 ^ 32))).setReg Reg.NET_MAC_LO (w32 macs)).setReg Reg.NET_MAC_HI (w32 (macs / 2 ^ 32))).garp
  if s.sys.ethOn then s3 else { s3 with net := { s3.net with evUrgent := !s3.net.evq.isEmpty, evTick := s3.clk.now, supTick := s3.clk.now } }

/-- Clear every NET counter (NET_CTL.CCLR). -/
def State.netClear (s : State) : State := ((s.clearRegs Reg.NET_PA_RX 10).clearRegs Reg.NET_PB_RX 10).clearRegs Reg.NET_DUP_CNT 14

/-! ### Meanings -/

/-- LINK_UP (R189). -/
def execLinkUp (dt : Nat) (p : Fin 2) (speed : Nat) : State → Out := act dt fun s => s.linkUp p speed

/-- LINK_DOWN (R189). -/
def execLinkDown (dt : Nat) (p : Fin 2) : State → Out := act dt fun s => s.linkDown p

/-- MODE_ALTERNATE (R190). -/
def execModeAlternate (p : Fin 2) : State → Out := actNow fun s => s.modeAlternate p

/-- SUPERVISION_SEND (R191). -/
def execSupervisionSend : State → Out := actNow State.supervision

/-- NODE_TABLE_AGE (R193). -/
def execNodeTableAge : State → Out := actNow State.nodeAge

/-- ARP_REQUEST (R198). -/
def execArpRequest (dt : Nat) (from_ : ArpSender) (spa tpa : Word) (request : Bool) : State → Out := act dt fun s => s.arpIn from_ spa tpa request

/-- ICMP_ECHO (R198). -/
def execIcmpEcho (dt : Nat) (mac : Nat) (ip : Word) (data : List Byte) : State → Out := act dt fun s => s.icmpIn mac ip data

/-- EVENT_FRAME (R209). -/
def execEventFrame : State → Out := actNow State.eventFrame

/-- EVENT_HEARTBEAT (R209). -/
def execEventHeartbeat : State → Out := actNow State.eventHeartbeat

/-- NET_GARP (R197). -/
def execNetGarp : State → Out := actNow State.garp

/-- NET_CCLR (R195). -/
def execNetCclr : State → Out := actNow State.netClear

end Sys2Proof.Machine
end

