-- ==== Sys2Proof/Machine/Transit.lean ====
section
/-! DEFINITION. Transit: takes, requests, the calendar, freeze and close points, arbitration, cancels (05). -/

namespace Sys2Proof.Machine

/-! ### Planning flags (07 R152) -/

/-- Set a bit of a flag word. -/
def orBit (f i : Nat) : Nat := if f.testBit i then f else f + 2 ^ i

/-- Set a bit of a flag word when a condition holds. -/
def orIf (f i : Nat) (b : Bool) : Nat := if b then orBit f i else f

/-- Bit numbers of PFLAGS: LATE, COAL, TRUNC, DEFER, WAIT, FALLBACK, SUBST, CNCL, NOVALVE, NOLOCK, LATE_HO, DRY. -/
abbrev pLATE : Nat := 0
/-- COAL -/
abbrev pCOAL : Nat := 1
/-- TRUNC -/
abbrev pTRUNC : Nat := 2
/-- DEFER -/
abbrev pDEFER : Nat := 3
/-- WAIT -/
abbrev pWAIT : Nat := 4
/-- FALLBACK -/
abbrev pFALLBACK : Nat := 5
/-- SUBST -/
abbrev pSUBST : Nat := 6
/-- CNCL -/
abbrev pCNCL : Nat := 7
/-- NOVALVE -/
abbrev pNOVALVE : Nat := 8
/-- NOLOCK -/
abbrev pNOLOCK : Nat := 9
/-- LATE_HO -/
abbrev pLATEHO : Nat := 10
/-- DRY -/
abbrev pDRY : Nat := 11

/-! ### Resolution (R90 to R92) -/

/-- Exit start of a command on a lane, without its late shift (R90). -/
def State.exitStart (s : State) (c : Cmd) (l : Nat) : Int :=
  let a := if c.kind = 1 then c.stamp + 250 * ((s.flightTime c.fmap c.vclass : Int) + s.flightCorr c.fmap l) else c.stamp
  a - 500 * s.laneAir l

/-- The exit interval [q, e) of a request as resolved now (R90); a continuation keeps its own (R98). -/
def State.interval (s : State) (r : Req) : Int × Int :=
  match r.fixed with
  | some i => i
  | none =>
    let q := s.exitStart r.cmd r.lane + r.shift
    (q, q + 5000 * r.cmd.dur)

/-- Open instant of an exit start under a delay in 0.5 µs units: the latest grid instant at or before q − d (R91). -/
def openOf (q : Int) (d : Nat) : Int := gridDown (q - 500 * d)

/-- Open instant of a request under its primary delay as held now (R92). -/
def State.reqOpen (s : State) (r : Req) : Int := openOf (s.interval r).1 (s.learnD r.valve r.prof)

/-- The request of a command on a lane (R90), with its late shift. -/
def State.mkReq (s : State) (c : Cmd) (shift l : Nat) : Req :=
  { cmd := c, lane := l, valve := s.lanePrimary l, prof := if c.profile ≠ 0 then c.profile else s.laneProf l
    shift := shift, fixed := none, subst := false }

/-- The least of a list of instants. -/
def minInt : List Int → Option Int
  | [] => none
  | x :: xs =>
    match minInt xs with
    | some y => some (min x y)
    | none => some x

/-! ### Takes (R11, R75 to R78, R93) -/

/-- Enter an accepted command into the calendar (R93). -/
def State.calInsert (s : State) (e : CalEntry) : State :=
  let s1 := { s with trn := { s.trn with cal := s.trn.cal ++ [e] } }
  let n := s1.trn.cal.length
  let s2 := s1.setRf Reg.TRN_CAL_PEAK 0 19 (max (s1.rf Reg.TRN_CAL_PEAK 0 19) n)
  if n = 262144 then s2.setBit Reg.TRN_STAT 0 true else s2

/-- Put a journal item behind those waiting (07 R150). -/
def State.jpush (s : State) (j : JItem) : State := { s with vsn := { s.vsn with jq := s.vsn.jq ++ [j] } }

/-- CMD_MIN_LEAD in ns. -/
def State.minLead (s : State) : Int := 1000 * s.rf Reg.CMD_MIN_LEAD 0 10

/-- CMD_LATE_TOL in ns. -/
def State.lateTol (s : State) : Int := 1000 * s.rf Reg.CMD_LATE_TOL 0 9

/-- Earliest planned open instant of a command at its arrival (R75). -/
def State.earliestOpen (s : State) (c : Cmd) : Int :=
  if 2 ≤ c.kind then c.stamp
  else (minInt (c.lanes.map fun l => s.reqOpen (s.mkReq c 0 l))).getD c.stamp

/-- A command arrives: late handling, horizon, calendar, and its requests (R76, R77, R78, R90, R73). -/
def State.arrive (s : State) (c : Cmd) : State :=
  let t := s.ntGrid
  let o := s.earliestOpen c
  let late : Int := t + s.minLead - o
  if (c.kind ≤ 1 ∧ s.lateTol < late) ∨ (c.kind = 2 ∧ 0 < late) then s.refuseCmd 12 c
  else if 2000000000 < o - t then s.refuseCmd 13 c
  else if 262144 ≤ s.trn.cal.length then s.refuseCmd 14 c
  else if c.kind = 3 ∧ s.ntAtLeast c.stamp then s.jpush (.marker c s.ntNs)
  else s.calInsert { cmd := c, reqs := if c.kind ≤ 1 then c.lanes.map (s.mkReq c late.toNat) else [] }

/-- The tick of the next take: at least 232 ticks after the previous one, and after the tick on which a queue that was empty took its entry (R11). -/
def State.takeTick (s : State) : Nat :=
  max (s.cmd.headTick + 1) (match s.cmd.lastTake with
    | some t => t + 232
    | none => 0)

/-- TAKE: Transit takes the oldest entry of the intake queue, which is its arrival (R11). -/
def State.take (s : State) : State :=
  match s.cmd.queue with
  | [] => s
  | c :: q =>
    let s1 := s.reachTick s.takeTick
    let s2 := { s1 with cmd := { s1.cmd with lastTake := some s1.clk.now } }
    (s2.setQueue q).arrive c

/-! ### Shots: plan quantities -/

/-- The profile bytes of the planned variant (R92, R99). -/
def Shot.planned (h : Shot) : List Byte := if h.decision = .fallback then h.fb else h.own

/-- Profile number of the planned variant. -/
def Shot.plannedNo (h : Shot) : Nat := if h.decision = .fallback then pFallback h.own else h.req.prof

/-- The planned open instant: the shift of 06 R134 moves the opening, not the plan. -/
def Shot.planAt (h : Shot) : Int := h.openAt - h.pendSh

/-- The release start: planned open instant plus duration (R91; 06 R134), or where it was cut short. -/
def Shot.relInst (h : Shot) : Int := h.relAt.getD (h.planAt + (h.e - h.q))

/-- The ready instant after a shot: release start + T_REL_MAX + MIN_OFF of its planned variant (R99). -/
def Shot.readyInst (h : Shot) : Int := h.planAt + (h.e - h.q) + 1000 * (pTRel h.planned + pMinOff h.planned)

/-- TRN_FREEZE in ns, as it is in effect. -/
def State.freezeLead (s : State) : Int := 1000 * s.ef Reg.TRN_FREEZE 0 8

/-- The joining gap G of a profile, in ns (R95). -/
def State.gap (s : State) (p : List Byte) : Int :=
  min (1000 * (pMinGap p : Int)) (s.minLead - s.freezeLead - 10000)

/-- The close point of a shot (R94): the later of its freeze point and reference open instant + duration − TRN_FREEZE; a NOCOAL shot closes at its freeze point (R97). -/
def State.closeInst (s : State) (h : Shot) : Int :=
  if h.req.cmd.noCoal then h.openRef - s.freezeLead
  else max (h.openRef - s.freezeLead) (h.openRef + (h.e - h.q) - s.freezeLead)

/-- Replace a shot by its number. -/
def State.putShot (s : State) (h : Shot) : State :=
  { s with trn := { s.trn with shots := s.trn.shots.map fun x => if x.id = h.id then h else x } }

/-- A shot leaves Transit. -/
def State.dropShot (s : State) (id : Nat) : State := { s with trn := { s.trn with shots := s.trn.shots.filter fun x => x.id != id } }

/-- Set a valve's ready instant from a shot that counts under R99. -/
def State.setReady (s : State) (h : Shot) : State :=
  if h.decision = .inhibited then s
  else { s with trn := { s.trn with ready := storeSet (fun _ => 0) s.trn.ready h.req.valve (h.readyInst + 1) } }

/-- A valve's ready instant, if it has had a shot. -/
def State.readyOf (s : State) (v : Nat) : Option Int :=
  let r := storeGet (fun _ => 0) s.trn.ready v
  if r = 0 then none else some (r - 1)

/-- Move an instant to the first grid instant at or after a bound. -/
def notBefore (o : Int) (b : Option Int) : Int :=
  match b with
  | some t => if o < t then gridUp t else o
  | none => o

/-! ### Order of freeze and close points (R96) -/

/-- The key of R96: reference open instant, valve, NOCOAL after the others, then the tie-breaks. -/
def freezeKey (o : Int) (q : Int) (r : Req) : List Int :=
  let tail : List Int := [r.lane, r.cmd.w1.toNat, r.cmd.w2.toNat, r.cmd.source]
  if r.cmd.noCoal then [o, r.valve, 1, q, r.cmd.tag, r.prof] ++ tail else [o, r.valve, 0, r.prof, 0, 0] ++ tail

/-- Lexicographic order of keys. -/
def keyLt : List Int → List Int → Bool
  | [], _ => false
  | _ :: _, [] => false
  | a :: as, b :: bs => decide (a < b) || (decide (a = b) && keyLt as bs)

/-- The element with the least key, the first among equals. -/
def minKey {α : Type} (key : α → List Int) : List α → Option α
  | [] => none
  | x :: xs =>
    match minKey key xs with
    | some y => if keyLt (key y) (key x) then some y else some x
    | none => some x

/-- Every open request of the calendar. -/
def State.allReqs (s : State) : List Req := s.trn.cal.flatMap (·.reqs)

/-- The key of a pending request. -/
def State.reqKey (s : State) (r : Req) : List Int := freezeKey (s.reqOpen r) (s.interval r).1 r

/-- The pending request whose freeze point comes first (R94, R96). -/
def State.nextFreeze (s : State) : Option Req := minKey s.reqKey s.allReqs

/-- The tick of a shot's close point: the first at which NT is at or after it, but after a tick on which it was extended (R94, R97). -/
def State.closeDueTick (s : State) (h : Shot) : Nat := max h.closeTick (s.clk.now + s.ticksTo (s.closeInst h))

/-- The open shot whose close point comes first; on one tick, in the order of R96 applied to the requests that started the shots. -/
def State.nextClose (s : State) : Option Shot :=
  minKey (fun h => (s.closeDueTick h : Int) :: freezeKey h.openRef h.q h.req) (s.trn.shots.filter fun h => !h.closed)

/-- Take the first request equal to `r` out of a list. -/
def eraseReq : List Req → Req → List Req
  | [], _ => []
  | x :: xs, r => if x = r then xs else x :: eraseReq xs r

/-- Whether an entry is done: no request left of a timed or detected command (R93). -/
def CalEntry.done (e : CalEntry) : Bool := decide (e.cmd.kind ≤ 1) && e.reqs.isEmpty

/-- Take a request out of the first entry that holds it, and free the entry when it is its last (R93). -/
def eraseCal : List CalEntry → Req → List CalEntry
  | [], _ => []
  | e :: es, r =>
    if e.reqs.contains r then
      let e' := { e with reqs := eraseReq e.reqs r }
      if e'.done then es else e' :: es
    else e :: eraseCal es r

/-- Take a request out of the calendar. -/
def State.dropReq (s : State) (r : Req) : State := { s with trn := { s.trn with cal := eraseCal s.trn.cal r } }

/-- Replace a request in place by others (a substitution or a continuation). -/
def swapReq : List CalEntry → Req → List Req → List CalEntry
  | [], _, _ => []
  | e :: es, r, rs => if e.reqs.contains r then { e with reqs := eraseReq e.reqs r ++ rs } :: es else e :: swapReq es r rs

/-- Replace a request in the calendar. -/
def State.replaceReq (s : State) (r : Req) (rs : List Req) : State := { s with trn := { s.trn with cal := swapReq s.trn.cal r rs } }

/-! ### Cancels (R102) -/

/-- A pending cancel that makes a request void. -/
def State.cancelOf (s : State) (r : Req) : Option Cmd :=
  let o := s.reqOpen r
  (s.trn.cal.map (·.cmd)).find? fun c =>
    c.kind == 2 && c.tag == r.cmd.tag && c.lanes.contains r.lane && decide (c.stamp ≤ o) && decide (o < c.stamp + 2000000000)

/-- Void a request: it leaves the calendar, is counted, and its record carries CNCL. -/
def State.voidReq (s : State) (r : Req) : State :=
  let i := s.interval r
  ((s.dropReq r).count (Reg.TRN_JOIN_CNT + 0x14)).jpush
    (.req 2 r (2 ^ pCNCL) (s.reqOpen r) (i.2 - i.1) (s.learnD r.valve r.prof))

/-! ### Joins (R97, R98, R99) -/

/-- Whether a request may join a shot: within G of the end `e` as it stood before this point (R97), and within the limit where the shot's end has reached it by now (R98). -/
def State.mayJoin (s : State) (h : Shot) (e : Int) (r : Req) : Bool :=
  let i := s.interval r
  let limit := h.q + 1000 * (pMaxShot h.own : Nat)
  h.req.valve == r.valve && h.req.prof == r.prof && !h.req.cmd.noCoal && !r.cmd.noCoal && !h.closed
    && decide (i.1 ≤ e + s.gap h.own) && (decide (h.e < limit) || decide (i.2 ≤ limit))

/-- The open instant of a later frozen shot of the same valve, which bounds an extension (R99). -/
def State.laterOpen (s : State) (h : Shot) : Option Int :=
  minInt ((s.trn.shots.filter fun x => x.req.valve == h.req.valve && decide (h.id < x.id) && x.decision != .inhibited).map (·.planAt))

/-- The continuation of a request beyond a limit (R98). -/
def contReq (r : Req) (limit e : Int) : Req := { r with fixed := some (limit, e) }

/-- The first free capture engine. -/
def freeEngine : List (Option CapEng) → Nat → Option Nat
  | [], _ => none
  | none :: _, i => some i
  | some _ :: es, i => freeEngine es (i + 1)

/-- Allocate a capture engine to a shot, or mark CAPMISS (07 R156): a JCAP or health request (`other`) that finds none is missed, an ARM request (`arm`) stays pending. -/
def State.captureFor (s : State) (h : Shot) (arm other : Bool) : State × Shot :=
  if arm || other then
    match freeEngine s.vsn.engines 0 with
    | some i =>
      let eng : CapEng := { shot := h.id, valve := h.req.valve, dec := 2 ^ s.rf Reg.VSN_CAP_CTL 16 3, pre := s.rf Reg.VSN_CAP_CTL 20 7, openTick := none, samples := none, record := none }
      let s2 := { s with vsn := { s.vsn with engines := s.vsn.engines.set i (some eng) } }
      (if arm then s2.setBit Reg.VSN_CAP_CTL 0 false else s2, { h with capture := some i })
    | none =>
      if other then ((s.count Reg.VSN_CAP_MISS).episode 0x0606 0 (by1 h.req.valve), { h with dflags := orBit h.dflags 13 }) else (s, h)
  else (s, h)

/-- Whether a shot has been asked for a capture, by an engine it holds or a miss: each shot is captured at most once (07 R156). -/
def Shot.captureAsked (h : Shot) : Bool := h.capture.isSome || h.dflags.testBit 13

/-- JCAP on a request that joins a shot after its freeze point asks for the shot's capture too: an engine can still serve it until it opens, since the die keeps the samples before the open instant; afterwards it is missed (07 R155, R156; DESIGN CHOICE, assumption 59). -/
def State.captureJoin (s : State) (h : Shot) (r : Req) : State × Shot :=
  if r.cmd.jcap && !h.captureAsked then
    if h.phase = .frozen ∨ h.phase = .handed ∨ h.phase = .pending then s.captureFor h false true
    else ((s.count Reg.VSN_CAP_MISS).episode 0x0606 0 (by1 h.req.valve), { h with dflags := orBit h.dflags 13 })
  else (s, h)

/-- Join a request to a shot: extend its end, divide it at MAX_SHOT, keep a later frozen shot's ready instant (R97, R98, R99). A shot whose record is already written takes joins until its close point all the same, and the request's record follows by itself (R44; DESIGN CHOICE, assumption 46). -/
def State.joinReq (s : State) (h0 : Shot) (r : Req) : State :=
  match s.trn.shots.find? (fun x => x.id == h0.id) with
  | none => s
  | some h =>
    let i := s.interval r
    let limit := h.q + 1000 * (pMaxShot h.own : Nat)
    let want := max h.e i.2
    let e1 := min want limit
    let later := s.laterOpen h
    let bound := later.map fun o => o - 1000 * ((pTRel h.planned + pMinOff h.planned : Nat) : Int) - h.planAt + h.q
    let e2 := match bound with
      | some b => max h.e (min e1 b)
      | none => e1
    let cut := decide (e1 < want) || decide (e2 < e1)
    let s1 := if e1 < want then s.replaceReq r [contReq r limit i.2] else s.dropReq r
    let c := s1.captureJoin { h with e := e2, joins := h.joins ++ [r], closeTick := s.clk.now + 1
                                     pflags := orIf (orIf (orIf (orBit h.pflags pCOAL) pTRUNC (cut || r.fixed.isSome)) pLATE (r.shift != 0)) pSUBST r.subst } r
    let s2 := (c.1.putShot c.2).count Reg.TRN_JOIN_CNT
    let s3 := if later.isSome then s2 else s2.setReady c.2
    let s4 := if h.phase = .done then s3.jpush (.req 5 r 0 h.openAt (i.2 - i.1) 0) else s3
    if cut then s4.count (Reg.TRN_JOIN_CNT + 0x10) else s4

/-- Try requests in turn at a close point, each against the end as it stood before it (R97) and the limit as it stands now (R98); cancels first (R102). -/
def State.joinAll (s : State) (id : Nat) (e : Int) : List Req → State
  | [] => s
  | r :: rs =>
    match s.trn.shots.find? (fun x => x.id == id) with
    | none => s
    | some h =>
      if s.mayJoin h e r then
        if (s.cancelOf r).isSome then (s.voidReq r).joinAll id e rs else (s.joinReq h r).joinAll id e rs
      else s.joinAll id e rs

/-- Order requests by R96 (insertion). -/
def State.orderReqs (s : State) : List Req → List Req
  | [] => []
  | r :: rs => ins r (s.orderReqs rs)
where
  ins (r : Req) : List Req → List Req
    | [] => [r]
    | x :: xs => if keyLt (s.reqKey x) (s.reqKey r) then x :: ins r xs else r :: x :: xs

/-- CLOSE_POINT: requests within G join the shot due first, or its end becomes final (R94, R97). -/
def State.closePoint (s : State) : State :=
  match s.nextClose with
  | none => s
  | some h =>
    let s1 := (s.reachNt (s.closeInst h)).reachTick h.closeTick
    let s2 := s1.joinAll h.id h.e (s1.orderReqs s1.allReqs)
    match s2.trn.shots.find? (fun x => x.id == h.id) with
    | none => s2
    | some h' => if s2.trn.shots = s1.trn.shots then (if h'.phase = .done then s2.dropShot h'.id else s2.putShot { h' with closed := true }) else s2

/-! ### Substitution (R103) -/

/-- What R103 does with a request whose valve is FAILED: move it to ALT, or mark it NOVALVE. -/
def State.substitute (s : State) (r : Req) : State :=
  let alt := s.laneAlt r.lane
  let args := by1 r.lane ++ by1 (s.lanePrimary r.lane) ++ by1 alt
  if r.subst = false ∧ alt ≠ 0xFF ∧ s.failed alt = false then
    let s1 := (s.replaceReq r [{ r with valve := alt, subst := true }]).count (Reg.TRN_JOIN_CNT + 0x18)
    let told := (r.lane, s.lanePrimary r.lane)
    if s1.trn.substTold.contains told then s1
    else ({ s1 with trn := { s1.trn with substTold := s1.trn.substTold ++ [told] } }).raise 0x0302 args
  else
    let i := s.interval r
    (((((s.dropReq r).count (Reg.TRN_JOIN_CNT + 0x1C)).setBit Reg.TRN_STAT 1 true).episode 0x0301 r.lane args)).jpush
      (.req 3 r (2 ^ pNOVALVE) (s.reqOpen r) (i.2 - i.1) (s.learnD r.valve r.prof))

/-! ### The boost decision (R100, R101) -/

/-- The boost window of a shot of a profile that opens at `o`. -/
def boostWin (p : List Byte) (o : Int) : Int × Int := (o - 4000, o + 1000 * (pTBst p : Nat))

/-- Whether a window meets a frozen window of its bank. -/
def State.winMeets (s : State) (b : Nat) (w : Int × Int) : Bool :=
  s.trn.wins.any fun x => x.1 == b && decide (x.2.1 < w.2) && decide (w.1 < x.2.2)

/-- The earliest grid instant after `o` at which the shot's window meets no frozen window. -/
def State.freeOpen (s : State) (b : Nat) (p : List Byte) (o : Int) : Option Int :=
  minInt (((s.trn.wins.filter (·.1 == b)).map fun x => gridUp (x.2.2 + 4000)).filter
    fun t => decide (o < t) && !s.winMeets b (boostWin p t))

/-- The decision for a shot that would open at `o`: the decision, its open instant, and the wait (R100). -/
def State.boostDecide (s : State) (b : Nat) (p : List Byte) (o : Int) : Decision × Int × Nat :=
  if pTBst p = 0 ∨ s.winMeets b (boostWin p o) = false then (.boost, o, 0)
  else
    match s.freeOpen b p o with
    | some t => if t - o ≤ 1000 * (pWaitMax p : Nat) then (.wait, t, (t - o).toNat) else (.fallback, o, 0)
    | none => (.fallback, o, 0)

/-! ### Freeze points (R94, R99, R132) -/

/-- Whether channel and bank enables are set, as they are in effect (06 R132). -/
def State.enabled (s : State) (v : Nat) : Bool :=
  bitOf (s.eff (Reg.BNK_CHEN + 4 * (v / 32))) (v % 32) && bitOf (s.eff Reg.BNK_BKEN) (bankOf v)

/-- Whether a bank is dry: its bit in effect, or the device in DRY (06 R130). -/
def State.bankDry (s : State) (b : Nat) : Bool := bitOf (s.eff Reg.BNK_DRY) b || s.sys.dev == .dry

/-- Allocate a capture engine to a shot at its freeze point, for ARM, JCAP or a health flag (07 R156). -/
def State.captureAlloc (s : State) (h : Shot) : State × Shot :=
  let v := h.req.valve
  let arm := s.bit Reg.VSN_CAP_CTL 0 && s.rf Reg.VSN_CAP_CTL 8 7 == v
  let other := h.req.cmd.jcap || h.joins.any (·.cmd.jcap) || s.vsn.hcapPend.contains v
  ({ s with vsn := { s.vsn with hcapPend := s.vsn.hcapPend.filter (· != v) } }).captureFor h arm other

/-- A request starts a new shot at its freeze point (R94, R98 to R101; 06 R132). `fz` is the freeze point. -/
def State.startShot (s : State) (r : Req) (fz : Int) : State :=
  let i := s.interval r
  let own := s.prof r.prof
  let fb := s.prof (pFallback own)
  let limit := i.1 + 1000 * (pMaxShot own : Nat)
  let e := min i.2 limit
  let cut := decide (limit < i.2)
  let dp := s.learnD r.valve r.prof
  let oRef := openOf i.1 dp
  let o0 := if oRef < fz + 10000 then gridUp (fz + 10000) else oRef
  let o1 := notBefore o0 (s.readyOf r.valve)
  let b := bankOf r.valve
  let on := s.enabled r.valve
  let dec := if on then s.boostDecide b own o1 else (.inhibited, o1, 0)
  let df := s.learnD r.valve (pFallback own)
  let oF0 := openOf i.1 df
  let oF := notBefore (notBefore oF0 (some (fz + 10000))) (s.readyOf r.valve)
  let isF := decide (dec.1 = .fallback)
  let openAt := if isF then oF else dec.2.1
  let deferSh := if isF then (oF - oF0).toNat else (o1 - oRef).toNat
  let dry := s.bankDry b
  let h0 : Shot :=
    { id := s.trn.nextId, req := r, q := i.1, e := e, openRef := oRef, openAt := openAt, dUsed := if isF then df else dp, decision := dec.1
      own := own, fb := fb, joins := []
      pflags := orIf (orIf (orIf (orIf (orIf (orIf (orIf (orIf 0 pLATE (r.shift != 0)) pTRUNC (cut || r.fixed.isSome)) pDEFER (deferSh != 0)) pWAIT (decide (dec.1 = .wait)))
        pFALLBACK isF) pSUBST r.subst) pNOLOCK (!s.locked)) pDRY dry
      deferSh := deferSh, waitSh := dec.2.2, pendSh := 0, closed := r.cmd.noCoal, closeTick := 0, frozenAt := s.clk.now, dry := dry, phase := .frozen, hbLead := false
      xprof := 0, relAt := none, relStart := 0, confirm := 0, openTick := 0, stepping := false, dflags := 0, vbst := 0, tbst := 0, imax := 0, arr := none, depth := 0
      learned := none, capture := none }
  let (s1, h) := s.captureAlloc h0
  let s2 := if cut then (s1.replaceReq r [contReq r limit i.2]).count (Reg.TRN_JOIN_CNT + 0x10) else s1.dropReq r
  let wins := if (dec.1 = .boost ∨ dec.1 = .wait) ∧ pTBst own ≠ 0 then s2.trn.wins ++ [(b, boostWin own openAt)] else s2.trn.wins
  let s3 := ({ s2 with trn := { s2.trn with shots := s2.trn.shots ++ [h], nextId := s2.trn.nextId + 1
                                            wins := wins.filter fun w => decide ((s.ntNs : Int) < w.2.2) } }).setReady h
  let s4 := s3.count64 Reg.TRN_SHOT_LO
  let s5 := if dec.1 = .wait then
      (s4.count (Reg.TRN_JOIN_CNT + 4)).setRf Reg.TRN_WAIT_MAX 0 9 (max (s4.rf Reg.TRN_WAIT_MAX 0 9) (sat 511 (ceilDiv dec.2.2 1000)))
    else if isF then (s4.count (Reg.TRN_JOIN_CNT + 8)).count (Reg.TRN_BK_FB + 4 * b) else s4
  if deferSh ≠ 0 then s5.count (Reg.TRN_JOIN_CNT + 0xC) else s5

/-- The freeze point of the present tick for a request due at `inst`: `inst` itself where this is the first tick at or after it, so that a plan does not depend on where NT's fraction stands (02 R40); the tick's NT, up to the next whole ns, where a swap, a move or a step made it due late (R94; DESIGN CHOICE, assumption 60). -/
def State.freezeNow (s : State) (inst : Int) : Int :=
  if (s.clk.nt : Int) < inst * 2 ^ 32 + s.clk.inc then inst else (ceilDiv s.clk.nt (2 ^ 32) : Nat)

/-- A request at its freeze point: substitution, cancels, a join, or a new shot (R97, R102, R103). -/
def State.freezeReq (s : State) (r : Req) (inst : Int) : State :=
  if s.failed r.valve then s.substitute r
  else if (s.cancelOf r).isSome then s.voidReq r
  else
    match s.trn.shots.find? (fun h => s.mayJoin h h.e r) with
    | some h => s.joinReq h r
    | none => s.startShot r (s.freezeNow inst)

/-- FREEZE_POINT: the request due first reaches its freeze point (R94). -/
def State.freezePoint (s : State) : State :=
  match s.nextFreeze with
  | none => s
  | some r =>
    let inst := s.reqOpen r - s.freezeLead
    (s.reachNt inst).freezeReq r inst

/-! ### Hand-over (R14), cancels and markers leaving the calendar (R93, R73) -/

/-- A shot is over: its record is due (07 R150). It stays until its close point has passed, since requests may still join it (R97). -/
def State.retire (s : State) (h : Shot) : State :=
  let s1 := s.jpush (.shot h)
  if h.closed then s1.dropShot h.id else s1.putShot { h with phase := .done }

/-- A shot will not fire: its record is due at its open instant (07 R150; INHIBIT is bit 5 of DFLAGS, FLTACT bit 15). -/
def State.block (s : State) (h : Shot) (bits : List Nat) : State :=
  s.putShot { h with phase := .withheld, dflags := bits.foldl orBit h.dflags }

/-- Withhold a shot at its open instant: it does not fire, its record is due, and it takes joins up to its close point all the same (R97; 07 R150; assumption 46). -/
def State.withhold (s : State) (h : Shot) (bits : List Nat) : State :=
  s.retire { h with phase := .withheld, dflags := bits.foldl orBit h.dflags }

/-- HANDOVER: the oldest plan not yet handed over reaches its die, or is too late and does not fire (R14). -/
def State.handover (s : State) : State :=
  match s.trn.shots.find? (fun h => h.phase == .frozen) with
  | none => s
  | some h =>
    if s.clk.now ≤ h.frozenAt + usTicks 10 then s.putShot { h with phase := .handed }
    else
      let late := (s.clk.now - h.frozenAt - usTicks 10) / 250
      (((s.block { h with pflags := orBit h.pflags pLATEHO } []).count (Reg.TRN_JOIN_CNT + 0x20)).setBit Reg.TRN_STAT 2 true).raise 0x0303
        (by1 h.req.valve ++ by1 h.req.prof ++ by2 late)

/-- The pending command of a kind with the earliest stamp. -/
def State.firstOfKind (s : State) (k : Nat) : Option Cmd := minKey (fun c => [c.stamp]) ((s.trn.cal.map (·.cmd)).filter (·.kind == k))

/-- Take the first entry of a command out of the calendar. -/
def eraseEntry : List CalEntry → Cmd → List CalEntry
  | [], _ => []
  | e :: es, c => if e.cmd = c then es else e :: eraseEntry es c

/-- CANCEL_EXPIRE: a cancel is freed when NT passes its stamp plus 2.000 s (R93). -/
def State.cancelExpire (s : State) : State :=
  match s.firstOfKind 2 with
  | none => s
  | some c =>
    let s1 := s.reachNt (c.stamp + 2000000001)
    { s1 with trn := { s1.trn with cal := eraseEntry s1.trn.cal c } }

/-- MARKER: a marker's journal record is due on the tick at which its stamp takes effect (R73). -/
def State.marker (s : State) : State :=
  match s.firstOfKind 3 with
  | none => s
  | some c =>
    let s1 := s.reachNt c.stamp
    ({ s1 with trn := { s1.trn with cal := eraseEntry s1.trn.cal c } }).jpush (.marker c s1.ntNs)

/-! ### Meanings -/

/-- TAKE (01 R11). -/
def execTake : State → Out := actNow State.take

/-- CLOSE_POINT (R97). -/
def execClosePoint : State → Out := actNow State.closePoint

/-- FREEZE_POINT (R94). -/
def execFreezePoint : State → Out := actNow State.freezePoint

/-- HANDOVER (01 R14). -/
def execHandover (dt : Nat) : State → Out := act dt State.handover

/-- CANCEL_EXPIRE (R93). -/
def execCancelExpire : State → Out := actNow State.cancelExpire

/-- MARKER (04 R73). -/
def execMarker : State → Out := actNow State.marker

/-- Clear the shot count, every TRN counter and TRN_WAIT_MAX on one CORE cycle (TRN_CTL.CCLR). -/
def State.trnClear (s : State) : State :=
  ((s.clearRegs Reg.TRN_SHOT_LO 11).setRf Reg.TRN_WAIT_MAX 0 9 0).clearRegs Reg.TRN_BK_FB 12

/-- TRN_CCLR (R104). -/
def execTrnCclr : State → Out := actNow State.trnClear

/-- Set PEAK to the present calendar fill (TRN_CAL_PEAK.PCLR). -/
def State.calPeakClear (s : State) : State := s.setRf Reg.TRN_CAL_PEAK 0 19 s.trn.cal.length

/-- TRN_PCLR (R93). -/
def execTrnPclr : State → Out := actNow State.calPeakClear

/-- Set WAIT to 0 (TRN_WAIT_MAX.WCLR). -/
def State.waitClear (s : State) : State := s.setRf Reg.TRN_WAIT_MAX 0 9 0

/-- TRN_WCLR (R100). -/
def execTrnWclr : State → Out := actNow State.waitClear

end Sys2Proof.Machine
end

