-- ==== Sys2Proof/Machine/Valve.lean ====
section
/-! DEFINITION. The valve as its own sensor: arrival detection, learning, the learned tables, the journal, captures, valve health (07). -/

namespace Sys2Proof.Machine

/-! ### Health (R158, R159) -/

/-- Bit of FAILPOL for a condition (0 DRIFT, 1 STUCK, 2 WEAK, 3 OPEN, 4 SHORT). -/
def failPolBit (c : Nat) : Nat := match c with
  | 0 => 3
  | 1 => 0
  | 2 => 4
  | 3 => 1
  | _ => 2

/-- Set a valve's FAILED mark (R159); it shows in VSN_VSTAT bit 5. Where the mark is newly set, the first substitution on its lanes is reported again (05 R105). -/
def State.setFailed (s : State) (v : Nat) (b : Bool) : State :=
  let s1 := if b && !s.failed v then { s with trn := { s.trn with substTold := s.trn.substTold.filter fun t => t.2 != v } } else s
  (s1.setBit (Reg.VSN_FAILED + 4 * (v / 32)) (v % 32) b).setBit (Reg.VSN_VSTAT + 4 * v) 5 b

/-- Set a health condition. One that becomes true raises its event, asks for a capture under HCAP, and marks the valve FAILED where FAILPOL names it (R156, R158, R159). -/
def State.setCondition (s : State) (v c : Nat) (b : Bool) (ev : Option (Nat × List Byte)) : State :=
  let a := Reg.VSN_VSTAT + 4 * v
  let was := s.bit a c
  let s1 := s.setBit a c b
  if b && !was then
    let s2 := match ev with
      | some e => s1.raise e.1 e.2
      | none => s1
    let s3 := if s2.bit Reg.VSN_CAP_CTL 2 && !s2.vsn.hcapPend.contains v then { s2 with vsn := { s2.vsn with hcapPend := s2.vsn.hcapPend ++ [v] } } else s2
    if s3.bit Reg.VSN_HCFG (24 + failPolBit c) then
      (if s3.failed v then s3 else (s3.setFailed v true).raise 0x0604 (by1 v ++ by1 c))
    else s3
  else s1

/-- The reference delay of a valve and profile, unit 0.5 µs. -/
def State.refD (s : State) (v p : Nat) : Nat := (s.rf (Reg.VSN_REF + 4 * ldIdx v p) 0 16 + 8) / 16

/-- The first profile of a valve beyond DRIFT_LIM. -/
def State.driftProf (s : State) (v : Nat) : Option Nat :=
  ((List.range 31).map (· + 1)).find? fun p =>
    decide (s.rf Reg.VSN_HCFG 0 10 < max (s.learnD v p) (s.refD v p) - min (s.learnD v p) (s.refD v p))

/-- Evaluate DRIFT of an ejector valve (R158). -/
def State.evalDrift (s : State) (v : Nat) : State :=
  if s.bankRole (bankOf v) = 1 then
    match s.driftProf v with
    | some p => s.setCondition v 0 true (some (0x0601, by1 v ++ by1 p ++ by2 (s.learnD v p) ++ by2 (s.refD v p)))
    | none => s.setCondition v 0 false none
  else s

/-- Depth average after a shot with an arrival (R158). -/
def State.depthStep (s : State) (v depth : Nat) : State :=
  let a := Reg.VSN_VSTAT + 4 * v
  if s.bit a 6 then
    let d : Int := s.rf a 16 8
    s.setRf a 16 8 (d + ((depth : Int) - d + 8) / 16).toNat
  else (s.setRf a 16 8 depth).setBit a 6 true

/-- Evaluate the conditions of an ejector valve that rest on its statistics and tables (R158): STUCK, which only a shot with ARR ends, WEAK and DRIFT. OPEN and SHORT follow the drive path's reports. -/
def State.evalValve (s : State) (v : Nat) : State :=
  if s.bankRole (bankOf v) = 1 then
    let a := Reg.VSN_VSTAT + 4 * v
    let s1 := if s.rf Reg.VSN_HCFG 12 4 ≤ s.rf a 8 8 then s.setCondition v 1 true (some (0x0602, by1 v ++ by1 (storeGet (fun _ => 0) s.vsn.lastProf v))) else s
    let weak := s1.bit a 6 && decide (s1.rf a 16 8 < s1.rf Reg.VSN_HCFG 16 8)
    (s1.setCondition v 2 weak (some (0x0603, by1 v ++ by1 (s1.rf a 16 8)))).evalDrift v
  else s

/-- Evaluate the conditions of every valve. -/
def State.evalAll (s : State) : State := (List.range 96).foldl State.evalValve s

/-- Health of a valve after its shot fired on a live ejector bank (R158): NOARR run, depth, STUCK, WEAK, DRIFT. -/
def State.evalShot (s : State) (h : Shot) : State :=
  let v := h.req.valve
  let a := Reg.VSN_VSTAT + 4 * v
  let s1 := match h.arr with
    | some _ => ((s.setRf a 8 8 0).depthStep v h.depth).setCondition v 1 false none
    | none => if h.dflags.testBit 14 then s else s.setRf a 8 8 (sat 255 (s.rf a 8 8 + 1))
  ({ s1 with vsn := { s1.vsn with lastProf := storeSet (fun _ => 0) s1.vsn.lastProf v h.req.prof } }).evalValve v

/-! ### Arrival detection (R141 to R143) -/

/-- The detector: largest slope of the reference, whether the knee has passed, smallest slope with its sample, run of confirming values, and the confirming sample. Slopes are fractions (numerator, denominator). -/
structure Detector where
  g0 : Option (Int × Int)
  knee : Bool
  gmin : Option (Int × Int × Nat)
  run : Nat
  out : Option Nat
  deriving DecidableEq, Repr

/-- One valid slope n/d at sample k (R142). -/
def Detector.step (knee rise conf : Nat) (t : Detector) (k : Nat) (n d : Int) : Detector :=
  if t.out.isSome then t
  else if k ≤ 20 then
    match t.g0 with
    | some g => if g.1 * d < n * g.2 then { t with g0 := some (n, d) } else t
    | none => { t with g0 := some (n, d) }
  else
    match t.g0 with
    | none => t
    | some g =>
      let kneed := t.knee || decide (n * 256 * g.2 < knee * g.1 * d)
      if !kneed then t
      else
        match t.gmin with
        | none => { t with knee := true, gmin := some (n, d, k), run := 0 }
        | some m =>
          if n * m.2.1 < m.1 * d then { t with gmin := some (n, d, k), run := 0 }
          else if 256 * m.1 * d * g.2 + rise * (g.1 * m.2.1 - m.1 * g.2) * d < 256 * n * m.2.1 * g.2 then
            let r := t.run + 1
            { t with run := r, out := if conf ≤ r then some k else none }
          else { t with run := 0 }

/-- Run the detector over the samples of a shot up to sample `last` (R141, R142); `ok k` tells whether the slope ending at sample k is valid. -/
def detect (knee rise conf last : Nat) (ok : Nat → Bool) (xs : List Sample) : Detector :=
  (List.range (min xs.length (last + 1))).foldl (fun t k =>
    match xs[k]?, xs[k - 4]? with
    | some x, some y =>
      if k < 4 ∨ ok k = false ∨ x.vn = 0 then t
      else t.step knee rise conf k ((x.code.toNat : Int) - y.code.toNat) x.vn
    | _, _ => t) ⟨none, false, none, 0, none⟩

/-! ### Switch positions as they were (R141, R155) -/

/-- The mark in force at a tick, from marks newest first. -/
def markAt (n : Nat) : List SwMark → Option SwMark
  | [] => none
  | m :: ms => if m.tick ≤ n then some m else markAt n ms

/-- The switch positions at a tick; before the first mark every switch was open. -/
def State.switchesAt (s : State) (n : Nat) : SwMark := (markAt n s.drv.marks).getD ⟨0, 0, 0, 0⟩

/-- The tick of the closing that LS of a channel stands in at a tick, if it was closed then: the earliest of the unbroken run of marks with LS closed. -/
def closedFrom (v n : Nat) (since : Option Nat) : List SwMark → Option Nat
  | [] => since
  | m :: ms =>
    if n < m.tick then closedFrom v n since ms
    else if m.ls.getLsbD v then closedFrom v n (some m.tick) ms
    else since

/-- Ticks of a drain edge of a profile over a bank node at `q` quarter volts: the voltage over its slew (06 R112, R126). -/
def edgeTicks (p : List Byte) (q : Nat) : Nat := ceilDiv (250 * q) (4 * pSlew p)

/-- Ticks for which LS stays closed at least: its turn-on edge plus 0.4 µs of blanking (06 R117). -/
def onTicks (p : List Byte) (q : Nat) : Nat := edgeTicks p q + 100

/-- Whether the slope that ends at sample `k` of a shot is valid (R141): LS closed from four samples before through it, and the closing edge with its blanking over by then. Voltages of the node in quarter volts. -/
def State.slopeOk (s : State) (v openTick : Nat) (p : List Byte) (vn : Nat → Nat) (k : Nat) : Bool :=
  let from_ := openTick + 125 * (k - 4)
  match closedFrom v (openTick + 125 * k) none s.drv.marks with
  | some c => decide (c + onTicks p (vn k) ≤ from_)
  | none => false

/-- Whether HB of a bank was closed at any tick of a span. -/
def State.hbSeen (s : State) (b n m : Nat) : Bool :=
  (s.switchesAt n).hb.getLsbD b || s.drv.marks.any fun x => decide (n < x.tick) && decide (x.tick ≤ m) && x.hb.getLsbD b

/-- Depth of an arrival, unit 1/256, saturating at 255 (R143). -/
def Detector.depth (t : Detector) : Nat :=
  match t.g0, t.gmin with
  | some g, some m =>
    if 0 < g.1 * m.2.1 then sat 255 (divRound (256 * (g.1 * m.2.1 - m.1 * g.2)) (g.1 * m.2.1).toNat).toNat else 0
  | _, _ => 0

/-- The running shot of a valve. -/
def State.runningShot (s : State) (v : Nat) : Option Shot :=
  s.trn.shots.find? fun h => h.req.valve == v && (h.phase == .boost || h.phase == .peak || h.phase == .hold || h.phase == .release)

/-- The profile bytes a shot executes. -/
def Shot.executed (h : Shot) : List Byte := if h.xprof = h.req.prof then h.own else h.fb

/-- The search window of a shot in samples: T_PK, or the boost end where T_PK is 0; the release start; 2,000 µs (R142). -/
def Shot.window (h : Shot) : Nat :=
  let a := if pTPk h.executed ≠ 0 then 2 * pTPk h.executed else h.tbst
  min (min a 4000) ((h.relInst - h.openAt) / 500).toNat

/-- ARRIVAL: the armature's arrival is confirmed on the current slope of the shot running on a valve (R142, R143). NBOOST of a non-boosted opening is judged up to the arrival (R146). -/
def State.arrival (s : State) (v : Nat) (xs : List Sample) : State :=
  match s.runningShot v with
  | none => s
  | some h =>
    if h.dry || h.arr.isSome then s
    else
      let ok := s.slopeOk v h.openTick h.executed fun k => ((xs[k]?).getD ⟨0, 0⟩).vn
      let t := detect (fld (s.eff Reg.VSN_ARR_CFG) 0 8) (fld (s.eff Reg.VSN_ARR_CFG) 8 8) (fld (s.eff Reg.VSN_ARR_CFG) 16 3) h.window ok xs
      match t.out, t.gmin with
      | some k, some m =>
        let s1 := s.reachTick (h.openTick + 125 * k)
        let d := clampI 1 4000 ((m.2.2 : Int) - 2)
        let beside := decide (pTBst h.executed = 0) && s.hbSeen (bankOf v) h.openTick (h.openTick + 125 * d.toNat)
        let fl := orIf (if h.dflags.testBit 11 then h.dflags - 2 ^ 11 else h.dflags) 11 beside
        (s1.putShot { h with arr := some d.toNat, depth := t.depth, imax := xs.foldl (fun m x => max m x.code.toNat) h.imax, dflags := orBit fl 8
                             confirm := h.openTick + 125 * k }).count (Reg.VSN_JDROP + 0xC)
      | _, _ => s

/-! ### Learning (R145 to R147) -/

/-- Whether a shot is learnable (R146). -/
def State.learnable (s : State) (h : Shot) : Bool :=
  h.arr.isSome && !s.bit Reg.VSN_LD_CTL 5 && pLearn h.executed && !(h.req.cmd.noLearn || h.joins.any (·.cmd.noLearn))
    && !h.pflags.testBit pCOAL && !h.pflags.testBit pTRUNC && !h.pflags.testBit pFALLBACK && !h.pflags.testBit pDRY
    && !h.dflags.testBit 0 && !h.dflags.testBit 1 && !h.dflags.testBit 2 && !h.dflags.testBit 11 && !h.dflags.testBit 15

/-- The learned state after a measured delay (R145): gain 1/16, rounded to nearest with ties toward +∞, kept in 0 … 64,000. -/
def learnStep (l m : Nat) : Nat := (clampI 0 64000 ((l : Int) + ((16 * (m : Int) - l) + 8) / 16)).toNat

/-- The ticks after which the update of a valve takes effect: those given, but no later than 4.0 µs after the confirming sample (R145). -/
def State.learnWait (s : State) (dt v : Nat) : Nat :=
  match s.runningShot v with
  | some h => if h.arr.isSome then min dt (h.confirm + usTicks 4 - s.clk.now) else dt
  | none => dt

/-- LEARN_UPDATE: the learned state of a shot's valve and profile is updated, unless a host write to it takes effect on the same tick (R145, R147). -/
def State.learnUpdate (s : State) (v : Nat) : State :=
  match s.runningShot v with
  | none => s
  | some h =>
    match h.arr with
    | none => s
    | some m =>
      if !s.learnable h || h.learned.isSome then s
      else
        let n := ldIdx v h.xprof
        let a := Reg.VSN_DELAY + 4 * n
        if s.vsn.hostTick = s.clk.now ∧ s.vsn.hostIdx.contains n then
          (s.putShot { h with learned := some (s.rf a 0 16) }).count (Reg.VSN_JDROP + 0x18)
        else
          let l := learnStep (s.rf a 0 16) m
          let s1 := ((s.setRf a 0 16 l).putShot { h with learned := some l, dflags := orBit h.dflags 10 }).count (Reg.VSN_JDROP + 0x14)
          { s1 with vsn := { s1.vsn with learnt := (s.clk.now, n, h.id) :: s1.vsn.learnt.filter fun x => x.1 == s.clk.now } }

/-! ### The learned tables (R148, R149) -/

/-- Discard an update that took effect on this tick (R147): it is counted as discarded and not as done, and its shot loses LEARNED. -/
def State.unlearn (s : State) (n id : Nat) : State :=
  let s1 := (s.setReg (Reg.VSN_JDROP + 0x14) (s.reg (Reg.VSN_JDROP + 0x14) - 1)).count (Reg.VSN_JDROP + 0x18)
  { s1 with trn := { s1.trn with shots := s1.trn.shots.map fun h =>
      if h.id = id then { h with learned := some (s.rf (Reg.VSN_DELAY + 4 * n) 0 16), dflags := if h.dflags.testBit 10 then h.dflags - 2 ^ 10 else h.dflags } else h } }

/-- The host has written entries of the live table on this tick: they stand, and an update of one of them on the same tick is discarded, whichever was performed first (R147). -/
def State.hostWrote (s : State) (ns : List Nat) : State :=
  let gone := s.vsn.learnt.filter fun x => x.1 == s.clk.now && ns.contains x.2.1
  let s1 := gone.foldl (fun x g => x.unlearn g.2.1 g.2.2) s
  { s1 with vsn := { s1.vsn with hostIdx := if s.vsn.hostTick = s.clk.now then s.vsn.hostIdx ++ ns else ns, hostTick := s.clk.now
                                 learnt := s.vsn.learnt.filter fun x => x.1 == s.clk.now && !ns.contains x.2.1 } }

/-- Set entries of a table from a function. -/
def State.setTable (s : State) (base : Nat) (f : Nat → Nat) (ns : List Nat) : State :=
  ns.foldl (fun x n => x.setReg (base + 4 * n) (w32 (f n))) s

/-- Every entry index of a table. -/
def allIdx : List Nat := List.range 2976

/-- A write of an entry of the live table (R148): above 64,000 it is not performed. Answers the status. -/
def State.writeDelay (s : State) (n : Nat) (w : Word) : Nat × State :=
  if 64000 < fld w 0 16 then (1, s)
  else (0, ((s.setReg (Reg.VSN_DELAY + 4 * n) (w32 (fld w 0 16))).hostWrote [n]).evalValve (n / 31))

/-- A write of an entry of the reference table; the valve's conditions are judged again (R158). -/
def State.writeRef (s : State) (n : Nat) (w : Word) : Nat × State :=
  if 64000 < fld w 0 16 then (1, s)
  else (0, (s.setReg (Reg.VSN_REF + 4 * n) (w32 (fld w 0 16))).evalValve (n / 31))

/-- A software write of a FAILED register (R148, R159): each bit is a valve's mark. -/
def State.writeFailed (s : State) (k : Nat) (w : Word) : State :=
  (List.range 32).foldl (fun x j => x.setFailed (32 * k + j) (bitOf w j)) s

/-- A write of the saved table or saved marks sets SAVED (R149). -/
def State.writeSaved (s : State) (n : Nat) (w : Word) : Nat × State :=
  if 64000 < fld w 0 16 then (1, s)
  else (0, (s.setReg (Reg.VSN_SAVED + 4 * n) (w32 (fld w 0 16))).setBit Reg.VSN_LD_CTL 6 true)

/-- A write of the saved FAILED marks sets SAVED (R149). -/
def State.writeSFailed (s : State) (k : Nat) (w : Word) : State :=
  (s.setReg (Reg.VSN_SFAILED + 4 * k) w).setBit Reg.VSN_LD_CTL 6 true

/-- The operations of one write of VSN_LD_CTL (R149). -/
structure LdOps where
  resetAll : Bool
  resetV : Bool
  save : Bool
  restore : Bool
  refset : Bool
  deriving DecidableEq, Repr

/-- Initial value of entry n: 16 × DELAY0 (R144). -/
def State.initL (s : State) (n : Nat) : Nat := 16 * s.sx 4 (208 + 2 * n) 2

/-- The value of a table entry. -/
def State.tab (s : State) (base n : Nat) : Nat := s.rf (base + 4 * n) 0 16

/-- Perform the operations of one write on one tick, each reading the tables as they stood before it; answers the status (R149). -/
def State.ldOps (s : State) (o : LdOps) (v : Nat) : Nat × State :=
  let live := o.resetAll || o.resetV || o.restore
  if 1 < b2n o.resetAll + b2n o.resetV + b2n o.restore ∨ (o.restore = true ∧ s.bit Reg.VSN_LD_CTL 6 = false) then (1, s)
  else if (live ∧ s.clk.now < s.vsn.liveBusy) ∨ (o.save ∧ s.clk.now < s.vsn.savedBusy) ∨ (o.refset ∧ s.clk.now < s.vsn.refBusy) then (2, s)
  else
    let until_ := s.clk.now + usTicks 40
    let vs := (List.range 31).map (31 * v + ·)
    let s1 := if o.resetAll then ((s.setTable Reg.VSN_DELAY s.initL allIdx).hostWrote allIdx).raise 0x0607 (by1 0) else s
    let s2 := if o.resetV then ((s1.setTable Reg.VSN_DELAY s.initL vs).hostWrote vs).raise 0x0607 (by1 1 ++ by1 v) else s1
    let s3 := if o.restore then
        let a := ((s2.setTable Reg.VSN_DELAY (s.tab Reg.VSN_SAVED) allIdx).hostWrote allIdx).raise 0x0607 (by1 3)
        (List.range 3).foldl (fun x k => x.writeFailed k (s.reg (Reg.VSN_SFAILED + 4 * k))) a
      else s2
    let s4 := if o.save then
        let a := ((s3.setTable Reg.VSN_SAVED (s.tab Reg.VSN_DELAY) allIdx).setBit Reg.VSN_LD_CTL 6 true).raise 0x0607 (by1 2)
        (List.range 3).foldl (fun x k => x.setReg (Reg.VSN_SFAILED + 4 * k) (s.reg (Reg.VSN_FAILED + 4 * k))) a
      else s3
    let s5 := if o.refset then (s4.setTable Reg.VSN_REF (s.tab Reg.VSN_DELAY) allIdx).raise 0x0607 (by1 4) else s4
    let s6 := { s5 with vsn := { s5.vsn with liveBusy := if live then until_ else s5.vsn.liveBusy
                                             savedBusy := if o.save then until_ else s5.vsn.savedBusy
                                             refBusy := if o.refset then until_ else s5.vsn.refBusy } }
    (0, if live || o.refset then s6.evalAll else s6)

/-- No operation. -/
def LdOps.none : LdOps := ⟨false, false, false, false, false⟩

/-! ### The journal (R150 to R154, R407) -/

/-- Indices of the journal ring. -/
def State.jrnLen (s : State) : Nat := 524288 * s.img.jrnSize

/-- The index at which the next record is written: VSN_JWR, or 0 where a load has made the ring end before it (R25, R154; DESIGN CHOICE, assumption 61). -/
def State.jIdx (s : State) : Nat := if s.rf Reg.VSN_JWR 0 25 < s.jrnLen then s.rf Reg.VSN_JWR 0 25 else 0

/-- Write one record of 60 bytes after its SEQ into the ring, or drop it under HOLD or a full write queue; SEQ advances in every case (R151, R154). -/
def State.jwrite (s : State) (qfull : Bool) (body : List Byte) : State :=
  let seq := s.reg Reg.VSN_JSEQ
  let wr := s.jIdx
  let nx := if wr + 1 < s.jrnLen then wr + 1 else 0
  let s1 := s.setReg Reg.VSN_JSEQ (seq + 1)
  if s.jrnLen = 0 then s1
  else if qfull then (s1.count (Reg.VSN_JDROP + 4)).episode 0x0605 1 (by1 1 ++ leBytes 4 seq.toNat)
  else if s.bit Reg.VSN_JCTL 0 ∧ nx = s.rf Reg.VSN_JRD 0 25 then (s1.count Reg.VSN_JDROP).episode 0x0605 1 (by1 0 ++ leBytes 4 seq.toNat)
  else
    let s2 := (s1.dramPut (64 * wr) (leBytes 4 seq.toNat ++ body)).setReg Reg.VSN_JWR (w32 nx)
    if nx = 0 then s2.count (Reg.VSN_JDROP + 8) else s2

/-- Echo of a command's flags at bits 12 … 14 (R152). -/
def echoOf (cs : List Cmd) : Nat := 4096 * b2n (cs.any (·.noCoal)) + 8192 * b2n (cs.any (·.noLearn)) + 16384 * b2n (cs.any (·.jcap))

/-- Bytes 4 … 31 of a record: type, request, profiles, flags, instant and stamp (R151). -/
def recHead (typ valve lane prof xprof pfl dfl : Nat) (c : Cmd) (inst : Int) : List Byte :=
  by1 (typ + 16 * c.kind + 64 * c.prio) ++ by1 valve ++ by1 lane ++ by1 c.source ++ leBytes 2 c.tag ++ by1 prof ++ by1 xprof
    ++ leBytes 4 pfl ++ leBytes 4 dfl ++ leBytes 4 (inst.toNat / 1000000000) ++ leBytes 4 (inst.toNat % 1000000000)
    ++ leBytes 4 (w32i (c.stamp - inst)).toNat

/-- A length in units of 4 ns, saturating in three bytes. -/
def sh3 (ns : Nat) : List Byte := leBytes 3 (sat 0xFFFFFF (ns / 4))

/-- The body of a shot record (R151). PRIMARY of a shot with SUBST is that of its first substituted request (R103; DESIGN CHOICE, assumption 62). -/
def State.shotBody (s : State) (h : Shot) : List Byte :=
  let shift := (h.req :: h.joins).foldl (fun m r => max m r.shift) 0
  let cs := h.req.cmd :: h.joins.map (·.cmd)
  let cap := if h.dflags.testBit 12 then (s.reg Reg.VSN_CAP_SEQ).toNat % 65536 else 0
  let prim := match (h.req :: h.joins).find? (·.subst) with
    | some r => s.lanePrimary r.lane
    | none => 0xFF
  recHead 1 h.req.valve h.req.lane h.req.prof h.xprof (h.pflags + echoOf cs) h.dflags h.req.cmd h.openAt
    ++ leBytes 4 (h.relInst - h.openAt).toNat ++ sh3 shift ++ by1 (sat 255 h.joins.length) ++ sh3 h.deferSh ++ by1 h.depth
    ++ sh3 h.waitSh ++ sh3 h.pendSh ++ leBytes 2 (h.arr.getD 0) ++ leBytes 2 h.dUsed
    ++ leBytes 2 (h.learned.getD (if h.xprof = 0 then 0 else s.learnL h.req.valve h.xprof))
    ++ leBytes 3 (h.imax % 4096 + 4096 * (h.vbst % 1024)) ++ by1 prim
    ++ leBytes 2 h.tbst ++ leBytes 2 cap

/-- The body of a record of type 2, 3 or 5 for a request (R151, R407). -/
def State.reqBody (s : State) (typ : Nat) (r : Req) (valve pfl : Nat) (inst len : Int) (d : Nat) : List Byte :=
  recHead typ valve r.lane r.prof 0 (orIf (orIf pfl pLATE (r.shift != 0)) pSUBST r.subst + echoOf [r.cmd]) 0 r.cmd inst
    ++ leBytes 4 len.toNat ++ sh3 r.shift ++ List.replicate 13 0 ++ leBytes 2 d ++ List.replicate 5 0
    ++ by1 (if r.subst then s.lanePrimary r.lane else 0xFF) ++ List.replicate 4 0

/-- The body of a marker record (R151); the fields a marker ignores are carried unchanged, PROFILE in PROF and FLAGS in their echo (04 R73). -/
def markerBody (c : Cmd) (inst : Int) : List Byte :=
  recHead 4 0xFF c.lane c.profile 0 (echoOf [c]) 0 c inst ++ List.replicate 27 0 ++ by1 0xFF ++ List.replicate 4 0

/-- The slot the next capture goes into: VSN_CAP_WR, or 0 where VSN_CAP_SLOTS has been set so that it is no slot any more (R157; DESIGN CHOICE, assumption 61). -/
def State.capIdx (s : State) : Nat := if s.rf Reg.VSN_CAP_WR 0 13 < s.rf Reg.VSN_CAP_SLOTS 0 14 then s.rf Reg.VSN_CAP_WR 0 13 else 0

/-- The slot after it. -/
def State.capNext (s : State) : Nat := if s.capIdx + 1 < s.rf Reg.VSN_CAP_SLOTS 0 14 then s.capIdx + 1 else 0

/-- Whether a complete capture finds a slot: there is one, and under HOLD the slot kept free stays free (R157). -/
def State.capRoom (s : State) : Bool :=
  s.rf Reg.VSN_CAP_SLOTS 0 14 != 0 && s.img.capSize != 0 && !(s.bit Reg.VSN_CAP_CTL 1 && s.capNext == s.rf Reg.VSN_CAP_RD 0 13)

/-- Bytes of a record with a DFLAGS bit set in them, and CAPSEQ (R151). -/
def flagRecord (r : List Byte) (bit seq : Nat) : List Byte :=
  r.take 16 ++ leBytes 4 (orBit (leAt r 16 4) bit) ++ (r.drop 20).take 42 ++ leBytes 2 seq

/-- A capture is complete, its shot's record being written: it is stored in its slot and the record shows CAPTURED with CAPSEQ, or it is discarded, counted, and the record shows CAPMISS; the record is mended in the ring while it still stands there (R153, R157; DESIGN CHOICE, assumption 63). -/
def State.storeCapture (s : State) (samples : List (BitVec 16)) (record : List Byte) (idx : Option Nat) : State :=
  let seq := (s.reg Reg.VSN_CAP_SEQ).toNat % 65536
  let r := if s.capRoom then flagRecord record 12 seq else flagRecord record 13 0
  let s0 := match idx with
    | some i => if storeGetList dramNone s.dram (64 * i) 4 = record.take 4 ∧ i < s.jrnLen then s.dramPut (64 * i) r else s
    | none => s
  if s.capRoom then
    let bytes := r ++ samples.flatMap (fun x => leBytes 2 x.toNat) ++ List.replicate 960 0
    let s1 := (s0.dramPut (0x80000000 + 2048 * s.capIdx) bytes).setRf Reg.VSN_CAP_WR 0 13 s.capNext
    s1.setReg Reg.VSN_CAP_SEQ (s1.reg Reg.VSN_CAP_SEQ + 1)
  else s0.count Reg.VSN_CAP_MISS

/-- Free a capture engine, or update it. -/
def State.setEngine (s : State) (i : Nat) (e : Option CapEng) : State :=
  { s with vsn := { s.vsn with engines := s.vsn.engines.set i e } }

/-- Whether a shot fired: it executed a profile on a bank that is not dry. -/
def Shot.fired (h : Shot) : Bool := h.xprof != 0 && !h.dry

/-- The arrival flags of a shot that fired on a live ejector bank: NOARR and ARRSHORT (R153). -/
def State.arrFlags (s : State) (h : Shot) : Shot :=
  if h.fired ∧ h.arr.isNone then
    { h with dflags := orIf (orBit h.dflags 9) 14 (decide (h.window < h.dUsed + 2 * s.rf Reg.VSN_HCFG2 0 10)) }
  else h

/-- Write the group of a shot: its record and one join record for each request that joined (R150, R407); then its statistics and health (R158). -/
def State.journalShot (s : State) (qfull : Bool) (h0 : Shot) : State :=
  let h1 := s.arrFlags h0
  let eng := h1.capture.bind fun i => (s.vsn.engines.getD i none).bind fun e => if e.shot = h1.id then some (i, e) else none
  let done := (eng.bind fun x => x.2.samples).isSome
  let h := { h1 with dflags := if done then orBit h1.dflags (if s.capRoom then 12 else 13) else h1.dflags }
  let body := s.shotBody h
  let rec_ := leBytes 4 (s.reg Reg.VSN_JSEQ).toNat ++ body
  let s1 := s.jwrite qfull body
  let idx := if s1.dram = s.dram then none else some s.jIdx
  let s2 := h.joins.foldl (fun x r =>
    let i := x.interval r
    x.jwrite qfull (x.reqBody 5 r h.req.valve 0 h.openAt (i.2 - i.1) 0)) s1
  let s3 := match eng with
    | none => s2
    | some (i, e) =>
      match e.samples with
      | some ys => (s2.storeCapture ys rec_ idx).setEngine i none
      | none => if h.xprof = 0 ∨ h.dry then s2.setEngine i none else s2.setEngine i (some { e with record := some (rec_, idx, h.arr) })
  if h.fired ∧ s.bankRole (bankOf h.req.valve) = 1 then
    let s4 := s3.count (Reg.VSN_VSHOT + 4 * h.req.valve)
    (if h.arr.isNone then s4.count (Reg.VSN_JDROP + 0x10) else s4).evalShot h
  else s3

/-- The highest corrected current code of a shot that fired (R151): the one its die reports, or a free value where none is reported, but never below a code that a command showed of the shot (assumption 46). -/
def State.noteImax (s : State) (h : Shot) (code : Option (BitVec 12)) : Shot × State :=
  if h.fired then
    match code with
    | some c => ({ h with imax := max (sat 4095 h.imax) c.toNat }, s)
    | none => ({ h with imax := max (sat 4095 h.imax) (s.draw.1.toNat % 4096) }, s.draw.2)
  else (h, s)

/-- JOURNAL_WRITE: the oldest record or group waiting is written (R150). `q` tells whether the SRAM write queue of region 11 is full (R154), and the highest code of the shot. -/
def State.journalWrite (s : State) (q : JournalIn) : State :=
  match s.vsn.jq with
  | [] => s
  | j :: js =>
    let s1 := { s with vsn := { s.vsn with jq := js } }
    match j with
    | .shot h =>
      let x := s1.noteImax h q.imax
      x.2.journalShot q.full x.1
    | .req typ r fl inst len d => s1.jwrite q.full (s1.reqBody typ r (if typ = 3 then 0xFF else r.valve) fl inst len d)
    | .marker c inst => s1.jwrite q.full (markerBody c inst)

/-- JOURNAL_RESTART: VSN_JCTL.RESTART sets VSN_JWR and VSN_JRD to 0, in READY only. Answers the status. -/
def State.journalRestart (s : State) : Nat × State :=
  if s.sys.dev = .ready then (0, (s.setReg Reg.VSN_JWR 0).setReg Reg.VSN_JRD 0) else (1, s)

/-! ### Captures (R155, R157) -/

/-- The words of a capture: each covers `dec` converter samples and shows the switches at the last of them; bit 15 marks the arrival (R155). `openTick` is the open instant's tick. -/
def State.capWords (s : State) (v openTick dec pre : Nat) (arr : Option Nat) (xs : List (BitVec 12)) : List (BitVec 16) :=
  (List.range 512).map fun g =>
    let grp := (xs.drop (g * dec)).take dec
    let mean := divRound ((grp.map fun x => (x.toNat : Int)).sum) dec
    let sw := s.switchesAt (openTick + 125 * (g * dec + dec - 1) - 125 * (pre * dec))
    let a := match arr with
      | some m => decide ((pre * dec + m) / dec = g)
      | none => false
    BitVec.ofNat 16 (mean.toNat + 4096 * b2n (sw.ls.getLsbD v) + 8192 * b2n (sw.fw.getLsbD v) + 16384 * b2n (sw.hb.getLsbD (bankOf v)) + 32768 * b2n a)

/-- A shot by number, running or waiting for its record. -/
def State.shotById (s : State) (id : Nat) : Option Shot :=
  match s.trn.shots.find? (fun h => h.id == id) with
  | some h => some h
  | none => s.vsn.jq.findSome? fun j =>
    match j with
    | .shot h => if h.id = id then some h else none
    | _ => none

/-- The tick on which the last converter sample of a capture is taken (R155). -/
def CapEng.lastTick (e : CapEng) (openTick : Nat) : Nat := openTick + 125 * (512 * e.dec - e.pre * e.dec - 1)

/-- CAPTURE_DONE: an engine's 512 samples are stored, none before its shot opens nor before the last one is taken; with the record copy the slot is complete (R157). -/
def State.captureDone (s : State) (i : Nat) (xs : List (BitVec 12)) : State :=
  match s.vsn.engines.getD i none with
  | none => s
  | some e =>
    match e.openTick with
    | none => s
    | some t =>
      let s1 := s.reachTick (e.lastTick t)
      let arr := match e.record with
        | some r => r.2.2
        | none => (s1.shotById e.shot).bind (·.arr)
      let ws := s1.capWords e.valve t e.dec e.pre arr xs
      match e.record with
      | some r => (s1.storeCapture ws r.1 r.2.1).setEngine i none
      | none => s1.setEngine i (some { e with samples := some ws })

/-- CAPTURE_ARM: VSN_CAP_CTL.ARM asks for a capture of the next shot of a valve (R156). -/
def State.captureArm (s : State) (v : Nat) : State := (s.setRf Reg.VSN_CAP_CTL 8 7 v).setBit Reg.VSN_CAP_CTL 0 true

/-- Clear every VSN counter, shot count and NOARR count on one CORE cycle (VSN_CTL.CCLR). -/
def State.vsnClear (s : State) : State :=
  (List.range 96).foldl (fun x v => x.setRf (Reg.VSN_VSTAT + 4 * v) 8 8 0)
    (((s.clearRegs Reg.VSN_JDROP 7).clearRegs Reg.VSN_CAP_MISS 1).clearRegs Reg.VSN_VSHOT 96)

/-! ### Meanings -/

/-- ARRIVAL (R142). -/
def execArrival (v : Fin 96) (samples : List Sample) : State → Out := actNow fun s => s.arrival v samples

/-- LEARN_UPDATE (R145). -/
def execLearnUpdate (dt : Nat) (v : Fin 96) : State → Out := fun s => act (s.learnWait dt v) (fun s => s.learnUpdate v) s

/-- JOURNAL_WRITE (R150). -/
def execJournalWrite (dt : Nat) (q : JournalIn) : State → Out := act dt fun s => s.journalWrite q

/-- CAPTURE_DONE (R157). -/
def execCaptureDone (dt : Nat) (engine : Fin 4) (samples : List (BitVec 12)) : State → Out := act dt fun s => s.captureDone engine samples

/-- DELAY_WRITE (R148): a software write to an entry of the live table, or to a register of FAILED marks (`mark`). -/
def execDelayWrite (mark : Bool) (n : Nat) (w : Word) : State → Out :=
  actNow fun s => if mark then s.writeFailed (n % 3) w else (s.writeDelay (n % 2976) w).2

/-- SAVED_WRITE (R149). -/
def execSavedWrite (mark : Bool) (n : Nat) (w : Word) : State → Out :=
  actNow fun s => if mark then s.writeSFailed (n % 3) w else (s.writeSaved (n % 2976) w).2

/-- RESET_ALL (R149). -/
def execResetAll : State → Out := actNow fun s => (s.ldOps { LdOps.none with resetAll := true } 0).2

/-- RESET_V (R149). -/
def execResetV (v : Fin 96) : State → Out := actNow fun s => ((s.setRf Reg.VSN_LD_CTL 8 7 v).ldOps { LdOps.none with resetV := true } v).2

/-- SAVE (R149). -/
def execSave : State → Out := actNow fun s => (s.ldOps { LdOps.none with save := true } 0).2

/-- RESTORE (R149). -/
def execRestore : State → Out := actNow fun s => (s.ldOps { LdOps.none with restore := true } 0).2

/-- REFSET (R149). -/
def execRefset : State → Out := actNow fun s => (s.ldOps { LdOps.none with refset := true } 0).2

/-- JOURNAL_RESTART (R154). -/
def execJournalRestart : State → Out := actNow fun s => s.journalRestart.2

/-- CAPTURE_ARM (R156). -/
def execCaptureArm (v : Fin 96) : State → Out := actNow fun s => s.captureArm v

/-- VSN_CCLR (R154). -/
def execVsnCclr : State → Out := actNow State.vsnClear

end Sys2Proof.Machine
end

