-- ==== Sys2Proof/Machine/Drive.lean ====
section
/-! DEFINITION. Switches, phases of a shot, chopping, release, enables, proportional banks (06; safe states of 08 R163). -/

namespace Sys2Proof.Machine

/-! ### Switches (R106, R107) -/

/-- Set or clear bit `i` of a bit vector. -/
def bvPut {n : Nat} (x : BitVec n) (i : Nat) (b : Bool) : BitVec n :=
  if b then x ||| (1#n <<< i) else x &&& ~~~(1#n <<< i)

/-- Open LS, FW and the clamp of a channel. -/
def State.openCh (s : State) (v : Nat) : State :=
  { s with drv := { s.drv with ls := bvPut s.drv.ls v false, fw := bvPut s.drv.fw v false, clamp := bvPut s.drv.clamp v false } }

/-- Close LS of a channel; FW and the clamp have opened first (R107). -/
def State.closeLs (s : State) (v : Nat) : State :=
  let s1 := s.openCh v
  { s1 with drv := { s1.drv with ls := bvPut s1.drv.ls v true, lastClose := storeSet (fun _ => 0) s1.drv.lastClose v (s1.clk.now + 1) } }

/-- Close FW of a channel; LS has opened first (R107). -/
def State.closeFw (s : State) (v : Nat) : State :=
  let s1 := s.openCh v
  { s1 with drv := { s1.drv with fw := bvPut s1.drv.fw v true } }

/-- LS of a channel limits its drain to `q` quarter volts (R119, R121). -/
def State.clampLs (s : State) (v q : Nat) : State :=
  let s1 := s.openCh v
  { s1 with drv := { s1.drv with clamp := bvPut s1.drv.clamp v true, clampV := storeSet (fun _ => 0) s1.drv.clampV v q } }

/-- Close HB of a bank for a channel. -/
def State.closeHb (s : State) (b v : Nat) : State :=
  { s with drv := { s.drv with hb := bvPut s.drv.hb b true, hbFor := storeSet (fun _ => 0) s.drv.hbFor b (v + 1) } }

/-- Open HB of a bank. -/
def State.openHb (s : State) (b : Nat) : State :=
  { s with drv := { s.drv with hb := bvPut s.drv.hb b false, hbFor := storeSet (fun _ => 0) s.drv.hbFor b 0 } }

/-- The channel for which a bank's HB is closed, plus one; 0 when it is open. -/
def State.hbHolder (s : State) (b : Nat) : Nat := storeGet (fun _ => 0) s.drv.hbFor b

/-- Open HB of a valve's bank if it is closed for that valve. -/
def State.dropHb (s : State) (v : Nat) : State := if s.hbHolder (bankOf v) = v + 1 then s.openHb (bankOf v) else s

/-! ### Channel and bank states (R131), safe states (08 R163) -/

/-- State of a channel: 0 OFF, 1 ON, 2 DISABLING, 3 PENDING. -/
def State.chSt (s : State) (v : Nat) : Nat := s.rf (Reg.BNK_CHST + 4 * (v / 16)) (2 * (v % 16)) 2

/-- Set the state of a channel. -/
def State.setChSt (s : State) (v n : Nat) : State := s.setRf (Reg.BNK_CHST + 4 * (v / 16)) (2 * (v % 16)) 2 n

/-- State of a bank. -/
def State.bkSt (s : State) (b : Nat) : Nat := s.rf Reg.BNK_BKST (2 * b) 2

/-- Set the state of a bank. -/
def State.setBkSt (s : State) (b n : Nat) : State := s.setRf Reg.BNK_BKST (2 * b) 2 n

/-- A channel in its safe state: OC, SHORT or RELX latched. -/
def State.chSafe (s : State) (v : Nat) : Bool := s.bit (Reg.BNK_CHFLT + 4 * v) 0 || s.bit (Reg.BNK_CHFLT + 4 * v) 1 || s.bit (Reg.BNK_CHFLT + 4 * v) 5

/-- A bank in its safe state: HB, HS, VLS undervoltage, a die fault, or a channel STUCKON. -/
def State.bkSafe (s : State) (b : Nat) : Bool := s.rf (Reg.BNK_BKFLT + 4 * b) 0 5 != 0

/-- Show the safe states of a bank and its channels in the SAFE bits, and whether a channel is STUCKON. -/
def State.showSafe (s : State) (b : Nat) : State :=
  let stk := (valvesOf b).any fun v => s.bit (Reg.BNK_CHFLT + 4 * v) 3
  let s1 := s.setBit (Reg.BNK_BKFLT + 4 * b) 4 stk
  let s2 := s1.setBit (Reg.BNK_BKFLT + 4 * b) 5 (s1.bkSafe b)
  (valvesOf b).foldl (fun x v => x.setBit (Reg.BNK_CHFLT + 4 * v) 6 (x.chSafe v)) s2

/-- Whether no switch of the drive path closes: in BOOT, in SAFE, after the last gasp, and in DRAINING once a fault has called for the device's safe state (08 R163; 18 R362). -/
def State.switchesHeld (s : State) : Bool := s.sys.dev == .safe || s.sys.dev == .boot || s.sys.gaspDone || (s.sys.dev == .draining && s.sys.swSafe)

/-- HS of every bank: closed while the bank is not OFF, has a role, is not in a safe state, and nothing holds the switches open (R106, R114, R135). -/
def State.refreshHs (s : State) : State :=
  let hs := (List.range 12).foldl (fun (x : BitVec 12) b =>
    bvPut x b (s.bkSt b != 0 && s.bankRole b != 0 && !s.bkSafe b && !s.switchesHeld)) 0
  { s with drv := { s.drv with hs := hs } }

/-- Whether a channel's switches may close at all: not in a safe state, DRV_EN high, the device's switches not held open (08 R163, R164). -/
def State.canDrive (s : State) (v : Nat) : Bool := !s.chSafe v && !s.bkSafe (bankOf v) && !s.sys.drvEnLow && !s.switchesHeld

/-- Whether a proportional channel regulates its current: its bank has role 2, both are ON, and it is not dry (R127). -/
def State.propActive (s : State) (v : Nat) : Bool :=
  s.bankRole (bankOf v) == 2 && s.chSt v == 1 && s.bkSt (bankOf v) == 1 && !s.bankDry (bankOf v)
    && (s.sys.dev == .ready || s.sys.dev == .armed || s.sys.dev == .draining)

/-- The profile bytes a proportional bank uses (R111). -/
def State.pprof (s : State) (b : Nat) : List Byte := s.prof (s.bankByte b 4 1)

/-- The tick, plus one, at which a proportional channel's release began; 0 when none runs. -/
def State.propRel (s : State) (v : Nat) : Nat := storeGet (fun _ => 0) s.drv.relFrom v

/-- Whether LS conducts or clamps, or FW conducts, in a channel. -/
def State.chClosed (s : State) (v : Nat) : Bool := s.drv.ls.getLsbD v || s.drv.fw.getLsbD v || s.drv.clamp.getLsbD v

/-- Whether a proportional channel carries current: LS or FW conducts, or its release runs. -/
def State.propOn (s : State) (v : Nat) : Bool := s.bankRole (bankOf v) == 2 && (s.chClosed v || s.propRel v != 0)

/-- Whether current may flow in a channel: a shot runs on it, or it is a proportional channel that conducts or releases. -/
def State.conducting (s : State) (v : Nat) : Bool :=
  (match s.runningShot v with
   | some h => !h.dry
   | none => false) || s.propOn v

/-! ### Supplies as the dies sense them -/

/-- Set the supply of a bank as its monitor holds it, unit 0.25 V: slot 82 + b (01 R17). -/
def State.setVls (s : State) (b q : Nat) : State := s.putVal (82 + b) ((q : Int) * 16384)

/-- The supply of a bank as its monitor holds it, unit 0.25 V. -/
def State.vls (s : State) (b : Nat) : Nat := ((s.slot (82 + b)).val.toNat) / 16384

/-- The current VBST, unit 0.25 V. -/
def State.vbst (s : State) : Nat := s.rf Reg.PRF_VBST 0 10

/-- VBST_SET, unit 0.25 V. -/
def State.vbstSet (s : State) : Nat := 2 * s.rf Reg.PRF_VBST_SET 0 8

/-- The voltage of a bank's node, unit 0.25 V: VBST while HB is closed, else VLSb (R114). -/
def State.nodeV (s : State) (b : Nat) : Nat := if s.drv.hb.getLsbD b then s.vbst else s.vls b

/-- The current a channel's comparators sense, in mA, below `bound`: as reported, or a free value (assumption 10). -/
def State.sense (s : State) (cur : Option Nat) (bound : Nat) : Nat × State :=
  match cur with
  | some c => (c, s)
  | none => (s.draw.1.toNat % bound, s.draw.2)

/-! ### Fast decay and clamps (R119, R121) -/

/-- Whether every fast decay runs as a clamp: ABSORB of R121 or OV1 of R164. -/
def State.absorbing (s : State) : Bool := s.bit Reg.PRF_STAT 1 || s.bit Reg.PRF_VFLT 0

/-- The clamp voltage of REL_MODE 2, unit 0.25 V: the larger of V_CLAMP and VLSb + 5 V (R119). -/
def State.clampVolt (s : State) (p : List Byte) (b : Nat) : Nat := max (4 * pVClamp p) (s.vls b + 20)

/-- Whether a release of a profile is fast: REL_MODE 0, or a clamp above VBST, which acts as REL_MODE 0 (R119). -/
def State.relFast (s : State) (p : List Byte) (b : Nat) : Bool := pRelMode p == 0 || (pRelMode p == 2 && decide (s.vbst < s.clampVolt p b))

/-- Let a channel's current decay fast into VBST, or as a clamp at VBST_SET − 2 V while R121 acts, which is counted. -/
def State.fastDecay (s : State) (v : Nat) : State :=
  if s.absorbing then (s.clampLs v (s.vbstSet - 8)).count (Reg.PRF_BSTTO_CNT + 8) else s.openCh v

/-- Let a channel's current decay as the REL_MODE of a profile selects (R119); where no switch may close, every switch opens (08 R163). -/
def State.relSwitches (s : State) (v : Nat) (p : List Byte) : State :=
  if !s.canDrive v then s.openCh v
  else if s.relFast p (bankOf v) then s.fastDecay v
  else if pRelMode p = 1 then s.closeFw v
  else s.clampLs v (s.clampVolt p (bankOf v))

/-- Start the decay of a step (R114): fast, with ABSORB where it runs as a clamp, or slow through FW. -/
def State.stepDecay (s : State) (h : Shot) (fast : Bool) : State × Shot :=
  if fast then (s.fastDecay h.req.valve, { h with dflags := orIf h.dflags 4 s.absorbing }) else (s.closeFw h.req.valve, h)

/-- Whether a channel's release or step decays fast now: no switch of it conducts though it may. -/
def State.decaysFast (s : State) (v : Nat) : Bool :=
  s.canDrive v && !s.chClosed v &&
    (match s.runningShot v with
     | some h => !h.dry && (h.stepping || h.phase == .release)
     | none => s.propRel v != 0 && !s.bankDry (bankOf v))

/-- Whether a channel clamps because of R121. -/
def State.absorbClamped (s : State) (v : Nat) : Bool :=
  s.drv.clamp.getLsbD v &&
    (match s.runningShot v with
     | some h => h.stepping || s.relFast h.executed (bankOf v)
     | none => s.relFast (s.pprof (bankOf v)) (bankOf v))

/-- The fast decays that run become clamps, each shot concerned carrying ABSORB (R121). -/
def State.toClamps (s : State) : State :=
  (List.range 96).foldl (fun x v =>
    if x.decaysFast v then
      let x1 := (x.clampLs v (x.vbstSet - 8)).count (Reg.PRF_BSTTO_CNT + 8)
      match x1.runningShot v with
      | some h => x1.putShot { h with dflags := orBit h.dflags 4 }
      | none => x1
    else x) s

/-- The clamps of R121 return to fast decay. -/
def State.toFast (s : State) : State := (List.range 96).foldl (fun x v => if x.absorbClamped v then x.openCh v else x) s

/-! ### The phases (R114 to R116) -/

/-- The first handed shot by open instant among those that satisfy a test. -/
def State.firstShot (s : State) (p : Shot → Bool) (key : Shot → Int) : Option Shot := minKey (fun h => [key h, h.req.valve]) (s.trn.shots.filter p)

/-- Whether a shot boosts as planned: decision BOOST or WAIT with a boost phase. -/
def Shot.boosts (h : Shot) : Bool := (h.decision == .boost || h.decision == .wait) && pTBst h.own != 0

/-- HB closes for a boosting channel: the bank's other non-boosted openings without an arrival carry NBOOST (07 R146). -/
def State.nboost (s : State) (b v : Nat) : State :=
  { s with trn := { s.trn with shots := s.trn.shots.map fun x =>
      if x.req.valve % 12 = b ∧ x.req.valve ≠ v ∧ x.arr.isNone = true ∧ pTBst x.executed = 0 ∧ (x.phase = Phase.peak ∨ x.phase = Phase.hold) then
        { x with dflags := orBit x.dflags 11 }
      else x } }

/-- Close HB of a bank for a boosting channel, marking NBOOST. -/
def State.boostHb (s : State) (b v : Nat) : State := (s.closeHb b v).nboost b v

/-- HB_LEAD: the die commands HB closed 4.0 µs before the open instant of a boosted shot (R115), unless HB is held (R124) or nothing may close. -/
def State.hbLead (s : State) : State :=
  match s.firstShot (fun h => h.phase == .handed && h.boosts && !h.hbLead && !h.dry) (·.openAt) with
  | none => s
  | some h =>
    let s1 := s.reachNt (h.openAt - 4000)
    let b := bankOf h.req.valve
    let s2 := s1.putShot { h with hbLead := true }
    if s2.canDrive h.req.valve && s2.hbHolder b == 0 && s2.chSt h.req.valve == 1 && s2.bkSt b == 1 && !s2.bit (Reg.BNK_CHFLT + 4 * h.req.valve) 4 then
      s2.boostHb b h.req.valve
    else s2

/-- Inhibit a shot (R132, R133): counted, in the bank's episode; `bits` are further DFLAGS bits. -/
def State.inhibit (s : State) (h : Shot) (bits : List Nat) : State :=
  let b := bankOf h.req.valve
  ((s.withhold h (5 :: bits)).count Reg.BNK_INH_CNT).episode 0x0401 b (by1 b ++ by1 h.req.valve)

/-- When a channel or its bank was enabled again before its release had finished: the instant before which no shot opens, or `none` inside where the release still runs (R134). -/
def State.reopenAt (s : State) (v : Nat) : Option (Option Int) :=
  let ready (r : Option Reopen) : Option (Option Int) := r.map fun x => x.endAt.map fun t => gridUp (t + 1000 * (x.minOff : Nat))
  let a := ready (storeGet (fun _ => none) s.drv.chReopen v)
  let b := ready (storeGet (fun _ => none) s.drv.bkReopen (bankOf v))
  match a, b with
  | none, x => x
  | x, none => x
  | some none, _ => some none
  | _, some none => some none
  | some (some t), some (some u) => some (some (max t u))

/-- A shot met a PENDING channel: shift it to `t` within CMD_LATE_TOL of its planned open instant, its release start staying, or withhold it as late (R134). A lead of HB for the earlier instant is withdrawn (R115). -/
def State.pendShot (s0 : State) (h : Shot) (t : Int) : State :=
  let s := s0.dropHb h.req.valve
  let sh := t - h.planAt
  if sh ≤ s.lateTol ∧ t < h.relInst then
    let s1 := s.putShot { h with phase := .handed, hbLead := false, openAt := t, pendSh := sh.toNat, dflags := orBit h.dflags 6 }
    if h.pendSh = 0 then s1.count Reg.BNK_PEND_CNT else s1
  else
    ((s.withhold { h with pflags := orBit h.pflags pLATE } [5]).count Reg.BNK_PLATE_CNT).raise 0x0402
      (by1 h.req.valve ++ by2 (sh.toNat / 1000))

/-- A shot's capture engine learns that it has opened, so that its samples are counted from here (07 R155). -/
def State.openEngine (s : State) (h : Shot) : State :=
  match h.capture with
  | none => s
  | some i =>
    match s.vsn.engines.getD i none with
    | some e => if e.shot = h.id then s.setEngine i (some { e with openTick := some s.clk.now }) else s
    | none => s

/-- A shot opens (R12, R114): fire strobe, LS, and its first phase. `fb`: the fallback variant runs. On a dry bank no switch moves, nothing boosts, and the record's VBST and TBST stay 0 (02 R45; 07 R151). -/
def State.fire (s : State) (h0 : Shot) (fb : Bool) : State :=
  let v := h0.req.valve
  let b := bankOf v
  let xp := if fb ∨ h0.decision = .fallback then pFallback h0.own else h0.req.prof
  let p := if fb ∨ h0.decision = .fallback then h0.fb else h0.own
  let boost := decide (pTBst p ≠ 0) && !h0.dry
  let ph : Phase := if boost then .boost else if pTPk p ≠ 0 then .peak else .hold
  let h := { h0 with phase := ph, xprof := xp, openTick := s.clk.now, vbst := if h0.dry then 0 else s.vbst,
                      dflags := orIf h0.dflags 11 (!boost && !h0.dry && s.hbHolder b != 0 && s.hbHolder b != v + 1) }
  let s1 := { s.putShot h with drv := { s.drv with strobe := bvPut s.drv.strobe b true } }
  if h.dry then s1
  else
    let s2 := if boost ∧ s1.hbHolder b = 0 then s1.boostHb b v else if boost then s1 else s1.dropHb v
    (s2.openEngine h).closeLs v

/-- The comparisons at the open instant of a shot that fires: the boost-timeout fault, VBST_MIN, HB held (R123, R124; 08 R164). -/
def State.openChecks (s : State) (h : Shot) (v b : Nat) : State :=
  if !h.boosts then s.fire h false
  else if s.bit (Reg.BNK_CHFLT + 4 * v) 4 then (s.dropHb v).fire { h with dflags := orBit h.dflags 15 } true
  else if s.vbst < 2 * pVMin h.own then
    (((s.dropHb v).fire { h with dflags := orBit h.dflags 0 } true).count (Reg.PRF_VLOW_CNT + 4 * b)).episode 0x0501 b
      (by1 b ++ by1 v ++ by2 s.vbst)
  else if s.hbHolder b ≠ 0 ∧ s.hbHolder b ≠ v + 1 then
    ((s.fire { h with dflags := orBit h.dflags 1 } true).count (Reg.PRF_BSTTO_CNT + 0xC)).raise 0x0503 (by1 b ++ by1 v)
  else s.fire h false

/-- OPEN_INSTANT: the shot that opens first reaches its open instant (R12, R123, R124, R133, R134; 08 R161, R164). Of one withheld before, the record is due there. -/
def State.openInstant (s : State) : State :=
  match s.firstShot (fun h => h.phase == .handed || h.phase == .withheld) (·.openAt) with
  | none => s
  | some h =>
    let s1 := s.reachNt h.openAt
    let v := h.req.valve
    let b := bankOf v
    if h.phase = .withheld then (s1.dropHb v).retire h
    else if h.decision = .inhibited then s1.inhibit h []
    else if s1.chSt v = 0 ∨ s1.chSt v = 2 ∨ s1.bkSt b = 0 ∨ s1.bkSt b = 2 then (s1.dropHb v).inhibit h []
    else if h.dry then s1.fire h false
    else if s1.canDrive v = false then (s1.dropHb v).withhold h [5, 15]
    else
      match s1.reopenAt v with
      | some none => (s1.dropHb v).putShot { h with phase := .pending, hbLead := false }
      | some (some t) =>
        if h.openAt < t then s1.pendShot h t else s1.openChecks h v b
      | none => s1.openChecks h v b

/-- The current a phase regulates, in mA (R114). -/
def Shot.iset (h : Shot) : Nat := 4 * (if h.phase = .peak then pIPk h.executed else pIHld h.executed)

/-- Leave boost or peak for the next phase that has not ended, the sensed current being `cur` mA (R114, R116): above the new phase's upper threshold a step decays first, at it the off-time begins, below it LS stays as it is. -/
def State.nextPhase (s : State) (h : Shot) (afterBoost : Bool) (cur : Nat) : State :=
  let p := h.executed
  let toPeak := afterBoost && decide (pTPk p ≠ 0) && decide (s.clk.now < h.openTick + usTicks (pTPk p))
  let h1 := { h with phase := if toPeak then .peak else .hold }
  let top := h1.iset + 2 * pBand p
  if h.dry ∨ cur < top then s.putShot { h1 with stepping := false }
  else if cur = top then (s.closeFw h.req.valve).putShot { h1 with stepping := false }
  else
    let r := s.stepDecay { h1 with stepping := true } (if afterBoost then pDecPk p else pDecHld p)
    r.1.putShot r.2

/-- BOOST_END: the boost of a channel ends, on I_BST now, or on T_BST_MAX with BSTTO if that instant is reached (R115); the current is then the one sensed, below I_BST. -/
def State.boostEnd (dt : Nat) (s : State) (x : Sensed) : State :=
  let v : Nat := x.v
  match s.runningShot v with
  | none => s.advance dt
  | some h =>
    if h.phase ≠ .boost then s.advance dt
    else
      let limit := h.openTick + usTicks (pTBst h.executed)
      let s1 := s.advance (min dt (limit - s.clk.now))
      let timeout := decide (limit ≤ s1.clk.now)
      let a := Reg.BNK_CHFLT + 4 * v
      let ibst := 4 * pIBst h.executed
      let h1 := { h with tbst := (s1.clk.now - h.openTick) / 125, dflags := orIf h.dflags 2 timeout }
      let s2 := if timeout then (s1.count Reg.PRF_BSTTO_CNT).setRf a 8 4 (sat 15 (s1.rf a 8 4 + 1)) else s1.setRf a 8 4 0
      let r := if timeout then s2.sense x.cur (max 1 ibst) else (max ibst (x.cur.getD ibst), s2)
      (r.2.dropHb v).nextPhase h1 true r.1

/-- PEAK_END: the peak phase of a channel ends at open instant + T_PK and hold begins (R114). -/
def State.peakEnd (s : State) (x : Sensed) : State :=
  match s.runningShot x.v with
  | none => s
  | some h =>
    if h.phase = .peak then
      let s1 := s.reachTick (h.openTick + usTicks (pTPk h.executed))
      let r := s1.sense x.cur 5000
      r.2.nextPhase h false r.1
    else s

/-! ### Set currents of proportional channels (R128, R129) -/

/-- The set current with dither, unit 4 mA, clamped to 0 … 1,023 (R129). -/
def State.propDithered (s : State) (v : Nat) : Nat :=
  let b := bankOf v
  let i : Int := s.rf (Reg.BNK_PSET + 4 * v) 0 10
  let a : Int := if s.bankByte b 6 1 = 0 then 0 else s.bankByte b 5 1
  (clampI 0 1023 (if s.drv.dithNeg.getLsbD v then i - a else i + a)).toNat

/-! ### Chopping (R117) -/

/-- What a channel regulates: its set current in mA, and the profile whose chopping fields it uses; none where it does not chop. -/
def State.chopAt (s : State) (v : Nat) : Option (Nat × List Byte) :=
  match s.runningShot v with
  | some h => if !h.dry && (h.phase == .peak || h.phase == .hold) then some (h.iset, h.executed) else none
  | none => if s.propActive v then some (4 * s.propDithered v, s.pprof (bankOf v)) else none

/-- A step of a channel ends: the off-time follows (R114, R117). -/
def State.endStep (s : State) (v : Nat) : State :=
  match s.runningShot v with
  | some h => if h.stepping then (s.closeFw v).putShot { h with stepping := false } else s
  | none => s

/-- LS of a chopping channel closes, no sooner than 1/CHOP_FMAX after its last closing (R117). -/
def State.chopClose (s : State) (v : Nat) (p : List Byte) : State :=
  if s.drv.ls.getLsbD v then s
  else
    let last := storeGet (fun _ => 0) s.drv.lastClose v
    (if last = 0 then s else s.reachTick (last - 1 + ceilDiv 250000 (max 1 (pFMax p)))).closeLs v

/-- LS of a chopping channel opens, no sooner than its turn-on edge and the blanking after its closing, and FW conducts (R117); during a step the decay goes on. -/
def State.chopOpen (s : State) (v : Nat) (p : List Byte) : State :=
  let stepping := match s.runningShot v with
    | some h => h.stepping
    | none => false
  if stepping then s
  else
    (if s.drv.ls.getLsbD v then s.reachTick (storeGet (fun _ => 0) s.drv.lastClose v - 1 + onTicks p (s.nodeV (bankOf v))) else s).closeFw v

/-- CHOP_THRESHOLD: the sensed current of a chopping channel is `cur` mA: a step ends once it is no longer above the upper threshold; at or below I_set − CHOP_BAND/2 LS closes, at or above I_set + CHOP_BAND/2 it opens (R114, R117). -/
def State.chop (s : State) (v cur : Nat) : State :=
  match s.chopAt v with
  | none => s
  | some (i, p) =>
    if s.canDrive v then
      let s1 := if cur ≤ i + 2 * pBand p then s.endStep v else s
      if cur + 2 * pBand p ≤ i then s1.chopClose v p
      else if i + 2 * pBand p ≤ cur then s1.chopOpen v p
      else s1
    else s

/-! ### Release (R119 to R121) -/

/-- A shot is over: its strobe falls, and its record is due (07 R150). -/
def State.finish (s : State) (h : Shot) : State :=
  { s with drv := { s.drv with strobe := bvPut s.drv.strobe (bankOf h.req.valve) false } }.retire h

/-- The release of a shot begins on this tick with its profile's REL_MODE. A dry shot carries no current and is over (02 R45). -/
def State.beginRelease (s : State) (h : Shot) : State :=
  let v := h.req.valve
  let h1 := { h with phase := .release, relStart := s.clk.now, stepping := false
                     tbst := if h.phase = .boost then (s.clk.now - h.openTick) / 125 else h.tbst }
  if h.dry then s.finish h1
  else
    let s1 := s.dropHb v
    let absorbed := s1.canDrive v && s1.relFast h.executed (bankOf v) && s1.absorbing
    (s1.relSwitches v h.executed).putShot { h1 with dflags := orIf h1.dflags 4 absorbed }

/-- RELEASE_START: the shot running on a valve reaches its release start (R91, R114). -/
def State.releaseStart (s : State) (v : Nat) : State :=
  match s.runningShot v with
  | none => s
  | some h => if h.phase = .release then s else (s.reachNt h.relInst).beginRelease h

/-- Forget the earlier release of a channel, whose re-enabling R134 waited for. -/
def State.noReopen (s : State) (v : Nat) : State := { s with drv := { s.drv with chReopen := storeSet (fun _ => none) s.drv.chReopen v none } }

/-- Forget the earlier release of a bank. -/
def State.noBkReopen (s : State) (b : Nat) : State := { s with drv := { s.drv with bkReopen := storeSet (fun _ => none) s.drv.bkReopen b none } }

/-- Evaluate a shot that waited for a release end (R134). -/
def State.wakeShot (s : State) (h : Shot) : State :=
  match s.reopenAt h.req.valve with
  | some (some t) => if h.openAt < t then s.pendShot h t else s.putShot { h with phase := .handed }
  | some none => s
  | none => s.putShot { h with phase := .handed }

/-- The shots of some valves that wait for a release end. -/
def State.waitingShots (s : State) (vs : List Nat) : List Shot := s.trn.shots.filter fun h => h.phase == .pending && vs.contains h.req.valve

/-- Evaluate the shots of some valves that waited for a release end (R134). -/
def State.wakePending (s : State) (vs : List Nat) : State := (s.waitingShots vs).foldl State.wakeShot s

/-- A bank's last release end: DISABLING becomes OFF, PENDING becomes ON; BNK_STATE is raised (R135). `m` is MIN_OFF of that release. -/
def State.bankRelease (s : State) (b m : Nat) : State :=
  if (valvesOf b).any s.conducting then s
  else if s.bkSt b = 2 then (((s.noBkReopen b).setBkSt b 0).refreshHs).raise 0x0403 (by1 b ++ by1 0)
  else if s.bkSt b = 3 then
    let s1 := { s.setBkSt b 1 with drv := { s.drv with bkReopen := storeSet (fun _ => none) s.drv.bkReopen b (some ⟨m, some (s.ntNs : Int)⟩) } }
    (s1.refreshHs.raise 0x0403 (by1 b ++ by1 1)).wakePending (valvesOf b)
  else s

/-- MIN_OFF of the release that runs on a channel (R134). -/
def State.relMinOff (s : State) (v : Nat) : Nat :=
  match s.runningShot v with
  | some h => pMinOff h.executed
  | none => pMinOff (s.pprof (bankOf v))

/-- A channel's release, of a profile with MIN_OFF `m`, has ended: the switches are open, DISABLING becomes OFF, PENDING becomes ON, and its bank follows (R119, R133, R134). -/
def State.chRelease (s : State) (v m : Nat) : State :=
  let s1 := s.openCh v
  let s2 := { s1 with drv := { s1.drv with relFrom := storeSet (fun _ => 0) s1.drv.relFrom v 0 } }
  let s3 :=
    if s2.chSt v = 2 then (s2.setChSt v 0).noReopen v
    else if s2.chSt v = 3 then
      ({ s2.setChSt v 1 with drv := { s2.drv with chReopen := storeSet (fun _ => none) s2.drv.chReopen v (some ⟨m, some (s2.ntNs : Int)⟩) } }).wakePending [v]
    else s2
  s3.bankRelease (bankOf v) m

/-- The release of a channel ends, below 20 mA or on T_REL_MAX with RELX (R119, R120). -/
def State.endRelease (s : State) (v : Nat) (relx : Bool) : State :=
  let m := s.relMinOff v
  match s.runningShot v with
  | some h =>
    if h.phase ≠ .release then s
    else
      let a := Reg.BNK_CHFLT + 4 * v
      let s1 := if relx then (s.count (Reg.PRF_BSTTO_CNT + 4)).setRf a 12 4 (sat 15 (s.rf a 12 4 + 1)) else s.setRf a 12 4 0
      (s1.finish { h with dflags := orIf h.dflags 3 relx }).chRelease v m
  | none => if s.propRel v = 0 then s else (if relx then s.count (Reg.PRF_BSTTO_CNT + 4) else s).chRelease v m

/-- The tick at which a channel's release reaches T_REL_MAX. -/
def State.relLimit (s : State) (v : Nat) : Nat :=
  match s.runningShot v with
  | some h => h.relStart + usTicks (pTRel h.executed)
  | none => s.propRel v - 1 + usTicks (pTRel (s.pprof (bankOf v)))

/-- Whether a channel is in release. -/
def State.releasing (s : State) (v : Nat) : Bool :=
  match s.runningShot v with
  | some h => h.phase == .release
  | none => s.propRel v != 0

/-- RELEASE_END: the sensed current falls below 20 mA `dt` ticks on, or T_REL_MAX comes first (R119). -/
def State.releaseEnd (dt : Nat) (s : State) (v : Nat) : State :=
  if s.releasing v then
    let s1 := s.advance (min dt (s.relLimit v - s.clk.now))
    s1.endRelease v (decide (s.relLimit v ≤ s1.clk.now))
  else s.advance dt

/-- RELX: the release reaches T_REL_MAX with current flowing (R120). -/
def State.relx (s : State) (v : Nat) : State :=
  if s.releasing v then (s.reachTick (s.relLimit v)).endRelease v true else s

/-! ### The boost rail (R121, R122) -/

/-- VBST as measured, unit 0.25 V: PRF_VBST, the lowest value, slot 81 and the INREG bit follow (R122; 01 R17). -/
def State.setVbst (s : State) (x : Nat) : State :=
  let n := sat 1023 x
  let set := s.rf Reg.PRF_VBST_SET 0 8
  let s1 := (s.setReg Reg.PRF_VBST (w32 n)).setReg Reg.PRF_VBST_LOWEST (w32 (min n (s.reg Reg.PRF_VBST_LOWEST).toNat))
  let inreg := decide (198 * set ≤ 100 * n) && decide (100 * n ≤ 202 * set) && set != 0
  (s1.setBit Reg.PRF_STAT 0 inreg).putVal 81 ((n : Int) * 16384)

/-- Whether the boost controller switches: it runs, and VBST does not lie above VBST_SET (R122). -/
def State.boostSwitches (s : State) : Bool := s.sys.boostOn && decide (s.vbst ≤ s.vbstSet)

/-- Whether BSTCS at `cs` mV has reached the current limit: BST_ILIM, raised from 0 over the first 20 ms of a start (R122; 18 R365). -/
def State.atIlim (s : State) (cs : Nat) : Bool := decide (s.sx 4 2 2 * min (msTicks 20) (s.clk.now - s.sys.boostStart) ≤ cs * msTicks 20)

/-- ILIM follows the controller's last switching cycle, once it has run one of BST_FSW: it ended on the limit where BSTCS, `cs` mV, reached it (R122). -/
def State.noteIlim (s : State) (cs : Nat) : State :=
  if s.boostSwitches && decide (s.sys.boostStart + ceilDiv 25000 (max 1 (s.sx 4 1 1)) ≤ s.clk.now) then s.setBit Reg.PRF_STAT 2 (s.atIlim cs) else s

/-- ABSORB follows VBST: above VBST_SET + 3 V fast decays run as clamps, below VBST_SET + 2 V they return to fast decay, unless OV1 still clamps them (R121; 08 R164). -/
def State.absorbTest (s : State) : State :=
  if s.vbstSet + 12 < s.vbst ∧ s.bit Reg.PRF_STAT 1 = false then
    ((s.setBit Reg.PRF_STAT 1 true).episode 0x0502 0 (by2 s.vbst)).toClamps
  else if s.vbst < s.vbstSet + 8 ∧ s.bit Reg.PRF_STAT 1 = true then
    let s1 := s.setBit Reg.PRF_STAT 1 false
    if s1.absorbing then s1 else s1.toFast
  else s

/-- A reading of the boost rail and all that follows it at once (R121, R122). -/
def State.readRail (s : State) (r : Rail) : State := ((s.setVbst r.vbst).noteIlim r.cs).absorbTest

/-! ### Enables (R131 to R135) -/

/-- A proportional channel's release begins: its current decays from now on (R127). -/
def State.propRelease (s : State) (v : Nat) : State :=
  let s1 := { s with drv := { s.drv with relFrom := storeSet (fun _ => 0) s.drv.relFrom v (s.clk.now + 1), olFrom := storeSet (fun _ => 0) s.drv.olFrom v 0 } }
  s1.relSwitches v (s1.pprof (bankOf v))

/-- The switches of a proportional channel open at once, its current decaying into VBST: safe states, dry banks (R130; 08 R163). -/
def State.propOpen (s : State) (v : Nat) : State :=
  if s.propOn v then
    let from_ := if s.propRel v = 0 then s.clk.now + 1 else s.propRel v
    let s1 := s.openCh v
    { s1 with drv := { s1.drv with relFrom := storeSet (fun _ => 0) s1.drv.relFrom v from_, olFrom := storeSet (fun _ => 0) s1.drv.olFrom v 0 } }
  else s.openCh v

/-- Begin the release of whatever conducts in a channel, and make the channel or bank wait for it. -/
def State.cutChannel (s : State) (v : Nat) : State :=
  match s.runningShot v with
  | some h => if h.phase = .release ∨ h.dry then s else s.beginRelease { h with relAt := some (max h.openAt (s.ntNs : Int)) }
  | none => if s.propOn v && s.propRel v == 0 then s.propRelease v else s

/-- The shots of some valves that wait for a release end find their channel or bank disabled again, and do not fire (R133; DESIGN CHOICE, assumption 64). -/
def State.dropWaiting (s : State) (vs : List Nat) : State := (s.waitingShots vs).foldl (fun x h => x.inhibit h []) s

/-- Clear a channel's enable (R133). -/
def State.chDisable (s : State) (v : Nat) : State :=
  if s.bankRole (bankOf v) = 0 then s
  else if s.chSt v = 1 then
    if s.conducting v then ((s.noReopen v).cutChannel v).setChSt v 2 else (s.noReopen v).setChSt v 0
  else if s.chSt v = 3 then ((s.noReopen v).setChSt v 2).dropWaiting [v]
  else s

/-- Set a channel's enable (R134). -/
def State.chEnable (s : State) (v : Nat) : State :=
  if s.bankRole (bankOf v) = 0 then s
  else if s.chSt v = 0 then s.setChSt v 1
  else if s.chSt v = 2 then
    { s.setChSt v 3 with drv := { s.drv with chReopen := storeSet (fun _ => none) s.drv.chReopen v (some ⟨s.relMinOff v, none⟩) } }
  else s

/-- CHANNEL_ENABLE_WRITE: BNK_CHENk takes a new value, each changed bit acting on its valve (R133, R134). -/
def State.writeChen (s : State) (k : Nat) (w : Word) : State :=
  let old := s.reg (Reg.BNK_CHEN + 4 * k)
  (List.range 32).foldl (fun x j =>
    if bitOf w j == bitOf old j then x else if bitOf w j then x.chEnable (32 * k + j) else x.chDisable (32 * k + j))
    (s.setReg (Reg.BNK_CHEN + 4 * k) w)

/-- Clear a bank's enable (R135). -/
def State.bkDisable (s : State) (b : Nat) : State :=
  if s.bankRole b = 0 then s
  else if s.bkSt b = 1 then ((valvesOf b).foldl State.cutChannel (s.noBkReopen b) |>.setBkSt b 2).bankRelease b 0
  else if s.bkSt b = 3 then ((s.noBkReopen b).setBkSt b 2).dropWaiting (valvesOf b)
  else s

/-- Set a bank's enable (R135). M of a bank that is still DISABLING is the MIN_OFF of its last release, known when that ends (DEDUCED, assumption 65). -/
def State.bkEnable (s : State) (b : Nat) : State :=
  if s.bankRole b = 0 then s
  else if s.bkSt b = 0 then ((s.setBkSt b 1).refreshHs).raise 0x0403 (by1 b ++ by1 1)
  else if s.bkSt b = 2 then { s.setBkSt b 3 with drv := { s.drv with bkReopen := storeSet (fun _ => none) s.drv.bkReopen b (some ⟨0, none⟩) } }
  else s

/-- BANK_ENABLE_WRITE: BNK_BKEN takes a new value (R135). -/
def State.writeBken (s : State) (w : Word) : State :=
  let old := s.reg Reg.BNK_BKEN
  (List.range 12).foldl (fun x b => if bitOf w b == bitOf old b then x else if bitOf w b then x.bkEnable b else x.bkDisable b)
    (s.setReg Reg.BNK_BKEN (w32 (fld w 0 12)))

/-- No proportional channel of a dry bank drives current (R130). -/
def State.dryOpen (s : State) : State :=
  (List.range 96).foldl (fun x v => if x.bankRole (bankOf v) = 2 ∧ x.bankDry (bankOf v) = true ∧ x.chClosed v = true then x.propOpen v else x) s

/-- BANK_DRY_WRITE: BNK_DRY takes a new value; it acts on shots freezing from now on (R130). -/
def State.writeDry (s : State) (w : Word) : State := (s.setReg Reg.BNK_DRY (w32 (fld w 0 12))).dryOpen

/-! ### Proportional channels (R127 to R129) -/

/-- Set current of a proportional channel from its source slot: the value in A clamped to 0 … PROP_IMAX and rounded to 4 mA, ties toward +∞; PROP_ISAFE while COND is not 0 (R128). -/
def State.propCurrent (s : State) (v : Nat) (src : Option Nat) : Nat :=
  let b := bankOf v
  match src with
  | none => s.bankByte b 10 2
  | some n =>
    let t := s.slot n
    if t.cond ≠ 0 then s.bankByte b 10 2
    else
      let imax := s.bankByte b 8 2
      (clampI 0 imax (divRound (250 * t.val.toInt) 65536)).toNat

/-- The open-load test of a proportional channel counts from its first set current above 100 mA (08 R164). -/
def State.noteOl (s : State) (v : Nat) : State :=
  if s.propActive v then
    if storeGet (fun _ => 0) s.drv.olFrom v = 0 ∧ 100 < 4 * s.rf (Reg.BNK_PSET + 4 * v) 0 10 then
      { s with drv := { s.drv with olFrom := storeSet (fun _ => 0) s.drv.olFrom v (s.clk.now + 1) } }
    else s
  else { s with drv := { s.drv with olFrom := storeSet (fun _ => 0) s.drv.olFrom v 0 } }

/-- Every proportional channel reads its source slot (R128). `route` gives the source slot a sink names. -/
def State.propUpdate (s : State) (route : Nat → Option Nat) : State :=
  (List.range 96).foldl (fun x v =>
    if x.bankRole (bankOf v) = 2 then (x.setReg (Reg.BNK_PSET + 4 * v) (w32 (x.propCurrent v (route v)))).noteOl v else x) s

/-- The number of half dither periods, 1 / (2 · DIT_F · 10 Hz) each, that have passed since the dither's phase restarted (R129). -/
def State.dithHalves (s : State) (b : Nat) : Nat := (s.clk.now - s.drv.dithFrom) * s.bankByte b 6 1 / 12500000

/-- The sign of a channel's dither and the tick of its next change follow from when the phase restarted (R129). -/
def State.dithSet (s : State) (v : Nat) : State :=
  let k := s.dithHalves (bankOf v)
  { s with drv := { s.drv with dithNeg := bvPut s.drv.dithNeg v (k % 2 == 1)
                               dithNext := storeSet (fun _ => 0) s.drv.dithNext v (s.drv.dithFrom + ceilDiv (12500000 * (k + 1)) (s.bankByte (bankOf v) 6 1)) } }

/-- Whether a channel's set current is dithered (R129). -/
def State.dithered (s : State) (v : Nat) : Bool := s.bankRole (bankOf v) == 2 && s.bankByte (bankOf v) 6 1 != 0

/-- DITHER_EDGE: the dither of a proportional channel changes sign at its half period (R129). -/
def State.ditherEdge (s : State) (v : Nat) : State := if s.dithered v then (s.reachTick (storeGet (fun _ => 0) s.drv.dithNext v)).dithSet v else s

/-- The dither of every proportional channel counts from tick `n`; a channel without dither has none due (R129). -/
def State.ditherFrom (s : State) (n : Nat) : State :=
  (List.range 96).foldl (fun x v => if x.dithered v then x.dithSet v else x)
    { s with drv := { s.drv with dithFrom := n, dithNeg := 0, dithNext := [] } }

/-- The dither's phase restarts in every proportional channel at an NT second (R129). -/
def State.ditherRestart (s : State) : State := s.ditherFrom s.clk.now

/-- A load gives every proportional channel the dither's phase that counts from the NT second under way (R129). -/
def State.ditherLoad (s : State) : State := s.ditherFrom (s.clk.now - s.ntSub * 2 ^ 32 / max 1 s.clk.inc)

/-! ### Meanings -/

/-- HB_LEAD (R115). -/
def execHbLead : State → Out := actNow State.hbLead

/-- OPEN_INSTANT (01 R12). -/
def execOpenInstant : State → Out := actNow State.openInstant

/-- BOOST_END (R115). -/
def execBoostEnd (dt : Nat) (x : Sensed) : State → Out := actNow fun s => s.boostEnd dt x

/-- PEAK_END (R114). -/
def execPeakEnd (x : Sensed) : State → Out := actNow fun s => s.peakEnd x

/-- CHOP_THRESHOLD (R117): `dt` is the delay from the crossing to the switch edge, at most 200 ns. -/
def execChopThreshold (dt : Nat) (v : Fin 96) (cur : Nat) : State → Out := act (min dt 50) fun s => s.chop v cur

/-- RELEASE_START (R114). -/
def execReleaseStart (v : Fin 96) : State → Out := actNow fun s => s.releaseStart v

/-- RELEASE_END (R119). -/
def execReleaseEnd (dt : Nat) (v : Fin 96) : State → Out := actNow fun s => s.releaseEnd dt v

/-- RELX (R120). -/
def execRelx (v : Fin 96) : State → Out := actNow fun s => s.relx v

/-- ABSORB (R121): the rail's reading shows VBST above VBST_SET + 3 V. -/
def execAbsorb (dt : Nat) (r : Rail) : State → Out := act dt fun s => s.readRail r

/-- ABSORB_END (R121): the rail's reading shows VBST below VBST_SET + 2 V. -/
def execAbsorbEnd (dt : Nat) (r : Rail) : State → Out := act dt fun s => s.readRail r

/-- CHANNEL_ENABLE_WRITE (R133). -/
def execChannelEnableWrite (k : Fin 3) (w : Word) : State → Out := actNow fun s => s.writeChen k w

/-- BANK_ENABLE_WRITE (R135). -/
def execBankEnableWrite (w : Word) : State → Out := actNow fun s => s.writeBken w

/-- BANK_DRY_WRITE (R130). -/
def execBankDryWrite (w : Word) : State → Out := actNow fun s => s.writeDry w

/-- Clear the BNK inhibit, pend and late counters (BNK_CTL.CCLR). -/
def State.bnkClear (s : State) : State := s.clearRegs Reg.BNK_INH_CNT 3

/-- BNK_CCLR (R133). -/
def execBnkCclr : State → Out := actNow State.bnkClear

/-- DITHER_EDGE (R129). -/
def execDitherEdge (v : Fin 96) : State → Out := actNow fun s => s.ditherEdge v

/-- Clear every PRF counter (PRF_CTL.CCLR). -/
def State.prfClear (s : State) : State := (s.clearRegs Reg.PRF_VLOW_CNT 12).clearRegs Reg.PRF_BSTTO_CNT 4

/-- PRF_CCLR (R120). -/
def execPrfCclr : State → Out := actNow State.prfClear

/-- Set PRF_VBST_LOWEST to the present VBST (PRF_CTL.VMCLR). -/
def State.vmClear (s : State) : State := s.setReg Reg.PRF_VBST_LOWEST (w32 s.vbst)

/-- PRF_VMCLR (R123). -/
def execPrfVmclr : State → Out := actNow State.vmClear

end Sys2Proof.Machine
end

