-- ==== Sys2Proof/Machine/States.lean ====
section
/-! DEFINITION. The device states and what entering one does to commands, shots and outputs (18 R362 to R365; 04 R81; 08 R163). -/

namespace Sys2Proof.Machine

/-- Open every switch of the drive path but HS (08 R163, R164): the coils' currents decay. -/
def State.openAll (s : State) : State :=
  let s1 := (List.range 96).foldl (fun x v => if x.propOn v then x.propOpen v else x) s
  { s1 with drv := { s1.drv with ls := 0, fw := 0, clamp := 0, hb := 0, hbFor := [] } }

/-- A running shot cut short by a fault: FLTACT, and its current decays to its release end (08 R161, R163); a dry one is over at once. -/
def State.cutShot (s : State) (h : Shot) (flt : Bool) : State :=
  if h.phase = .release then s.putShot { h with dflags := orIf h.dflags 15 flt }
  else if h.phase = .boost ∨ h.phase = .peak ∨ h.phase = .hold then
    let h1 := { h with phase := .release, relStart := s.clk.now, relAt := some (max h.openAt (s.ntNs : Int)), stepping := false
                       dflags := orIf h.dflags 15 flt, tbst := if h.phase = .boost then (s.clk.now - h.openTick) / 125 else h.tbst }
    if h.dry then s.finish h1 else s.putShot h1
  else s

/-- Withhold every frozen shot not yet open (R364): INHIBIT, and FLTACT where a drive-path fault caused the state. -/
def State.withholdAll (s : State) (flt : Bool) : State :=
  (s.trn.shots.filter fun h => h.phase == .frozen || h.phase == .handed || h.phase == .pending).foldl
    (fun x h => x.block h (if flt then [5, 15] else [5])) s

/-- The device's safe state acts on switches and shots (08 R163): frozen shots are withheld, every switch opens, running shots decay. -/
def State.safeSwitches (s : State) (flt : Bool) : State :=
  let s1 := (s.withholdAll flt).openAll
  (s1.trn.shots.foldl (fun x h => x.cutShot h flt) s1).refreshHs

/-- Change the device state: SYS_STATE shows it with its cause and raises its event (R362). -/
def State.setDev (s : State) (d : DevState) (code : Nat) : State :=
  let old := s.sys.dev
  ({ s with sys := { s.sys with dev := d, cause := code, prev := old.num, devTick := s.clk.now } }).raise 0x0001
    (by1 d.num ++ by1 old.num ++ by1 code)

/-- The boost controller starts with its soft start, provided some bank has role 1 and nothing holds it stopped: SAFE, BOOT, VSUPOV or OV1 (R356, R365; 08 R164). -/
def State.boostStartUp (s : State) : State :=
  if ((List.range 12).any fun b => s.bankRole b == 1) && s.sys.dev != .safe && s.sys.dev != .boot && !s.bit Reg.PWR_STAT 3 && !s.bit Reg.PRF_VFLT 0
      && !s.sys.gaspDone then
    { s with sys := { s.sys with boostOn := true, boostStart := s.clk.now } }
  else s

/-- The boost controller stops. -/
def State.boostStop (s : State) : State := { s with sys := { s.sys with boostOn := false } }

/-- Leave ARMED or DRY: playback stops, queued commands and unfrozen entries are discarded (R81, R364; 02 R48). -/
def State.leaveLive (s : State) (tgt : DevState) : State := (s.rplEnd 1).discardAll tgt.num

/-- Enter READY from ARMED or DRY (R364): frozen shots still fire. -/
def State.toReady (s : State) (code : Nat) : State := (s.setDev .ready code).leaveLive .ready

/-- Enter SAFE (R364; 08 R163): every switch opens, frozen shots are withheld, running shots decay. -/
def State.toSafe (s : State) (code : Nat) (flt : Bool) : State :=
  let s1 := ((s.setDev .safe code).leaveLive .safe).safeSwitches flt
  ({ s1 with sys := { s1.sys with safeUe := code == 17 } }).boostStop

/-- Whether a fault that calls for device SAFE is latched: OV2 or a die link loss (R362; 08 R164). -/
def State.safeLatched (s : State) : Bool := s.bit Reg.PRF_VFLT 1 || s.rf Reg.BNK_DIEFLT 8 3 != 0

/-- Enter DRAINING (R364, R370): codes 20 and 21 let frozen shots fire, code 22 withholds them; open episodes close (04 R85). A latched fault that calls for device SAFE goes on holding the switches (R362; 08 R163). -/
def State.toDraining (s : State) (code : Nat) : State :=
  let s1 := (s.setDev .draining code).leaveLive .draining
  let s2 := if code = 22 then s1.withholdAll false else s1
  ({ s2 with sys := { s2.sys with drainTick := some s2.clk.now, drainCode := code, swSafe := s.safeLatched } }).refreshHs.closeAllEps

/-- A fault that calls for device SAFE: from READY (`fromReady`), ARMED or DRY it enters SAFE; in DRAINING a drive-path fault acts on the switches and the state stays; elsewhere the state stays too (R362, R364). -/
def State.faultSafe (s : State) (code : Nat) (flt : Bool) (fromReady : Bool) : State :=
  if s.sys.dev = .armed ∨ s.sys.dev = .dry ∨ (s.sys.dev = .ready ∧ fromReady = true) then s.toSafe code flt
  else if s.sys.dev = .draining ∧ flt = true ∧ fromReady = true then ({ s with sys := { s.sys with swSafe := true } }).safeSwitches true
  else s

/-- The timebase's effect on the device (09 R175): ARMED goes to SAFE, DRY to READY. -/
def State.timeLost (s : State) : State :=
  if s.sys.dev = .armed then s.toSafe 14 false
  else if s.sys.dev = .dry then s.toReady 13
  else s

end Sys2Proof.Machine
end

