-- ==== Sys2Proof/Machine/Timebase.lean ====
section
/-! DEFINITION. Network time (09): the servo, steps, timebase states, two domains, best master, link delays, the transparent clock. -/

namespace Sys2Proof.Machine

/-! ### The TIMC section (R186) -/

/-- A field of TIMC. -/
def State.timc (s : State) (o len : Nat) : Nat := s.sx 13 o len

/-- TIME ticks of `n` times 2^k s, rounded up. -/
def pow2Ticks (n : Nat) (k : Int) : Nat := if 0 ≤ k then n * 250000000 * 2 ^ k.toNat else ceilDiv (n * 250000000) (2 ^ (-k).toNat)

/-- LOG_SYNC. -/
def State.logSync (s : State) : Int := sext 8 (s.timc 3 1)

/-- LOG_PDELAY. -/
def State.logPdelay (s : State) : Int := sext 8 (s.timc 4 1)

/-- Ticks after the last valid Sync at which a loss is declared: LOSS_N + 0.5 intervals (R174). -/
def State.lossTicks (s : State) : Nat := pow2Ticks (2 * s.timc 5 1 + 1) (s.logSync - 1)

/-- Whether |x|, in 2^-16 ns, is at most a threshold in ns. -/
def within (x : Int) (thr : Nat) : Bool := decide (x.natAbs ≤ 65536 * thr)

/-! ### Domains -/

/-- The state of a domain: 0 A, 1 B. -/
def State.dom (s : State) (d : Nat) : PtpDomain := if d = 0 then s.tim.da else s.tim.db

/-- Show a domain in TIM_STAT, TIM_OFS and TIM_GMID. -/
def State.showDom (s : State) (d : Nat) : State :=
  let x := s.dom d
  let gm := (x.sel.map (·.2)).getD 0
  let o := (leBytes 8 gm).reverse
  let s1 := s.setBit Reg.TIM_STAT (3 + d) x.tracked
  let s2 := (s1.setReg (Reg.TIM_GMID_A_LO + 8 * d) (w32 (leAt o 0 4))).setReg (Reg.TIM_GMID_A_LO + 8 * d + 4) (w32 (leAt o 4 4))
  match x.theta with
  | some t => s2.setReg (Reg.TIM_OFS_A + 4 * d) (w32i (clampI (-2147483648) 2147483647 (divRound t 65536)))
  | none => s2

/-- Replace a domain. -/
def State.setDom (s : State) (d : Nat) (x : PtpDomain) : State :=
  let s1 := if d = 0 then { s with tim := { s.tim with da := x } } else { s with tim := { s.tim with db := x } }
  s1.showDom d

/-- Set TRK and whether it holds for the standby domain (R176). -/
def State.setTrk (s : State) (x : Int) (valid : Bool) : State :=
  let s1 := { s with tim := { s.tim with trk := x, trkValid := valid } }
  (s1.setReg Reg.TIM_TRK_LO (w32i x)).setReg Reg.TIM_TRK_HI (w32i (x / 2 ^ 32))

/-! ### The servo (R168, R171, R172) -/

/-- INC for f and φ, in 2^-32 ns. -/
def incFor (f phi : Int) : Nat := (4 * 2 ^ 32 + divRound (4 * 2 ^ 32 * (f + phi)) 1000000000).toNat

/-- Set f and φ, and with them INC from the next tick on. -/
def State.setRate (s : State) (f phi : Int) : State :=
  let inc := incFor f phi
  let s1 := { s with tim := { s.tim with f := f, phi := phi }, clk := { s.clk with inc := inc } }
  (((s1.setReg Reg.TIM_FREQ (w32i f)).setReg Reg.TIM_PHASE (w32i phi)).setReg Reg.TIM_INC_FRAC (w32 inc)).setReg Reg.TIM_INC_NS (w32 (inc / 2 ^ 32))

/-- TIM_SLEW_MAX in ppb, as in effect. -/
def State.slewPpb (s : State) : Int := 1000 * s.ef Reg.TIM_SLEW_MAX 0 9

/-- The servo on an offset in 2^-16 ns (R171). -/
def State.servo (s : State) (theta : Int) : State :=
  let phi := clampI (-s.slewPpb) s.slewPpb (divRound (-theta * 1000) (65536 * max 1 (s.timc 16 2)))
  let f := clampI (-200000) 200000 (s.tim.f + divRound (phi * 1000) (max 1 (s.timc 18 2) * 2 ^ (-s.logSync).toNat))
  let s1 := s.setRate f phi
  { s1 with tim := { s1.tim with fHist := (f :: s1.tim.fHist).take 16 } }

/-- Whether the residual slew of R178 runs. -/
def State.switching (s : State) : Bool := s.bit Reg.TIM_STAT 5

/-- What is left of ρ on the present tick, in ns / 250,000 (R178): TIM_SLEW_MAX ppm remove 4·10⁻⁶ ns a tick and ppm. -/
def State.residUnits (s : State) : Int :=
  if s.switching then
    let gone : Int := s.ef Reg.TIM_SLEW_MAX 0 9 * (s.clk.now - s.tim.rhoTick)
    if 0 ≤ s.tim.rho then max 0 (s.tim.rho - gone) else min 0 (s.tim.rho + gone)
  else 0

/-- The part of ρ not yet removed, in ns, rounded away from 0. -/
def State.residNs (s : State) : Int :=
  let r := s.residUnits
  if 0 ≤ r then (r + 249999) / 250000 else -((-r + 249999) / 250000)

/-! ### Timebase states (R174, R175) -/

/-- The number of a timebase state. -/
def TimMode.num : TimMode → Nat
  | .freerun => 0
  | .acquiring => 1
  | .locked => 2
  | .holdover => 3

/-- What a timebase transition does to the device (R175): ARMED goes to SAFE, DRY to READY. -/
def State.timeSafe (s : State) (cause : Nat) : State :=
  if s.live then
    let s1 := s.timeLost
    s1.raise 0x0709 (by1 cause ++ by1 s1.sys.dev.num)
  else s

/-- Change the timebase state, with its effect on the device (R174, R175). -/
def State.setMode (s : State) (m : TimMode) : State :=
  let old := s.tim.mode
  if old = m then s
  else
    let s1 := { s with tim := { s.tim with mode := m, everLocked := s.tim.everLocked || m == TimMode.locked, lockRun := 0, unlockRun := 0, holdTick := s.clk.now } }
    let s2 := (s1.setRf Reg.TIM_STAT 0 2 m.num).raise 0x0701 (by1 m.num ++ by1 old.num ++ by1 s.tim.active)
    if m = .acquiring then s2.timeSafe 0
    else if old = .holdover ∧ m = .freerun then s2.timeSafe 1
    else s2

/-- The mean of the last values of f, rounded to nearest, ties toward +∞ (R172). -/
def State.meanF (s : State) : Int := if s.tim.fHist.isEmpty then s.tim.f else divRound s.tim.fHist.sum s.tim.fHist.length

/-- LOCKED enters HOLDOVER: f holds its mean and φ is 0, but for a residual slew; with HOLD_MAX 0 FREERUN follows at once (R172, R174, R178). -/
def State.enterHoldover (s : State) : State :=
  let s1 := (s.setMode .holdover).setRate s.meanF (if s.switching then s.tim.phi else 0)
  if s1.ef Reg.TIM_HOLD_MAX 0 14 = 0 then s1.setMode .freerun else s1

/-- What a loss of the active domain does to the timebase (R174). -/
def State.lossActs (s : State) : State :=
  match s.tim.mode with
  | .acquiring => s.setMode .freerun
  | .locked => s.enterHoldover
  | _ => s

/-! ### Steps (R173) -/

/-- Step NT by whole ns, keeping the fraction; counted and reported. -/
def State.stepNt (s : State) (d : Int) : State :=
  let ns := (s.ntNs : Int) + d
  let s1 := { s with clk := { s.clk with nt := ns.toNat * 2 ^ 32 + s.clk.nt % 2 ^ 32, stepped := true } }
  (s1.count (Reg.TIM_SYNC_A_CNT + 0x0C)).raise 0x0702 (leBytes 8 (BitVec.ofInt 64 (clampI (-(2 ^ 63)) (2 ^ 63 - 1) d)).toNat)

/-- TIM_CTL.SET: step NT to the TIM_SET values, outside ARMED and DRY (R173). Answers the status. -/
def State.timSet (s : State) : Nat × State :=
  if s.live ∨ 999999999 < s.rf Reg.TIM_SET_NS 0 30 then (1, s)
  else
    let sec := (s.eff Reg.TIM_SET_SEC_LO).toNat + 2 ^ 32 * (s.eff Reg.TIM_SET_SEC_HI).toNat
    (0, s.stepNt ((sec * 1000000000 + s.ef Reg.TIM_SET_NS 0 30 : Nat) - (s.ntNs : Int)))

/-! ### Domain switches (R177, R178) -/

/-- TRK in whole ns, ties toward later. -/
def State.trkNs (s : State) : Int := divRound s.tim.trk 65536

/-- Four bytes of a signed value, saturating. -/
def s4 (x : Int) : List Byte := leBytes 4 (w32i (clampI (-2147483648) 2147483647 x)).toNat

/-- Why a switch to the standby domain cannot be made now, if so: 0 not tracked, 1 |TRK| above SW_MAX. -/
def State.switchBar (s : State) : Option Nat :=
  if (s.dom (1 - s.tim.active)).tracked = false then some 0
  else if within s.tim.trk (s.timc 24 4) = false then some 1
  else none

/-- TIM_SW_REFUSED. -/
def State.refuseSwitch (s : State) (why : Nat) : State := s.raise 0x0706 (by1 (1 - s.tim.active) ++ by1 why ++ s4 s.trkNs)

/-- Request a switch: accepted, it waits for a multiple of 10 ms at least 1 ms away with φ at 0; the answer says whether it was accepted. -/
def State.requestSwitch (s : State) (cause : Nat) : Bool × State :=
  match s.switchBar with
  | some w => (false, s.refuseSwitch w)
  | none =>
    let at_ : Int := (s.ntNs + 1000000 + 9999999) / 10000000 * 10000000
    let s1 := { s with tim := { s.tim with swAt := some at_, swCause := cause } }
    (true, (s1.setBit Reg.TIM_STAT 9 true).setRate s.tim.f 0)

/-- While not LOCKED, with AUTO and no switch pending, a domain whose master is selected becomes active when the active one has none (R177). -/
def State.activate (s : State) : State :=
  let d := 1 - s.tim.active
  if s.tim.mode ≠ .locked ∧ s.ef Reg.TIM_CTL 2 1 = 1 ∧ s.tim.swAt.isNone ∧ (s.dom s.tim.active).sel.isNone ∧ (s.dom d).sel.isSome then
    let o := s.tim.active
    let s1 := ({ s with tim := { s.tim with active := d } }).setDom o { s.dom o with tracked := false, run := 0 }
    (((s1.setBit Reg.TIM_STAT 2 (d == 1)).setTrk 0 false)).raise 0x0704 (by1 d ++ by1 2 ++ s4 0)
  else s

/-- The residual slew has removed ρ: the normal servo resumes (R178); in HOLDOVER with AUTO after a declared loss an automatic request follows (R177). -/
def State.swDone (s : State) : State :=
  let s1 := { s with tim := { s.tim with rho := 0 } }
  let s2 := ((s1.setBit Reg.TIM_STAT 5 false).setRate s.tim.f 0).raise 0x0705 (by1 s.tim.active ++ by2 ((s.clk.now - s.tim.swStart) / 250000))
  if s2.tim.mode = .holdover ∧ s2.ef Reg.TIM_CTL 2 1 = 1 ∧ (s2.dom s2.tim.active).lost then (s2.requestSwitch 1).2 else s2

/-- On the switch tick the domains exchange places, or the switch is refused (R176 to R178). -/
def State.doSwitch (s : State) : State :=
  let s0 := ({ s with tim := { s.tim with swAt := none } }).setBit Reg.TIM_STAT 9 false
  match s0.switchBar with
  | some w =>
    let s1 := s0.refuseSwitch w
    (if (s1.dom s1.tim.active).lost then s1.lossActs else s1).activate
  | none =>
    let rho := s0.trkNs
    let d := 1 - s0.tim.active
    let s1 := ({ s0 with tim := { s0.tim with active := d } }).setBit Reg.TIM_STAT 2 (d == 1)
    let s2 := (s1.setTrk (-s1.tim.trk) (s1.dom (1 - d)).tracked).raise 0x0704 (by1 d ++ by1 s0.tim.swCause ++ s4 rho)
    let s3 := if s2.tim.mode = .holdover then s2.setMode .locked else s2
    let s4_ := { s3 with tim := { s3.tim with swStart := s3.clk.now, rho := 250000 * rho, rhoTick := s3.clk.now } }
    (if rho = 0 then s4_.swDone
     else (s4_.setBit Reg.TIM_STAT 5 true).setRate s4_.tim.f (if 0 < rho then -s4_.slewPpb else s4_.slewPpb)).activate

/-- SWITCH_TICK (R177). -/
def State.switchTick (s : State) : State :=
  match s.tim.swAt with
  | none => s
  | some t => (s.reachNt t).doSwitch

/-- The tick on which the slew has removed ρ. -/
def State.swEnd (s : State) : Nat := s.tim.rhoTick + ceilDiv s.tim.rho.natAbs (max 1 (s.ef Reg.TIM_SLEW_MAX 0 9))

/-- TIM_SW_DONE (R178). -/
def State.swDoneTick (s : State) : State := if s.switching then (s.reachTick s.swEnd).swDone else s

/-- TIM_CTL.SWITCH: not performed while a switch waits or its slew runs (R177). Answers the status. -/
def State.timSwitch (s : State) : Nat × State :=
  if s.tim.swAt.isSome ∨ s.switching then (1, s) else (0, (s.requestSwitch 0).2)

/-- TIM_SLEW_MAX takes effect: what is left of a residual slew goes on at the new rate (R178); otherwise φ comes within the new bound (R172). -/
def State.slewChanged (s0 s : State) : State :=
  if s.switching then
    let r := s0.residUnits
    ({ s with tim := { s.tim with rho := r, rhoTick := s.clk.now } }).setRate s.tim.f (if 0 < r then -s.slewPpb else s.slewPpb)
  else s.setRate s.tim.f (clampI (-s.slewPpb) s.slewPpb s.tim.phi)

/-! ### Sync (R174, R176, R181, R183, R184) -/

/-- A port's link delay measurement. -/
def State.pd (s : State) (p : Nat) : PdPort := if p = 0 then s.tim.pd0 else s.tim.pd1

/-- Replace it, showing validity and delay. -/
def State.setPd (s : State) (p : Nat) (x : PdPort) : State :=
  let s1 := if p = 0 then { s with tim := { s.tim with pd0 := x } } else { s with tim := { s.tim with pd1 := x } }
  (s1.setBit Reg.TIM_STAT (7 + p % 2) x.valid).setReg (Reg.TIM_LINK_PA + 4 * (p % 2)) (w32 (fld (w32i (divRound (x.delay.getD 0) 16384)) 0 18))

/-- Local time at a port's lands in 2^-16 ns, at 0.25 ns resolution: NT of the tick plus `q` quarter ns (R179). -/
def State.stampAt (s : State) (q : Nat) : Int := (s.clk.nt / 2 ^ 30 * 16384 + 16384 * q : Nat)

/-- PHY latency of a port in SGMII mode, 2^-16 ns: `rx` or transmit (R179). -/
def State.phyLat (s : State) (p : Nat) (rx : Bool) : Int :=
  if (s.port p).mode = 3 then 16384 * (s.timc (32 + 4 * p + 2 * b2n rx) 2 : Nat) else 0

/-- Whether a Sync copy is valid (R181). -/
def State.syncValid (s : State) (d p src : Nat) (logInt : Int) (twoStep : Bool) : Bool :=
  !twoStep && ((s.dom d).sel.map (·.1)) == some src && logInt == s.logSync && (s.pd p).valid

/-- A domain after a valid Sync has arrived (R174, R176). -/
def PtpDomain.heard (x : PtpDomain) (now seq : Nat) : PtpDomain := { x with lastSync := some now, lastSeq := seq, lost := false }

/-- Keep a valid copy for the slave (R184). A copy of a Sync whose offset has been taken is no further Sync. -/
def State.keepSync (s : State) (d p src seq : Nat) (theta : Int) : State :=
  let ws := s.tim.waits
  if s.tim.taken.contains (d, src, seq) then s
  else if ws.any fun w => w.dom == d && w.src == src && w.seq == seq then
    { s with tim := { s.tim with waits := ws.map fun w =>
        if w.dom = d ∧ w.src = src ∧ w.seq = seq ∧ (w.copies.any (·.1 == p)) = false then { w with copies := w.copies ++ [(p, theta)], last := s.clk.now } else w } }
  else
    let w : SyncWait := { dom := d, src := src, seq := seq, tick := s.clk.now, last := s.clk.now, copies := [(p, theta)] }
    (State.setDom { s with tim := { s.tim with waits := ws ++ [w] } } d) ((s.dom d).heard s.clk.now seq)

/-- A stay in the module between two instants of the local clock, scaled by 1 + f (by 1 in FREERUN), in 2^-16 ns (R183). -/
def State.residence (s : State) (r : Int) : Int := if s.tim.mode = .freerun then r else divRound (r * (1000000000 + s.tim.f)) 1000000000

/-- The link delay of a port that enters a correctionField: the last valid one (R183). -/
def State.linkDelay (s : State) (p : Nat) : Int := if (s.pd p).valid then (s.pd p).delay.getD 0 else (s.pd p).lastValid

/-- Local time at a port's lands of an arrival, referred through the PHY (R179). -/
def State.inStamp (s : State) (p q : Nat) : Int := s.stampAt q - s.phyLat p true

/-- Local time at which what leaves a port on this tick passes its lands: frames leave on precomputed ticks (R179, R183). -/
def State.outStamp (s : State) (p : Nat) : Int := s.stampAt 0 + s.phyLat p false

/-- The update of TRK by a standby Sync (R176). -/
def State.trkUpdate (s : State) (d : Nat) (theta : Int) : State :=
  match (s.dom s.tim.active).theta with
  | none => s
  | some ta =>
    if (s.dom d).tracked then
      if s.tim.trkValid then s.setTrk (s.tim.trk + divRound (theta - ta - s.tim.trk) 16) true
      else s.setTrk (theta - ta) true
    else s

/-- A step in ACQUIRING where the tested offset exceeds STEP_THR, outside ARMED and DRY (R173, R178): the state and the offset left for the servo. -/
def State.acqStep (s : State) (theta test : Int) : State × Int :=
  if s.tim.mode = .acquiring ∧ within test (s.timc 20 4) = false ∧ s.live = false then
    let s1 := s.stepNt (-(divRound theta 65536))
    (if s1.switching then s1.swDone else s1, 0)
  else (s, theta)

/-- The lock test of ACQUIRING (R174). -/
def State.lockTest (s : State) (test : Int) : State :=
  if s.tim.mode = .acquiring then
    let n := if within test (s.timc 10 2) then s.tim.lockRun + 1 else 0
    let s1 := { s with tim := { s.tim with lockRun := n } }
    if s.timc 6 1 ≤ n then s1.setMode .locked else s1
  else s

/-- The state tests of the active domain's Sync before any step (R174). -/
def State.modeTest (s : State) (test : Int) : State :=
  let ok := within test (s.timc 12 2)
  match s.tim.mode with
  | .freerun => s.setMode .acquiring
  | .holdover => s.setMode (if ok then .locked else .acquiring)
  | .locked =>
    let n := if ok then 0 else s.tim.unlockRun + 1
    if s.timc 7 1 ≤ n then s.setMode .acquiring else { s with tim := { s.tim with unlockRun := n } }
  | .acquiring => s

/-- A valid Sync of the active domain (R171, R173, R174, R178). -/
def State.activeSync (s : State) (theta : Int) : State :=
  let test := theta - 65536 * s.residNs
  let s1 := s.modeTest test
  let r := s1.acqStep theta test
  let s2 := if s1.tim.mode = .acquiring then r.1.lockTest test else r.1
  if (s2.tim.mode = .acquiring ∨ s2.tim.mode = .locked) ∧ s2.switching = false ∧ s2.tim.swAt.isNone then s2.servo r.2 else s2

/-- The offset of a Sync from its copies: the mean of both, or the one (R184). -/
def syncTheta (cs : List (Nat × Int)) : Int := if cs.length ≤ 1 then (cs.map (·.2)).sum else divRound (cs.map (·.2)).sum cs.length

/-- The tick at which a Sync's offset can be taken: with its second copy, or 500 µs after the first (R184). -/
def SyncWait.ready (w : SyncWait) : Nat := if 2 ≤ w.copies.length then w.last else w.tick + usTicks 500

/-- The waiting Sync whose offset is taken first. -/
def firstWait : List SyncWait → Option SyncWait
  | [] => none
  | w :: ws =>
    match firstWait ws with
    | some x => if x.ready < w.ready then some x else some w
    | none => some w

/-- SYNC_OFFSET: θ of the Sync that is ready first is taken `dt` ticks on, but not before it is ready and no later than 2 µs after, and acts (R171, R174, R176, R184). -/
def State.syncOffset (dt : Nat) (s : State) : State :=
  match firstWait s.tim.waits with
  | none => s.advance dt
  | some w =>
    let s1 := s.reachTick (max w.ready (min (s.clk.now + dt) (w.ready + usTicks 2)))
    let theta := syncTheta w.copies
    let x := s1.dom w.dom
    let run := x.run + 1
    let tracked := x.tracked || (decide (s1.timc 6 1 ≤ run))
    let s2 := ({ s1 with tim := { s1.tim with waits := s1.tim.waits.erase w, taken := ((w.dom, w.src, w.seq) :: s1.tim.taken).take 32 } }).setDom w.dom
      { x with run := run, tracked := tracked, theta := some theta }
    let s3 := (s2.setBit Reg.TIM_STAT 6 (decide (w.copies.length = 1))).count (Reg.TIM_SYNC_A_CNT + 4 * w.dom)
    if w.dom ≠ s3.tim.active then s3.trkUpdate w.dom theta
    else if s3.tim.swAt.isSome then s3
    else s3.activeSync theta

/-- DOMAIN_LOSS: no valid Sync of a domain for LOSS_N + 0.5 intervals (R174, R176, R177). -/
def State.domainLoss (s : State) (d : Nat) : State :=
  match (s.dom d).lastSync with
  | none => s
  | some t =>
    let s1 := s.reachTick (t + s.lossTicks)
    let x := s1.dom d
    let s2 := (s1.setDom d { x with run := 0, tracked := false, lost := true, lastSync := none }).raise 0x0703 (by1 d ++ leBytes 2 x.lastSeq)
    if d ≠ s2.tim.active then s2.setTrk s2.tim.trk false
    else if s2.tim.swAt.isSome then s2
    else if s2.ef Reg.TIM_CTL 2 1 == 1 && !s2.switching then
      let r := s2.requestSwitch 1
      if r.1 then r.2 else r.2.lossActs.activate
    else s2.lossActs.activate

/-- HOLDOVER_EXPIRE: HOLD_MAX after entry into HOLDOVER (R174, R175). -/
def State.holdoverExpire (s : State) : State :=
  if s.tim.mode = .holdover then ((s.reachTick (s.tim.holdTick + msTicks (s.ef Reg.TIM_HOLD_MAX 0 14))).setMode .freerun).activate else s

/-! ### Best master (R181) -/

/-- Lexicographic order of data sets. -/
def rankLt : List Nat → List Nat → Bool
  | [], _ => false
  | _ :: _, [] => false
  | a :: as, b :: bs => decide (a < b) || (decide (a = b) && rankLt as bs)

/-- Whether a foreign master is qualified: two Announce messages within four intervals. -/
def Foreign.qualified (f : Foreign) (now : Nat) : Bool :=
  match f.prev with
  | some t => decide (now ≤ t + pow2Ticks 4 f.logInt)
  | none => false

/-- The better of two foreign masters. -/
def betterForeign (a : Foreign) (b : Option Foreign) : Option Foreign :=
  match b with
  | none => some a
  | some y => if rankLt y.rank a.rank then some y else some a

/-- The best qualified foreign master; a selected one stays until its timeout. -/
def bestForeign (now : Nat) (sel : Option (Nat × Nat)) : List Foreign → Option Foreign
  | [] => none
  | f :: fs => if f.qualified now || sel.map (·.1) == some f.src then betterForeign f (bestForeign now sel fs) else bestForeign now sel fs

/-- Select the best master of a domain; the run of R176 counts Syncs of the selected master alone, and a new grandmaster raises TIM_GM_CHANGE (R176, R181, R187). -/
def State.reselect (s : State) (d : Nat) : State :=
  let x := s.dom d
  let b := (bestForeign s.clk.now x.sel x.foreign).map fun f => (f.src, f.gm)
  let s1 := s.setDom d { x with sel := b, run := if x.sel.map (·.1) = b.map (·.1) then x.run else 0 }
  match b with
  | some m => if x.sel.map (·.2) = some m.2 then s1 else s1.raise 0x0707 (by1 d ++ (leBytes 7 (m.2 % 2 ^ 56)).reverse)
  | none => s1

/-- ANNOUNCE: an Announce message of a foreign master; the second port's copy of one message counts once (R181). `rank` is the data set in the order of comparison. -/
def State.announce (s : State) (num src gm : Nat) (rank : List Nat) (logInt : Int) (seq steps : Nat) : State :=
  match s.ptpDom num with
  | none => s
  | some d =>
    if 255 ≤ steps then s
    else
      let x := s.dom d
      let fs :=
        match x.foreign.find? (·.src == src) with
        | some f =>
          if f.seq = seq then x.foreign
          else x.foreign.map fun y =>
            if y.src = src then { y with gm := gm, rank := rank, logInt := logInt, seq := seq, last := s.clk.now, prev := some f.last } else y
        | none => x.foreign ++ [{ src := src, gm := gm, rank := rank, logInt := logInt, seq := seq, last := s.clk.now, prev := none }]
      ((s.setDom d { x with foreign := fs }).reselect d).activate

/-- The tick at which a foreign master's announceReceiptTimeout of 3 intervals expires. -/
def Foreign.due (f : Foreign) : Nat := f.last + pow2Ticks 3 f.logInt

/-- The foreign master that times out first. -/
def firstForeign : List Foreign → Option Foreign
  | [] => none
  | f :: fs =>
    match firstForeign fs with
    | some g => if g.due < f.due then some g else some f
    | none => some f

/-- ANNOUNCE_TIMEOUT (R181). -/
def State.announceTimeout (s : State) (d : Nat) : State :=
  match firstForeign (s.dom d).foreign with
  | none => s
  | some f =>
    let s1 := s.reachTick f.due
    let x := s1.dom d
    ((s1.setDom d { x with foreign := x.foreign.filter fun y => y.src != f.src }).reselect d).activate

/-! ### Link delays (R182) -/

/-- A change of validity raises TIM_PORT. -/
def State.pdUpdate (s : State) (p : Nat) (x : PdPort) : State :=
  let was := (s.pd p).valid
  let s1 := s.setPd p x
  if x.valid = was then s1
  else s1.raise 0x0708 (by1 p ++ by1 (b2n x.valid) ++ s4 (divRound (x.delay.getD 0) 16384))

/-- The identity of a port: the clock identity formed from the MAC address, and the port number (assumption 37). -/
def portIdent (p : Nat) : List Byte := let m := beBytes 6 macNum; m.take 3 ++ [0xFF, 0xFE] ++ m.drop 3 ++ beBytes 2 (p + 1)

/-- NT as a PTP timestamp: the low 48 bits of its seconds, and its nanoseconds (R169). -/
def State.ptpNow (s : State) : List Byte := beBytes 6 (s.ntSec % 2 ^ 48) ++ beBytes 4 s.ntSub

/-- The octets of a peer-delay message: its type, sequenceId, timestamp, and the port identity it answers (zeros in a request) (R182; assumption 37). -/
def pdelayBytes (p typ seq : Nat) (stamp who : List Byte) : List Byte :=
  by1 (0x20 + typ) ++ by1 0x12 ++ beBytes 2 54 ++ List.replicate 16 0 ++ portIdent p ++ beBytes 2 seq ++ by1 5 ++ by1 0x7F ++ stamp ++ who

/-- A peer-delay message leaves on one port, without an HSR tag, in queue 3 (R182, R191, R195). -/
def State.sendPdelay (s : State) (p : Nat) (bytes : List Byte) (ingress : Option Int) : State :=
  s.sendOn p 3 { kind := .pdelay, dst := 0x0180C200000E, src := macNum, etype := 0x88F7, vlan := some (7, s.vid), tag := none, dest := none
                 len := 76, bad := false, ingress := ingress, bytes := bytes }

/-- An exchange ended without response: counted, and the third in a row ends validity (R182). -/
def State.pdMissed (s : State) (p : Nat) : State :=
  let x := s.pd p
  if x.asked then
    (s.count (Reg.TIM_SYNC_A_CNT + 0x18)).pdUpdate p
      { x with asked := false, t1 := none, okRun := 0, noRun := x.noRun + 1, valid := x.valid && decide (x.noRun + 1 < 3) }
  else s

/-- PDELAY_SEND: the port's next Pdelay_Req, 2^LOG_PDELAY s after the last; an exchange still unanswered has ended without response. Its sending instant is taken as it leaves (R179, R182). -/
def State.pdelaySend (s : State) (p : Nat) : State :=
  if s.sys.ethOn = false then s
  else
    let s1 := (s.reachTick ((s.pd p).sentTick + pow2Ticks 1 s.logPdelay)).pdMissed p
    let x := s1.pd p
    let n := (x.seq + 1) % 65536
    (s1.setPd p { x with seq := n, asked := true, t1 := none, sentTick := s1.clk.now }).sendPdelay p (pdelayBytes p 2 n s1.ptpNow (List.replicate 10 0)) none

/-- PDELAY_REQ: a neighbour's request is answered with a one-step Pdelay_Resp, whose correctionField takes the turnaround as it leaves (R182). -/
def State.pdelayReq (s : State) (p seq : Nat) (a : PdelayAsk) : State :=
  if s.portOn p then s.sendPdelay p (pdelayBytes p 3 seq (List.replicate 10 0) (beBytes 10 a.spi)) (some (s.inStamp p a.q)) else s

/-- The neighbour rate ratio in ppb as measured, or a free value within ±400 ppm where no one reports it (assumption 10). -/
def State.rateRatio (s : State) (r : Option Int) : Int × State :=
  match r with
  | some x => (x, s)
  | none => ((s.draw.1.toNat % 800001 : Nat) - 400000, s.draw.2)

/-- PDELAY_RESP: a response gives a delay, corrected by the neighbour rate ratio (`ratio` ppb) and ASYM, filtered with gain 1/8 (R182). `turn` is the correctionField in 2^-16 ns. -/
def State.pdelayResp (s0 : State) (p seq : Nat) (turn : Int) (ratio : Option Int) (q : Nat) : State :=
  match (s0.pd p).t1 with
  | none => s0
  | some t1 =>
    if seq ≠ (s0.pd p).seq then s0
    else
      let r := s0.rateRatio ratio
      let s := r.2
      let x := s.pd p
      let whole := divRound ((s.inStamp p q - t1) * (1000000000 + r.1)) 1000000000
      let m := divRound (whole - turn) 2 + 16384 * sext 16 (s.timc (28 + 2 * p) 2)
      let d := match x.delay with
        | some old => old + divRound (m - old) 8
        | none => m
      let lim : Int := 65536 * 50000
      let valid := !decide (lim < d) && (x.valid || (decide (2 ≤ x.okRun) && decide (d < lim)))
      s.pdUpdate p { x with asked := false, t1 := none, noRun := 0, okRun := x.okRun + 1, delay := some d, valid := valid, lastValid := if valid then d else x.lastValid }

/-! ### Loads (R186) -/

/-- A domain as a load leaves it: not tracked, its best-master selection afresh. -/
def freshDom : PtpDomain := { foreign := [], sel := none, run := 0, tracked := false, lost := false, lastSync := none, lastSeq := 0, theta := none }

/-- What a load does to the timebase (R174, R186); without an image only the state and the domains are affected. -/
def State.timLoad (s : State) : State :=
  let s0 := { s with tim := { s.tim with active := 0, waits := [], taken := [], swAt := none, rho := 0 } }
  let s1 := (((s0.setBit Reg.TIM_STAT 9 false).setBit Reg.TIM_STAT 5 false).setBit Reg.TIM_STAT 2 false).setTrk 0 false
  let s2 := ((s1.setDom 0 freshDom).setDom 1 freshDom).setRate s.tim.f 0
  let s3 := if s.hasSect 13 then
      ((s2.setReg Reg.TIM_SLEW_MAX (w32 (s.timc 8 2))).setReg Reg.TIM_HOLD_MAX (w32 (s.timc 14 2))).setBit Reg.TIM_CTL 2 ((s.timc 2 1).testBit 0)
    else s2
  s3.setMode .freerun

/-- Clear every TIM counter (TIM_CTL.CCLR). -/
def State.timClear (s : State) : State := s.clearRegs Reg.TIM_SYNC_A_CNT 7

/-! ### Meanings -/

/-- SYNC_OFFSET (R184). -/
def execSyncOffset (dt : Nat) : State → Out := actNow (State.syncOffset dt)

/-- ANNOUNCE (R181). -/
def execAnnounce (dt : Nat) (num src gm : Nat) (rank : List Nat) (logInt : Int) (seq steps : Nat) : State → Out :=
  act dt fun s => s.announce num src gm rank logInt seq steps

/-- ANNOUNCE_TIMEOUT (R181). -/
def execAnnounceTimeout (d : Fin 2) : State → Out := actNow fun s => s.announceTimeout d

/-- PDELAY_SEND (R182). -/
def execPdelaySend (p : Fin 2) : State → Out := actNow fun s => s.pdelaySend p

/-- PDELAY_REQ (R182). -/
def execPdelayReq (dt : Nat) (p : Fin 2) (seq : Nat) (ask : PdelayAsk) : State → Out := act dt fun s => s.pdelayReq p seq ask

/-- PDELAY_RESP (R182). -/
def execPdelayResp (dt : Nat) (p : Fin 2) (seq : Nat) (turn : Int) (ratio : Option Int) (q : Nat) : State → Out :=
  act dt fun s => s.pdelayResp p seq turn ratio q

/-- PDELAY_TIMEOUT (R182). -/
def execPdelayTimeout (dt : Nat) (p : Fin 2) : State → Out := act dt fun s => s.pdMissed p

/-- DOMAIN_LOSS (R174). -/
def execDomainLoss (d : Fin 2) : State → Out := actNow fun s => s.domainLoss d

/-- HOLDOVER_EXPIRE (R174). -/
def execHoldoverExpire : State → Out := actNow State.holdoverExpire

/-- TIM_SWITCH (R177). -/
def execTimSwitch : State → Out := actNow fun s => s.timSwitch.2

/-- SWITCH_TICK (R177). -/
def execSwitchTick : State → Out := actNow State.switchTick

/-- TIM_SW_DONE (R178). -/
def execTimSwDone : State → Out := actNow State.swDoneTick

/-- TIM_SET (R173). -/
def execTimSet : State → Out := actNow fun s => s.timSet.2

/-- TIM_CCLR (R173). -/
def execTimCclr : State → Out := actNow State.timClear

end Sys2Proof.Machine
end

