-- ==== Sys2Proof/Machine/Frames.lean ====
section
/-! DEFINITION. Frames on the ring ports: reception, forwarding, PTP messages, transmission, release (10 R192 to R196, R212; 09 R179 to R183). -/

namespace Sys2Proof.Machine

/-! ### Reception and forwarding (R192, R195) -/

/-- Whether a received frame is forwarded on the other port: not from or to the module itself, and not already sent there (R192). -/
def State.forwards (s : State) (p : Nat) (f : RxFrame) : Bool := f.src != macNum && f.dst != macNum && !s.sentAlready (1 - p) f.src (f.hsr.getD 0)

/-- A received frame as it leaves on the other port, its tags unchanged, with the octets and the ingress instant given. -/
def rxOnward (f : RxFrame) (kind : FrameKind) (bad : Bool) (bytes : List Byte) (ingress : Option Int) : QFrame :=
  { kind := kind, dst := f.dst, src := f.src, etype := f.etype, vlan := f.pcp.map fun c => (c, f.vid), tag := f.hsr.map fun n => (f.path, (f.len - 12) % 4096, n)
    dest := none, len := f.len + 6 + (if f.pcp.isSome then 4 else 0), bad := bad, ingress := ingress, bytes := bytes }

/-- Forward a received frame as `x` in a queue of the other port; a frame that finds no queue has not been sent there (R189, R192, R195). Tells whether it is forwarded. -/
def State.forward (s : State) (p q : Nat) (f : RxFrame) (x : QFrame) : Bool × State :=
  let o := 1 - p
  if s.forwards p f then
    if s.hasRoom o q x.len then (true, ((s.enqueue o q x).noteSent o f.src (f.hsr.getD 0)).count (portCnt o + 8)) else (false, s.enqueue o q x)
  else (false, s)

/-- A frame reaches a port: it is counted, and goes on where it carries an HSR tag whose LSDU size is right; a link-local frame carries none (R192, R193). Tells whether it goes on. -/
def State.received (s0 : State) (p : Nat) (f : RxFrame) : Bool × State :=
  let c := portCnt p
  let s1 := s0.count c
  let s := if f.fcsOk then s1 else s1.count (c + 4)
  match f.hsr with
  | none => if f.dst = 0x0180C200000E then (true, s) else (false, s.count (c + 0x14))
  | some _ => if f.lsduOk then (true, s) else (false, s.count (Reg.NET_DUP_CNT + 8))

/-! ### PTP messages (09 R180 to R184) -/

/-- messageType. -/
def ptpType (b : List Byte) : Nat := beAt b 0 1 % 16
/-- domainNumber. -/
def ptpNum (b : List Byte) : Nat := beAt b 4 1
/-- twoStepFlag. -/
def ptpTwoStep (b : List Byte) : Bool := (beAt b 6 1).testBit 1
/-- correctionField, in 2^-16 ns. -/
def ptpCorr (b : List Byte) : Int := sext 64 (beAt b 8 8)
/-- sourcePortIdentity. -/
def ptpSrc (b : List Byte) : Nat := beAt b 20 10
/-- sequenceId. -/
def ptpSeq (b : List Byte) : Nat := beAt b 30 2
/-- logMessageInterval. -/
def ptpLog (b : List Byte) : Int := sext 8 (beAt b 33 1)
/-- originTimestamp, in 2^-16 ns; its 48-bit seconds extend with zeros (R169). -/
def ptpOrigin (b : List Byte) : Int := 65536 * (beAt b 34 6 * 1000000000 + beAt b 40 4 : Nat)

/-- Octets with those from `o` on replaced. -/
def putAt (b : List Byte) (o : Nat) (x : List Byte) : List Byte := b.take o ++ x ++ b.drop (o + x.length)

/-- A message with `c` added to its correctionField. -/
def addCorr (b : List Byte) (c : Int) : List Byte := putAt b 8 (leBytes 8 (BitVec.ofInt 64 (ptpCorr b + c)).toNat).reverse

/-- Whether a frame carries a PTP message the module handles: EtherType 0x88F7 and a multicast address of IEEE 1588 (R180; assumption 37). -/
def isPtpFrame (f : RxFrame) : Bool := f.etype == 0x88F7 && (f.dst == 0x011B19000000 || f.dst == 0x0180C200000E)

/-- A one-step Sync, or a two-step one, that has reached a port: forwarded, corrected by the ingress port's link delay now and by its residence as it leaves, and kept for the slave where it is valid (R180, R181, R183, R184). `origin` and `corr` in 2^-16 ns; `q` the sub-tick of the ingress. -/
def State.syncFrame (s : State) (p num src seq : Nat) (logInt : Int) (twoStep fcsOk : Bool) (origin corr : Int) (q : Nat) (f : RxFrame) : State :=
  let x := if twoStep then rxOnward f .ptp (!fcsOk) f.payload none
           else rxOnward f .ptp (!fcsOk) (addCorr f.payload (s.linkDelay p)) (some (s.inStamp p q))
  let r := s.forward p 3 f x
  let s2 := if r.1 && !twoStep then r.2.count (Reg.TIM_SYNC_A_CNT + 0x10) else r.2
  if fcsOk = false then s2
  else
    match s2.ptpDom num with
    | none => s2
    | some d =>
      if s2.syncValid d p src logInt twoStep then s2.keepSync d p src seq (s2.inStamp p q - (origin + corr + (s2.pd p).delay.getD 0))
      else s2.count (Reg.TIM_SYNC_A_CNT + 8)

/-- SYNC: a Sync copy arrives on a port; `f` is the frame that carries it (R180, R183). -/
def State.syncIn (s : State) (p num src seq : Nat) (logInt : Int) (twoStep fcsOk : Bool) (origin corr : Int) (q : Nat) (f : RxFrame) : State :=
  if s.portOn p = false then s
  else
    let r := s.received p f
    if r.1 then r.2.syncFrame p num src seq logInt twoStep fcsOk origin corr q f else r.2

/-- The Announce message in a frame feeds the best master clock algorithm (R181): the data set in its order of comparison. -/
def State.announceFrame (s : State) (b : List Byte) : State :=
  let gm := beAt b 53 8
  s.announce (ptpNum b) (ptpSrc b) gm [beAt b 47 1, beAt b 48 1, beAt b 49 1, beAt b 50 2, beAt b 52 1, gm, beAt b 61 2, ptpSrc b] (ptpLog b) (ptpSeq b) (beAt b 61 2)

/-- A peer-delay message is answered or used on its port (R182). -/
def State.pdelayFrame (s : State) (p : Nat) (f : RxFrame) : State :=
  let b := f.payload
  if ptpType b = 2 then s.pdelayReq p (ptpSeq b) ⟨ptpSrc b, f.q⟩
  else if ptpType b = 3 ∧ ptpTwoStep b = false ∧ (b.drop 44).take 10 = portIdent p then s.pdelayResp p (ptpSeq b) (ptpCorr b) none f.q
  else s

/-- A PTP message other than a Sync to correct is forwarded or discarded, and used, as R180 tells. `ok`: complete, of a right length and check sequence. -/
def State.ptpFrame (s : State) (p : Nat) (f : RxFrame) (ok : Bool) : State :=
  let b := f.payload
  let typ := ptpType b
  let mine := (s.ptpDom (ptpNum b)).isSome
  if typ = 1 ∨ typ = 9 then s.count (Reg.TIM_SYNC_A_CNT + 0x14)
  else if typ = 2 ∨ typ = 3 ∨ typ = 10 then (if ok then s.pdelayFrame p f else s)
  else
    let s1 := (s.forward p 3 f (rxOnward f .ptp (!ok) b none)).2
    if typ = 8 ∧ mine = true then s1.count (Reg.TIM_SYNC_A_CNT + 8)
    else if typ = 11 ∧ ok = true then s1.announceFrame b
    else s1

/-- FRAME_RECEIVE: a frame arrives on a port, is forwarded on the other, discarded, or delivered (R189, R192 to R196; 09 R180). -/
def State.frameReceive (s0 : State) (p : Nat) (f : RxFrame) : State :=
  if s0.portOn p = false then s0
  else
    let r := s0.received p f
    let s := r.2
    if r.1 = false then s
    else if f.hsr = none then (if isPtpFrame f && f.fcsOk then s.pdelayFrame p f else s)
    else
      let long := decide ((if s.bit Reg.NET_STAT 6 then 9018 else 1518) < f.len)
      let s2 := if long then s.count (portCnt p + 0x10) else s
      let ok := f.fcsOk && !long
      let b := f.payload
      if isPtpFrame f then
        if ptpType b = 0 then s2.syncFrame p (ptpNum b) (ptpSrc b) (ptpSeq b) (ptpLog b) (ptpTwoStep b) ok (ptpOrigin b) (ptpCorr b) f.q f
        else s2.ptpFrame p f ok
      else
        let s3 := (s2.forward p (s.pcpQueue (f.pcp.getD (s.netc 9 1 0))) f (rxOnward f .forwarded (!ok) b none)).2
        let toMe := decide (f.dst = macNum) || decide (f.dst / 2 ^ 40 % 2 = 1)
        let seq := f.hsr.getD 0
        if ok = false ∨ f.src = macNum ∨ toMe = false then s3
        else if s3.isDup f.src seq then s3.count Reg.NET_DUP_CNT
        else (s3.noteDelivered f.src seq).deliverFrame f

/-! ### Transmission (R195; 09 R179, R182, R183) -/

/-- Take the head of the highest non-empty queue. -/
def popQueue : List (List QFrame) → Option (QFrame × List (List QFrame))
  | [] => none
  | q :: qs =>
    match popQueue qs with
    | some (f, qs') => some (f, q :: qs')
    | none =>
      match q with
      | [] => none
      | f :: r => some (f, r :: qs)

/-- A frame as its last octets are formed on leaving: a Sync gains its residence, a Pdelay_Resp its turnaround (09 R182, R183), a Pdelay_Req the local time (R169). -/
def State.formed (s : State) (p : Nat) (f : QFrame) : QFrame :=
  match f.ingress with
  | some t => { f with bytes := addCorr f.bytes (if f.kind = .pdelay then s.outStamp p - t else s.residence (s.outStamp p - t)) }
  | none => if f.kind = .pdelay then { f with bytes := putAt f.bytes 34 s.ptpNow } else f

/-- The sending instant of a Pdelay_Req is the instant it leaves (09 R179, R182). -/
def State.stampSent (s : State) (p : Nat) (f : QFrame) : State :=
  let x := s.pd p
  if f.kind = .pdelay ∧ f.ingress = none ∧ x.asked = true ∧ ptpSeq f.bytes = x.seq then s.setPd p { x with t1 := some (s.outStamp p) } else s

/-- FRAME_TRANSMIT: the next frame leaves a port in strict priority (R195). -/
def State.frameTransmit (s : State) (p : Nat) : State :=
  if s.portOn p then
    match popQueue (s.port p).queues with
    | some (f, qs) =>
      let s1 := (s.setPort p { s.port p with queues := qs }).stampSent p f
      { s1 with net := { s1.net with lastOut := some (p, s.formed p f) } }
    | none => s
  else s

/-! ### Release (R212) -/

/-- Whether an event frame waits on a port. -/
def State.eventQueued (s : State) (p : Nat) : Bool := (s.port p).queues.any fun q => q.any fun f => f.kind == .event

/-- Frames leave a port until no event frame waits on it, at most `n`. -/
def State.transmitEvents (s : State) (p : Nat) : Nat → State
  | 0 => s
  | n + 1 => if s.eventQueued p then (s.frameTransmit p).transmitEvents p n else s

/-- RING_RELEASE: NET_RELEASE has gone out in its event frame; then each port sends nothing further and turns its transmitter off, and what is still queued is dropped (R189, R212). -/
def State.ringRelease (s0 : State) : State :=
  match s0.sys.released with
  | none => s0
  | some _ =>
    if s0.sys.ethOn = false then s0
    else
      let s := s0.settle
      let s1 := s.sendAllEvents (s.net.evq.length + 1)
      let s2 := [0, 1].foldl (fun x p => (x.transmitEvents p ((x.port p).queues.map List.length).sum).dropQueues p) s1
      { s2 with sys := { s2.sys with ethOn := false } }

/-! ### Meanings -/

/-- SYNC (09 R183). -/
def execSync (dt : Nat) (p : Fin 2) (num src seq : Nat) (logInt : Int) (twoStep fcsOk : Bool) (origin corr : Int) (q : Nat) (f : RxFrame) : State → Out :=
  act dt fun s => s.syncIn p num src seq logInt twoStep fcsOk origin corr q f

/-- FRAME_RECEIVE (R192). -/
def execFrameReceive (dt : Nat) (p : Fin 2) (f : RxFrame) : State → Out := act dt fun s => s.frameReceive p f

/-- FRAME_TRANSMIT (R195). -/
def execFrameTransmit (dt : Nat) (p : Fin 2) : State → Out := act dt fun s => s.frameTransmit p

/-- RING_RELEASE (R212). -/
def execRingRelease : State → Out := actNow State.ringRelease

end Sys2Proof.Machine
end

