-- ==== Sys2Proof/Machine/Gio.lean ====
section
/-! DEFINITION. The ROUTE section and general I/O: analog outputs, digital inputs and outputs, encoders (11 R235 to R243). -/

namespace Sys2Proof.Machine

/-- Rounded to nearest with ties toward +∞ when `k` fraction bits go (11 R218). -/
def rnd (k : Nat) (x : Int) : Int := (x + 2 ^ (k - 1)) / 2 ^ k

/-- Saturate to −2^31 … 2^31 − 1 (R218). -/
def sat32 (x : Int) : Int := clampI (-(2 ^ 31)) (2 ^ 31 - 1) x

/-- A field of a section as a signed 32-bit number. -/
def State.sxi (s : State) (id o : Nat) : Int := sext 32 (s.sx id o 4)

/-- The source slot that ROUTE names for a sink; none for 0xFFFF and for an empty section (R235, R237). -/
def State.route (s : State) (sink : Nat) : Option Nat :=
  if (s.sect 2).length = 0 ∨ 1023 < s.sx 2 (2 * sink) 2 then none else some (s.sx 2 (2 * sink) 2)

/-- What a sink takes from its source: the live value, or none where it takes its safe value (R237). -/
def State.sinkVal (s : State) (sink : Nat) : Option Int :=
  match s.route sink with
  | none => none
  | some n => if (s.slot n).cond = 0 then some (s.slot n).val.toInt else none

/-- Whether a sink's source is a loop output slot (R236). -/
def State.loopFed (s : State) (sink : Nat) : Bool :=
  match s.route sink with
  | some n => decide (128 ≤ n) && decide (n < 192)
  | none => false

/-! ### Analog outputs (R238, R239) -/

/-- MODE of an analog output; off with an empty IOCF section. -/
def State.aoMode (s : State) (k : Nat) : Nat := s.sx 12 (16 * k) 1

/-- The code an analog output drives for a value: clamped to LO … HI, 6,400 codes per V or 2,560 per mA, rounded. -/
def State.aoCode (s : State) (k : Nat) (v : Int) : Nat :=
  let x := clampI (s.sxi 12 (16 * k + 4)) (s.sxi 12 (16 * k + 8)) v
  if s.aoMode k = 1 then (rnd 16 (x * 6400)).toNat % 65536 else if s.aoMode k = 2 then (rnd 16 (x * 2560)).toNat % 65536 else 0

/-- An analog output updates from its sink (R236, R237, R239). -/
def State.aoUpdate (s : State) (k : Nat) : State :=
  let v := s.sinkVal k
  let c := s.aoCode k (v.getD (s.sxi 12 (16 * k + 12)))
  (s.setReg (Reg.GIO_AO + 4 * k) (w32 (c + 65536 * s.aoMode k))).setBit Reg.GIO_AOSTAT (16 + k) (v.isNone && s.aoMode k != 0)

/-- GIO_AO_FAULT: an output cannot drive its load: OPEN in current mode, SHORT in voltage mode (R239). -/
def State.aoFault (s : State) (k : Nat) : State :=
  if s.aoMode k = 2 then (s.setBit Reg.GIO_AOSTAT k true).raise 0x1201 (by1 k ++ by1 0)
  else if s.aoMode k = 1 then (s.setBit Reg.GIO_AOSTAT (8 + k) true).raise 0x1201 (by1 k ++ by1 1)
  else s

/-- AO_FAULT_END: the condition has been absent for 10 ms (R239). -/
def State.aoFaultEnd (s : State) (k : Nat) : State := (s.setBit Reg.GIO_AOSTAT k false).setBit Reg.GIO_AOSTAT (8 + k) false

/-! ### Digital outputs (R241) -/

/-- What a digital output is asked for: its source at 0.5 or more, inverted where INV is 1, or SAFE; off with an empty IOCF section (R237, R238). -/
def State.doAsk (s : State) (k : Nat) : Bool :=
  let f := s.sx 12 (256 + 4 * k) 1
  if (s.sect 12).length = 0 then false
  else
    match s.sinkVal (120 + k) with
    | some v => decide (32768 ≤ v) != f.testBit 0
    | none => f.testBit 1

/-- Show the digital outputs: on where asked for and not switched off for overload. -/
def State.showDo (s : State) : State :=
  s.setReg Reg.GIO_DO (w32 (s.gio.doWant.toNat &&& (65535 - s.rf Reg.GIO_DOFLT 0 16)))

/-- A digital output updates from its sink. -/
def State.doUpdate (s : State) (k : Nat) : State :=
  State.showDo { s with gio := { s.gio with doWant := bvPut s.gio.doWant k (s.doAsk k) } }

/-- GIO_DO_OVERLOAD: the output switches off and latches its fault bit (R241). -/
def State.doOverload (s : State) (k : Nat) : State :=
  ((s.setBit Reg.GIO_DOFLT k true).showDo).raise 0x1202 (by1 k)

/-- Software clears bits of GIO_DOFLT: the outputs may switch on again (R241). -/
def State.doClear (s : State) (w : Word) : State := (s.setReg Reg.GIO_DOFLT (s.reg Reg.GIO_DOFLT &&& ~~~w)).showDo

/-! ### Digital inputs (R240; 12 R248) -/

/-- INV of a digital input. -/
def State.diInv (s : State) (k : Nat) : Bool := (s.sx 12 (128 + 4 * k + 1) 1).testBit 0

/-- Show a digital input in GIO_DI and in its slot. -/
def State.showDi (s : State) (k : Nat) : State :=
  let on := s.gio.di.getLsbD k != s.diInv k
  (s.setBit Reg.GIO_DI k on).putVal (48 + k) (if on then 65536 else 0)

/-- The ticks for which a digital input's level must stand: FILT × 0.1 ms, and 20 ns with FILT 0 (R240). -/
def State.diFilt (s : State) (k : Nat) : Nat :=
  if s.sx 12 (128 + 4 * k) 1 = 0 then 5 else 25000 * s.sx 12 (128 + 4 * k) 1

/-- The filtered level of a digital input changes; a rising edge is stamped in NT with a resolution of 20 ns (R240; 12 R248). -/
def State.diChange (s : State) (k : Nat) : State :=
  let up := !s.gio.di.getLsbD k
  let es := storeGet (fun _ => []) s.gio.edges k
  State.showDi { s with gio := { s.gio with di := bvPut s.gio.di k up
                                            edges := if up then storeSet (fun _ => []) s.gio.edges k ((s.ntNs / 20 * 20 : Nat) :: es) else s.gio.edges } } k

/-- The tick since which the level at a pin differs from its filtered level, if it does. -/
def State.diSince (s : State) (k : Nat) : Option Nat := storeGet (fun _ => none) s.gio.diWait k

/-- Note since when the level at a pin differs from its filtered level. -/
def State.setDiSince (s : State) (k : Nat) (t : Option Nat) : State :=
  { s with gio := { s.gio with diWait := storeSet (fun _ => none) s.gio.diWait k t } }

/-- The filtered level of an input changes once the level at its pin has stood for the filter's time (R240). -/
def State.diSettle (s : State) (k : Nat) : State :=
  match s.diSince k with
  | none => s
  | some t => if t + s.diFilt k ≤ s.clk.now then (s.setDiSince k none).diChange k else s

/-- The level at the pin of a digital input changes: the filter begins to wait, or the level is back at the filtered one (R240). -/
def State.diMove (s : State) (k : Nat) : State :=
  match s.diSince k with
  | none => s.setDiSince k (some s.clk.now)
  | some _ => s.setDiSince k none

/-- The level that a digital input's filter waits on has stood for its time (R240). -/
def State.diStood (s : State) (k : Nat) : State :=
  match s.diSince k with
  | none => s
  | some t => (s.reachTick (t + s.diFilt k)).diSettle k

/-! ### Encoders (R242) -/

/-- A field of an encoder's IOCF entry; an empty section gives ×4, PS 0, VWIN 20. -/
def State.encDecode (s : State) (k : Nat) : Nat := if (s.sect 12).length = 0 then 3 else s.sx 12 (320 + 8 * k) 1
/-- PS of an encoder. -/
def State.encPs (s : State) (k : Nat) : Nat := s.sx 12 (320 + 8 * k + 1) 1 % 8
/-- ZCLR of an encoder. -/
def State.encZclr (s : State) (k : Nat) : Bool := (s.sx 12 (320 + 8 * k + 2) 1).testBit 0
/-- VWIN of an encoder, beats. -/
def State.encWin (s : State) (k : Nat) : Nat := if (s.sect 12).length = 0 then 20 else max 1 (s.sx 12 (320 + 8 * k + 3) 1)

/-- The decoded step of an encoder transition, +1 where A leads B: ×1 counts the A edges with B low, ×2 every A edge, ×4 every edge (R242; PRESUMED, assumption 27). -/
def encStep (decode : Nat) (a b a' b' : Bool) : Int :=
  if a != a' then
    let fwd := a' != b
    if decode = 3 ∨ decode = 2 ∨ (decode = 1 ∧ b = false) then (if fwd then 1 else -1) else 0
  else if decode = 3 then (if b' == a then 1 else -1) else 0

/-- The signed position count of an encoder. -/
def State.encCount (s : State) (k : Nat) : Int := (s.reg (Reg.GIO_ENC + 4 * k)).toInt

/-- Show an encoder's count in its register and its position slot, modulo 65,536 as signed (R242). -/
def State.showEnc (s : State) (k : Nat) (c : Int) : State :=
  (s.setReg (Reg.GIO_ENC + 4 * k) (w32i c)).putVal (16 + k) (sext 16 (c % 65536).toNat * 65536)

/-- The filtered levels of an encoder become `a'` and `b'` (R242). -/
def State.encEdge (s : State) (k : Nat) (a' b' : Bool) : State :=
  let ab := storeGet (fun _ => (false, false)) s.gio.encAb k
  let s1 := { s with gio := { s.gio with encAb := storeSet (fun _ => (false, false)) s.gio.encAb k (a', b') } }
  if s.encDecode k = 0 then s1
  else if ab.1 != a' && ab.2 != b' then (s1.count (Reg.GIO_ENCERR + 4 * k)).episode 0x1203 k (by1 k)
  else
    let acc := storeGet (fun _ => (0 : Int)) s1.gio.encAcc k + (if ab = (a', b') then 0 else encStep (s.encDecode k) ab.1 ab.2 a' b')
    let n := acc / 2 ^ s.encPs k
    let s2 := { s1 with gio := { s1.gio with encAcc := storeSet (fun _ => (0 : Int)) s1.gio.encAcc k (acc - n * 2 ^ s.encPs k) } }
    s2.showEnc k (s2.encCount k + n)

/-- The ticks for which a level of an encoder must stand: FILT × 20 ns (R242). -/
def State.encFilt (s : State) (k : Nat) : Nat := 5 * s.sx 12 (320 + 8 * k + 4) 1

/-- The filtered levels A and B of an encoder. -/
def State.encLevels (s : State) (k : Nat) : Bool × Bool := storeGet (fun _ => (false, false)) s.gio.encAb k

/-- The tick since which A (`i` 0) or B (`i` 1) of an encoder differs at its pin from its filtered level, if it does. -/
def State.encSince (s : State) (k i : Nat) : Option Nat := storeGet (fun _ => none) s.gio.encWait (2 * k + i)

/-- Note since when an encoder input differs from its filtered level. -/
def State.setEncSince (s : State) (k i : Nat) (t : Option Nat) : State :=
  { s with gio := { s.gio with encWait := storeSet (fun _ => none) s.gio.encWait (2 * k + i) t } }

/-- The tick at which the filter of an encoder next passes a level on, if it waits on one. -/
def State.encDue (s : State) (k : Nat) : Option Nat :=
  match s.encSince k 0, s.encSince k 1 with
  | none, none => none
  | some a, none => some (a + s.encFilt k)
  | none, some b => some (b + s.encFilt k)
  | some a, some b => some (min a b + s.encFilt k)

/-- The levels whose filter time ends on the encoder's next due tick change together, once that tick is reached (R242). -/
def State.encSettle (s : State) (k : Nat) : State :=
  match s.encDue k with
  | none => s
  | some n =>
    if n ≤ s.clk.now then
      let ends := fun i => s.encSince k i == some (n - s.encFilt k)
      let s1 := if ends 0 then s.setEncSince k 0 none else s
      let s2 := if ends 1 then s1.setEncSince k 1 none else s1
      s2.encEdge k ((s.encLevels k).1 != ends 0) ((s.encLevels k).2 != ends 1)
    else s

/-- An encoder input is at level `x` at its pin: its filter waits on it where it differs from the filtered level (R242). -/
def State.encPin (s : State) (k i : Nat) (x old : Bool) : State :=
  if x = old then s.setEncSince k i none
  else s.setEncSince k i (some ((s.encSince k i).getD s.clk.now))

/-- The levels at an encoder's pins are `a` and `b` from this tick on; what its filter has waited on long enough comes first (R242). -/
def State.encMove (s : State) (k : Nat) (a b : Bool) : State :=
  let s1 := (s.encSettle k).encSettle k
  ((s1.encPin k 0 a (s1.encLevels k).1).encPin k 1 b (s1.encLevels k).2).encSettle k

/-- Levels of an encoder that its filter waits on have stood for its time (R242). -/
def State.encStood (s : State) (k : Nat) : State :=
  match s.encDue k with
  | none => s
  | some n => (s.reachTick n).encSettle k

/-- ENC_INDEX: a rising Z edge clears the count where ZCLR is 1 (R242). -/
def State.encIndex (s : State) (k : Nat) : State :=
  if s.encZclr k ∧ s.encDecode k ≠ 0 then
    ({ s with gio := { s.gio with encAcc := storeSet (fun _ => (0 : Int)) s.gio.encAcc k 0 } }).showEnc k 0
  else s

/-- At a beat start an encoder's count is latched and its velocity formed over VWIN beats (R242). -/
def State.encLatch (s : State) (k : Nat) : State :=
  if s.encDecode k = 0 then s
  else
    let h := (s.encCount k :: storeGet (fun _ => []) s.gio.encHist k).take 256
    let w := s.encWin k
    let s1 := { s with gio := { s.gio with encHist := storeSet (fun _ => []) s.gio.encHist k h } }
    let c := s.encCount k
    let dc := (BitVec.ofInt 32 (c - h.getD w (h.getLastD c))).toInt
    s1.putVal (20 + k) (sat32 (divRound (dc * 20000 * 65536) w))

/-- The count of an encoder as latched at the present beat. -/
def State.encLatched (s : State) (k : Nat) : Int := (storeGet (fun _ => []) s.gio.encHist k).headD 0

/-- The end of a load: modes of the analog outputs, inputs with their inversion, encoder slots, and every output from its sink (R235 to R242). -/
def State.gioLoad (s : State) : State :=
  let s1 := (List.range 32).foldl State.showDi s
  let s2 := (List.range 4).foldl (fun x k =>
    if x.encDecode k = 0 then (x.putSlot (16 + k) 0 0xC0).putSlot (20 + k) 0 0xC0
    else (x.showEnc k (x.encCount k)).putVal (20 + k) (x.slot (20 + k)).val.toInt) s1
  (List.range 16).foldl State.doUpdate ((List.range 8).foldl State.aoUpdate s2)

/-! ### Meanings -/

/-- DI_CHANGE (R240): the level at the pin changes, or has stood long enough to change the filtered state and the slot. -/
def execDiChange (dt : Nat) (e : DiEdge) : State → Out :=
  act dt fun s => if e.moved then (s.diSettle e.pin).diMove e.pin else s.diStood e.pin

/-- ENC_EDGE (R242). -/
def execEncEdge (dt : Nat) (e : EncEdge) (a b : Bool) : State → Out :=
  act dt fun s => if e.moved then s.encMove e.enc a b else s.encStood e.enc

/-- ENC_INDEX (R242). -/
def execEncIndex (dt : Nat) (k : Fin 4) : State → Out := act dt fun s => s.encIndex k

/-- GIO_DO_OVERLOAD (R241). -/
def execGioDoOverload (dt : Nat) (k : Fin 16) : State → Out := act dt fun s => s.doOverload k

/-- GIO_AO_FAULT (R239). -/
def execGioAoFault (dt : Nat) (k : Fin 8) : State → Out := act dt fun s => s.aoFault k

/-- AO_FAULT_END (R239). -/
def execAoFaultEnd (dt : Nat) (k : Fin 8) : State → Out := act dt fun s => s.aoFaultEnd k

/-- Clear every GIO_ENCERRk (R242). -/
def State.gioClear (s : State) : State := s.clearRegs Reg.GIO_ENCERR 4

/-- GIO_CCLR (R242). -/
def execGioCclr : State → Out := actNow State.gioClear

end Sys2Proof.Machine
end

