-- ==== Sys2Proof/Machine/Can.lean ====
section
/-! DEFINITION. The two CAN FD controllers: filters, FIFOs, transmission, timed buffers, decoding and encoding, fault confinement (15). `x` is the controller, 0 or 1. -/

namespace Sys2Proof.Machine

/-! ### Access -/

/-- A controller. -/
def State.can (s : State) (x : Nat) : Can := if x = 0 then s.can0 else s.can1
/-- Replace a controller. -/
def State.setCan (s : State) (x : Nat) (c : Can) : State := if x = 0 then { s with can0 := c } else { s with can1 := c }
/-- Offset of a controller's block in the CANF section (R318). -/
def canO (x : Nat) : Nat := 8224 * x
/-- A field of a controller's block. -/
def State.canx (s : State) (x o len : Nat) : Nat := s.sx 11 (canO x + o) len
/-- Event code of a controller: 0x0D.. or 0x0E.. (R319). -/
def canEv (x n : Nat) : Nat := 0x0D00 + 0x100 * x + n

/-- Data bytes of a frame by DLC and FDF (R302). -/
def canLen (dlc : Nat) (fdf : Bool) : Nat :=
  if fdf then [0, 1, 2, 3, 4, 5, 6, 7, 8, 12, 16, 20, 24, 32, 48, 64].getD (dlc % 16) 64 else min 8 (dlc % 16)

/-- DLC, FDF, BRS of a frame to send. -/
def CanFrame.dlc (f : CanFrame) : Nat := f.ctl % 16
/-- FDF. -/
def CanFrame.fdf (f : CanFrame) : Bool := f.ctl.testBit 4
/-- BRS. -/
def CanFrame.brs (f : CanFrame) : Bool := f.ctl.testBit 5
/-- RTR. -/
def CanFrame.rtr (f : CanFrame) : Bool := bitOf f.w0 30
/-- IDE. -/
def CanFrame.ide (f : CanFrame) : Bool := bitOf f.w0 29

/-- The live timestamp counter: the CAN clock of 80 MHz divided by TSDIV, at a tick (R316). -/
def State.tsc (s : State) (x t : Nat) : Nat :=
  ((s.can x).tsBase + (t - (s.can x).tsTick) * 8 / (25 * max 1 (s.rf (Reg.CAN_TSCFG x) 0 8))) % 2 ^ 32

/-- A write of TSCFG: the counter goes on from its present value at the new rate. -/
def State.writeTsdiv (s : State) (x : Nat) (w : Word) : State :=
  (s.setCan x { s.can x with tsBase := s.tsc x s.clk.now, tsTick := s.clk.now }).setReg (Reg.CAN_TSCFG x) (w32 (fld w 0 8))

/-! ### Error states (R306) -/

/-- Show the fill of queue and FIFOs. -/
def State.showCan (s : State) (x : Nat) : State :=
  let c := s.can x
  let s1 := (s.setRf (Reg.CAN_RXF_ST x) 0 7 c.fifo0.length).setRf (Reg.CAN_RXF_ST x + 0x100) 0 7 c.fifo1.length
  let head := match c.tx with
    | some t => t.src == 0
    | none => false
  ((s1.setRf (Reg.CAN_TXQ_ST x) 0 6 c.q.length).setBit (Reg.CAN_TXQ_ST x) 6 head).setBit (Reg.CAN_STAT x) 4 c.tx.isSome

/-- The error counters take new values, and the error state follows with its event (R306). -/
def State.canErr (s : State) (x tec rec : Nat) : State :=
  let old := s.rf (Reg.CAN_STAT x) 0 2
  let new := if 255 < tec then 2 else if 128 ≤ tec ∨ 128 ≤ rec then 1 else 0
  let s1 := (s.setReg (Reg.CAN_TXERR x) (w32 (sat 256 tec))).setReg (Reg.CAN_RXERR x) (w32 (sat 255 rec))
  if old = new then s1
  else
    let s2 := (s1.setRf (Reg.CAN_STAT x) 0 2 new).raise (canEv x 1) (by1 new ++ leBytes 2 (sat 256 tec) ++ by1 (sat 255 rec))
    if new = 2 then (s2.count (Reg.CAN_RXOK_CNT x + 0x20)).setCan x { s2.can x with recov := s2.bit (Reg.CAN_CTL x) 3 } else s2

/-- TXERR. -/
def State.tec (s : State) (x : Nat) : Nat := s.rf (Reg.CAN_TXERR x) 0 9
/-- RXERR. -/
def State.recv (s : State) (x : Nat) : Nat := s.rf (Reg.CAN_RXERR x) 0 8

/-- A protocol error: LERR, and the CAN_PROTO episode (R306). -/
def State.canProto (s : State) (x code : Nat) : State :=
  (s.setRf (Reg.CAN_STAT x) 5 3 code).episode (canEv x 4) 0 (by1 code)

/-- A controller takes part on the bus: it has joined it and is not bus-off. -/
def State.canOnBus (s : State) (x : Nat) : Bool := (s.can x).mode != 0 && !s.bit (Reg.CAN_STAT x) 2 && s.rf (Reg.CAN_STAT x) 0 2 != 2

/-- CAN_PROTO_ERROR: an error found while receiving another node's frame; `eights` further increments of 8 come from the bus (R305, R306). -/
def State.canProtoError (s : State) (x code eights : Nat) : State :=
  if s.canOnBus x ∧ (s.can x).mode ≠ 4 then
    let s1 := s.canProto x code
    if (s.can x).mode = 1 then s1.canErr x (s1.tec x) (s1.recv x + 1 + 8 * eights) else s1
  else s

/-! ### Filters (R308) -/

/-- The match word of a frame. -/
def canWord (f : CanRx) : Nat :=
  (if f.ide then f.id % 2 ^ 29 else f.id % 2 ^ 11) + 2 ^ 29 * b2n f.ide + 2 ^ 30 * b2n f.fdf + 2 ^ 31 * b2n f.rtr

/-- Whether an element of a KIND with REF and ARG matches a match word. -/
def canMatch (kind ref arg w : Nat) : Bool :=
  let fmt := w / 2 ^ 29 == ref / 2 ^ 29
  let id := w % 2 ^ 29
  match kind with
  | 1 => (w ^^^ ref) &&& arg == 0
  | 2 => fmt && decide (ref % 2 ^ 29 ≤ id) && decide (id ≤ arg % 2 ^ 29)
  | 3 => fmt && id / 32 == ref % 2 ^ 29 / 32 && arg.testBit (w % 32)
  | 4 => fmt && (id == ref % 2 ^ 29 || id == arg % 2 ^ 29)
  | _ => false

/-- The first element that matches a frame. -/
def State.canElement (s : State) (x w : Nat) : Option Nat :=
  (List.range 128).find? fun e =>
    canMatch (s.rf (Reg.CAN_FCTL x + 4 * e) 0 3) (s.reg (Reg.CAN_FLT x + 8 * e)).toNat (s.reg (Reg.CAN_FLT x + 8 * e + 4)).toNat w

/-! ### Receive FIFOs (R309, R310) -/

/-- Words of data bytes, 16 of them. -/
def dataWords (bs : List Byte) : List Word := (List.range 16).map fun i => w32 (leAt bs (4 * i) 4)

/-- The data bytes a received frame holds. -/
def canBytes (f : CanRx) : List Byte :=
  let n := if f.rtr then 0 else canLen f.dlc f.fdf
  (f.data ++ List.replicate n 0).take n

/-- The 21 words of a FIFO entry; `elem` and `tag` are those of the matching element (R310). NT at start of frame goes back from now at the present increment. -/
def State.canEntry (s : State) (x : Nat) (f : CanRx) (elem tag : Nat) : List Word :=
  let nt := (s.clk.nt - f.ago * s.clk.inc) / 2 ^ 32
  let w0 := (canWord f) % 2 ^ 30 + 2 ^ 30 * b2n f.rtr
  let w1 := f.dlc % 16 + 16 * b2n f.fdf + 32 * b2n f.brs + 64 * b2n f.esi + 256 * (elem % 128) + 65536 * (tag % 256) + 2 ^ 24 * (canBytes f).length
  [w32 w0, w32 w1, w32 (s.tsc x (s.clk.now - f.ago)), w32 (nt % 1000000000), w32 (nt / 1000000000)] ++ dataWords (canBytes f)

/-- A FIFO of a controller. -/
def Can.fifo (c : Can) (k : Nat) : List (List Word) := if k = 0 then c.fifo0 else c.fifo1
/-- Replace a FIFO. -/
def Can.setFifo (c : Can) (k : Nat) (l : List (List Word)) : Can := if k = 0 then { c with fifo0 := l } else { c with fifo1 := l }

/-- Store a frame in FIFO `k`, or lose it to a full one (R309). -/
def State.canStore (s : State) (x k : Nat) (f : CanRx) (elem tag : Nat) : State :=
  let st := Reg.CAN_RXF_ST x + 0x100 * k
  let c := s.can x
  if (c.fifo k).length < 64 then
    let s1 := s.setCan x (c.setFifo k (c.fifo k ++ [s.canEntry x f elem tag]))
    (s1.setRf st 8 8 (s1.rf st 8 8 + 1)).showCan x
  else ((s.count (Reg.CAN_RXOK_CNT x + 8 + 4 * k)).setBit st 16 true).episode (canEv x 3) k (by1 k)

/-- CAN_RX_RELEASE: the n oldest entries of a FIFO are released and PEEK is set to 0; 0 or more than FILL is not performed (R309). Answers the status. -/
def State.canRelease (s : State) (x k n : Nat) : Nat × State :=
  let c := s.can x
  if n = 0 ∨ (c.fifo k).length < n then (1, s)
  else (0, ((s.setCan x (c.setFifo k ((c.fifo k).drop n))).setRf (Reg.CAN_RXF_ST x + 0x100 * k) 24 6 0).showCan x)

/-- Word `i` of the FIFO entry that PEEK selects; 0 where PEEK is not below FILL (CANx_RXFk_W). -/
def State.canView (s : State) (x k i : Nat) : Word :=
  (((s.can x).fifo k).getD (s.rf (Reg.CAN_RXF_ST x + 0x100 * k) 24 6) []).getD i 0

/-! ### Decoding (R314) -/

/-- The bit positions of a field, most significant first: big-endian runs down within its byte and on at bit 7 of the next, little-endian upward from START. -/
def fieldBits (be : Bool) (start : Nat) : Nat → List Nat
  | 0 => []
  | n + 1 => if be then start :: fieldBits be (if start % 8 = 0 then start + 15 else start - 1) n else (start + n) :: fieldBits be start n

/-- The raw value of a field. -/
def fieldGet (bs : List Byte) (ps : List Nat) : Nat := ps.foldl (fun a p => 2 * a + b2n ((bs.getD (p / 8) 0).getLsbD (p % 8))) 0

/-- Put a raw value into a field. -/
def fieldPut (bs : List Byte) (ps : List Nat) (v : Nat) : List Byte :=
  (List.range bs.length).map fun i =>
    (List.range 8).foldl (fun (b : Byte) j =>
      match ps.findIdx? (· == 8 * i + j) with
      | some m => bvPut b j (v.testBit (ps.length - 1 - m))
      | none => b) (bs.getD i 0)

/-- A frame that element `elem` gave the decoder: each entry that names the element writes its slot; a frame too short for some field is counted (R314). -/
def State.canDecode (s : State) (x elem : Nat) (bs : List Byte) : State :=
  let r := (List.range 256).foldl (fun (r : State × Bool) e =>
    let o := 1568 + 16 * e
    let len := s.canx x (o + 1) 1
    if s.canx x o 1 = elem ∧ 0 < len then
      let f := s.canx x (o + 4) 1
      let ps := fieldBits (f.testBit 0) (s.canx x (o + 2) 2) len
      if ps.all fun p => decide (p / 8 < bs.length) then
        let u := fieldGet bs ps
        let raw : Int := if f.testBit 1 then sext len u else (u : Int)
        let v := sat32 (rnd 8 (raw * s.sxi 11 (canO x + o + 8)) + s.sxi 11 (canO x + o + 12))
        let y := r.1.putVal (256 + 256 * x + e) v
        (y.setCan x { y.can x with decAt := storeSet (fun _ => 0) (y.can x).decAt e (y.clk.now + 1) }, r.2)
      else (r.1, true)
    else r) (s, false)
  if r.2 then r.1.count (Reg.CAN_RXOK_CNT x + 0x14) else r.1

/-- TMO of a decode entry in ticks; 0: none. -/
def State.canTmo (s : State) (x e : Nat) : Nat := if s.canx x (1568 + 16 * e) 1 = 0xFF then 0 else msTicks (s.canx x (1568 + 16 * e + 6) 2)

/-- CAN_DEC_TMO: a decoded signal not written for TMO ms takes COND 3 (R314). -/
def State.canDecTmo (s : State) (x e : Nat) : State :=
  let t := storeGet (fun _ => 0) (s.can x).decAt e
  if t = 0 ∨ s.canTmo x e = 0 then s
  else
    let s1 := s.reachTick (t - 1 + s.canTmo x e)
    let s2 := s1.setCan x { s1.can x with decAt := storeSet (fun _ => 0) (s1.can x).decAt e 0 }
    (s2.setCond (256 + 256 * x + e) 3).episode (canEv x 6) 0 (by1 e)

/-- A valid frame goes through the filter elements (R308, R309, R314). -/
def State.canFilter (s : State) (x : Nat) (f : CanRx) : State :=
  match s.canElement x (canWord f) with
  | some e =>
    let ctl := s.reg (Reg.CAN_FCTL x + 4 * e)
    let dest := fld ctl 4 3
    if dest = 0 then s.count (Reg.CAN_RXOK_CNT x + 0x10)
    else
      let s1 := s.count (Reg.CAN_RXOK_CNT x)
      let s2 := if dest % 4 = 1 ∨ dest % 4 = 2 then s1.canStore x (dest % 4 - 1) f e (fld ctl 8 8) else s1
      if 4 ≤ dest ∧ f.rtr = false then s2.canDecode x e (canBytes f) else s2
  | none =>
    let s1 := s.count (Reg.CAN_RXOK_CNT x + 0x10)
    if (s.canx x 1 1).testBit 3 then
      -- the element number and TAG of an unmatched frame are not stated: free values
      let s2 := (s1.draw).2
      (s2.count (Reg.CAN_RXOK_CNT x)).canStore x 0 f ((s1.draw).1.toNat % 128) ((s1.draw).1.toNat / 128 % 256)
    else s1

/-- RXERR after a valid reception: one less, or a value of 119 … 127 from above 127, which ISO 11898-1 leaves open (R306). -/
def State.canRxGood (s : State) (x : Nat) : State :=
  if (s.can x).mode ≠ 1 then s
  else if 127 < s.recv x then ((s.draw).2).canErr x (s.tec x) (119 + (s.draw).1.toNat % 9)
  else s.canErr x (s.tec x) (s.recv x - 1)

/-- CAN_RX_FRAME: a frame of another node at its validity point; with FDOE 0 an FD frame is a form error (R302, R305, R308). -/
def State.canRxFrame (s : State) (x : Nat) (f : CanRx) : State :=
  if s.canOnBus x ∧ (s.can x).mode ≠ 4 then
    if f.fdf = true ∧ s.bit (Reg.CAN_CTL x) 6 = false then s.canProtoError x 2 0
    else (s.canRxGood x).canFilter x f
  else s

/-! ### Transmit queue (R311) -/

/-- The frame whose 21 words stand in registers from `a`. -/
def State.canStaged (s : State) (a : Nat) : CanFrame :=
  let w0 := s.reg a
  let ctl := fld (s.reg (a + 4)) 0 6
  let n := if bitOf w0 30 then 0 else canLen (ctl % 16) (ctl.testBit 4)
  { w0 := w32 (fld w0 0 31), ctl := ctl, data := (((List.range 16).map fun i => leBytes 4 (s.reg (a + 20 + 4 * i)).toNat).flatten).take n }

/-- CAN_TX_PUSH: the staged frame joins the queue; BUSY with 32 queued, ERROR for a format the controller cannot send (R311). Answers the status. -/
def State.canPush (s : State) (x : Nat) : Nat × State :=
  let f := s.canStaged (Reg.CAN_TXW x)
  if (f.fdf = true ∧ s.bit (Reg.CAN_CTL x) 6 = false) ∨ (f.brs = true ∧ f.fdf = false) ∨ (f.rtr = true ∧ f.fdf = true) then (1, s)
  else if 32 ≤ (s.can x).q.length then (2, s)
  else (0, (s.setCan x { s.can x with q := (s.can x).q ++ [f] }).showCan x)

/-- A frame is removed from the queue without being sent (R311). -/
def State.canRemoved (s : State) (x : Nat) : State := (s.count (Reg.CAN_RXOK_CNT x + 0x1C)).setBit (Reg.CAN_TXQ_ST x) 16 true

/-- Whether the queue's head is in transmission. -/
def Can.headTx (c : Can) : Bool :=
  match c.tx with
  | some t => t.src == 0
  | none => false

/-- CAN_ABORT_HEAD: the head is removed at once, or after its attempt if that fails (R311). -/
def State.canAbortHead (s : State) (x : Nat) : State :=
  let c := s.can x
  if c.headTx then s.setCan x { c with tx := c.tx.map fun t => { t with abort := true } }
  else match c.q with
    | [] => s
    | _ :: l => ((s.setCan x { c with q := l }).canRemoved x).showCan x

/-- CAN_FLUSH: every entry is removed in the same way (R311). -/
def State.canFlush (s : State) (x : Nat) : State :=
  let c := s.can x
  let keep := if c.headTx then 1 else 0
  let s1 := if c.headTx then s.canAbortHead x else s
  ((c.q.drop keep).foldl (fun y _ => y.canRemoved x) (s1.setCan x { s1.can x with q := c.q.take keep })).showCan x

/-! ### Timed buffers (R313) -/

/-- Address of a timed buffer's control register. -/
def ttA (x b : Nat) : Nat := Reg.CAN_TT_CTL x + 0x80 * b
/-- STATE of a timed buffer: 0 idle, 1 armed, 2 candidate, 3 in transmission. -/
def State.ttState (s : State) (x b : Nat) : Nat := s.rf (ttA x b) 2 2
/-- Put STATE of a timed buffer. -/
def State.setTt (s : State) (x b n : Nat) : State := s.setRf (ttA x b) 2 2 n
/-- The instant of a timed buffer in ns. -/
def State.ttInst (s : State) (x b : Nat) : Int :=
  ((s.reg (ttA x b + 4)).toNat + 1000000000 * ((s.reg (ttA x b + 8)).toNat + 2 ^ 32 * (s.reg (ttA x b + 12)).toNat) : Nat)

/-- CAN_TT_ARM: an idle buffer is armed; an instant or window outside its range is not performed. Answers the status. -/
def State.canTtArm (s : State) (x b : Nat) : Nat × State :=
  if s.ttState x b ≠ 0 then (0, s)
  else if 999999999 < (s.reg (ttA x b + 4)).toNat ∨ s.rf (ttA x b + 16) 0 16 = 0 then (1, s)
  else (0, (s.setTt x b 1).setCan x { s.can x with tries := storeSet (fun _ => 0) (s.can x).tries b 0 })

/-- CAN_TT_INSTANT: the instant takes effect and the frame becomes a candidate (R313). -/
def State.canTtInstant (s : State) (x b : Nat) : State :=
  if s.ttState x b = 1 then (s.reachNt (s.ttInst x b)).setTt x b 2 else s

/-- CAN_TT_CANCEL: the buffer becomes idle, or is removed after its attempt if that fails (R313). -/
def State.canTtCancel (s : State) (x b : Nat) : State :=
  if s.ttState x b = 3 then s.setCan x { s.can x with tx := (s.can x).tx.map fun t => { t with abort := true } }
  else s.setTt x b 0

/-! ### Transmission (R304, R307, R312) -/

/-- The arbitration field as a number, lower winning: identifier, RTR or SRR, IDE, and for an extended frame the rest and RTR. -/
def CanFrame.arb (f : CanFrame) : Nat :=
  let id := f.w0.toNat % 2 ^ 29
  if f.ide then id / 2 ^ 18 * 2 ^ 21 + 2 ^ 20 + 2 ^ 19 + id % 2 ^ 18 * 2 + b2n f.rtr
  else id % 2 ^ 11 * 2 ^ 21 + b2n f.rtr * 2 ^ 20

/-- Whether a controller handles a frame's format: with FDOE 0 classical frames only (R302; assumption 71). -/
def State.canHandles (s : State) (x : Nat) (f : CanFrame) : Bool := !f.fdf || s.bit (Reg.CAN_CTL x) 6

/-- The candidates in the order that settles equal arbitration fields: timed buffers, encoded frames, the queue's head (R312); a frame of a format that is not handled is never offered (R302). -/
def State.canCands (s : State) (x : Nat) : List (Nat × Nat × CanFrame) :=
  let c := s.can x
  List.filter (fun e => s.canHandles x e.2.2) <| (((List.range 4).filter fun b => s.ttState x b == 2).map fun b => (2, b, s.canStaged (ttA x b + 0x20)))
    ++ (((List.range 32).filterMap fun f => c.enc.find? fun e => e.1 == f).map fun e => (1, e.1, e.2))
    ++ (c.q.take 1).map fun f => (0, 0, f)

/-- The candidate that wins arbitration against the others; the first of equal ones. -/
def bestCand : List (Nat × Nat × CanFrame) → Option (Nat × Nat × CanFrame)
  | [] => none
  | a :: l =>
    match bestCand l with
    | some b => if b.2.2.arb < a.2.2.arb then some b else some a
    | none => some a

/-- A candidate past its window is abandoned at an attempt start (R313). -/
def State.canTtLate (s : State) (x b : Nat) : State :=
  if s.ttState x b = 2 ∧ s.ntAtLeast (s.ttInst x b + 1000 * (s.rf (ttA x b + 16) 0 16 : Int) + 1) = true then
    ((s.setTt x b 0).setBit (ttA x b) 5 true).raise (canEv x 5) (by1 b ++ by2 (storeGet (fun _ => 0) (s.can x).tries b))
  else s

/-- A change of mode that waits takes effect: a frame has ended, or the bus is idle (R305). -/
def State.canTakeMode (s : State) (x : Nat) : State :=
  let m := s.rf (Reg.CAN_CTL x) 0 3
  let c := s.can x
  if c.tx.isSome ∨ c.mode = m then s else (s.setCan x { c with mode := m }).setBit (Reg.CAN_STAT x) 2 false

/-- CAN_TX_ATTEMPT: on an idle bus, where a waiting change of mode comes first, the controller offers its best candidate (R305, R312). -/
def State.canAttempt (s0 : State) (x : Nat) : State :=
  let s := s0.canTakeMode x
  if s.canOnBus x ∧ ((s.can x).mode = 1 ∨ (s.can x).mode = 4) ∧ (s.can x).tx = none then
    let s1 := (List.range 4).foldl (fun y b => y.canTtLate x b) s
    match bestCand (s1.canCands x) with
    | none => s1
    | some (src, num, f) =>
      let c := s1.can x
      let s2 := s1.setCan x { c with tx := some { src := src, num := num, frame := f, start := s1.clk.now, abort := false }
                                     tries := if src = 2 then storeSet (fun _ => 0) c.tries num (storeGet (fun _ => 0) c.tries num + 1) else c.tries }
      (if src = 2 then s2.setTt x num 3 else s2).showCan x
  else s

/-- Whether the secondary sample point acts for a frame: SSPE, FDF, BRS, and DBRP 1 or 2 (R304). -/
def State.canSsp (s : State) (x : Nat) (f : CanFrame) : Bool :=
  s.bit (Reg.CAN_TDC x) 12 && f.fdf && f.brs && (s.rf (Reg.CAN_DBT x) 0 6 == 1 || s.rf (Reg.CAN_DBT x) 0 6 == 2)

/-- LOOP_DLY as measured: the first edge back no earlier than EDGE_GUARD and within 255 periods (R304). -/
def State.canLoopDly (s : State) (x : Nat) (edges : List Nat) : Option Nat :=
  edges.find? fun d => decide (s.rf (Reg.CAN_TDC x) 24 8 ≤ d) && decide (d ≤ 255)

/-- What an attempt's end comes to: without a usable loop delay the first data-phase bit is a bit error at the secondary sample point (R304). -/
def State.canOutcome (s : State) (x : Nat) (f : CanFrame) (e : CanEnd) : CanEnd :=
  match e with
  | .sent edges =>
    if s.canSsp x f then
      match s.canLoopDly x edges with
      | some d => if 255 < d + s.rf (Reg.CAN_TDC x) 0 8 then .error 7 false 0 edges else e
      | none => .error 7 false 0 edges
    else e
  | _ => e

/-- The edges that returned in an attempt. -/
def canEdges : CanEnd → List Nat
  | .sent es => es
  | .lost => []
  | .error _ _ _ es => es

/-- Show the loop delay measured in a frame with BRS (R304). -/
def State.canShowDly (s : State) (x : Nat) (f : CanFrame) (e : CanEnd) : State :=
  if s.bit (Reg.CAN_TDC x) 12 && f.fdf && f.brs then
    match s.canLoopDly x (canEdges e) with
    | some d => s.setRf (Reg.CAN_TDC x) 16 8 d
    | none => s
  else s

/-- A frame has been sent: it leaves its source, is counted, and TXERR falls; an acknowledged frame closes CAN_NOACK (R306, R307, R312). -/
def State.canSent (s : State) (x : Nat) (t : CanTx) : State :=
  let c := s.can x
  let c1 : Can := { c with tx := none }
  let s1 :=
    if t.src = 0 then s.setCan x { c1 with q := c1.q.drop 1 }
    else if t.src = 1 then s.setCan x { c1 with enc := c1.enc.filter fun e => !(e.1 == t.num && decide (e.2 = t.frame)) }
    else ((s.setCan x c1).setTt x t.num 0).setBit (ttA x t.num) 4 true
  let s2 := (s1.count (Reg.CAN_RXOK_CNT x + 4)).canErr x (s1.tec x - 1) (s1.recv x)
  let s3 := match findEp s2.episodes (canEv x 2) 0 with
    | some e => s2.closeEp e
    | none => s2
  let s4 := s3.showCan x
  if c.mode = 4 then
    s4.canFilter x { id := t.frame.w0.toNat % 2 ^ 29, ide := t.frame.ide, rtr := t.frame.rtr, fdf := t.frame.fdf, brs := t.frame.brs
                     esi := s4.rf (Reg.CAN_STAT x) 0 2 == 1, dlc := t.frame.dlc, data := t.frame.data, ago := s4.clk.now - t.start }
  else s4

/-- An attempt has failed: the frame rejoins the candidates, or is removed where an abort asked for it (R307, R311, R313). -/
def State.canFailed (s : State) (x : Nat) (t : CanTx) : State :=
  let c := s.can x
  let c1 : Can := { c with tx := none }
  let s1 :=
    if t.src = 0 then (if t.abort then (s.setCan x { c1 with q := c1.q.drop 1 }).canRemoved x else s.setCan x c1)
    else if t.src = 1 then s.setCan x c1
    else (if t.abort then ((s.setCan x c1).setTt x t.num 0).count (Reg.CAN_RXOK_CNT x + 0x1C) else (s.setCan x c1).setTt x t.num 2)
  s1.showCan x

/-! ### Modes and recovery (R305, R306, R317) -/

/-- CAN_RECOVER: bus-off recovery begins (R306). -/
def State.canRecover (s : State) (x : Nat) : State :=
  if s.rf (Reg.CAN_STAT x) 0 2 = 2 then s.setCan x { s.can x with recov := true } else s

/-- CAN_RECOVERED: recovery ends with both counters at 0 (R306). -/
def State.canRecovered (s : State) (x : Nat) : State :=
  if s.rf (Reg.CAN_STAT x) 0 2 = 2 ∧ (s.can x).recov = true then
    (s.setCan x { s.can x with recov := false }).canErr x 0 0
  else s

/-- Clear every counter of a controller (R312). -/
def State.canClear (s : State) (x : Nat) : State := s.clearRegs (Reg.CAN_RXOK_CNT x) 9

/-- Request a mode: from CONFIG the controller leaves at once and waits for 11 recessive bits; otherwise the change waits for CAN_MODE_EFFECT (R305). -/
def State.canReqMode (s : State) (x m : Nat) : State :=
  let s1 := s.setRf (Reg.CAN_CTL x) 0 3 m
  if (s.can x).mode = 0 ∧ m ≠ 0 then (s1.setCan x { s1.can x with mode := m }).setBit (Reg.CAN_STAT x) 2 true else s1

/-- A write of CANx_CTL: MODE 5 to 7, and FDOE outside CONFIG, are not performed (R305, CANx_CTL). Answers the status. -/
def State.writeCanCtl (s : State) (x : Nat) (w : Word) : Nat × State :=
  if 4 < fld w 0 3 ∨ (bitOf w 6 != s.bit (Reg.CAN_CTL x) 6 && (s.can x).mode != 0) = true then (1, s)
  else
    let s1 := (s.setBit (Reg.CAN_CTL x) 3 (bitOf w 3)).setBit (Reg.CAN_CTL x) 6 (bitOf w 6)
    let s2 := s1.canReqMode x (fld w 0 3)
    let s3 := if bitOf w 4 || bitOf w 3 then s2.canRecover x else s2
    (0, if bitOf w 5 then s3.canClear x else s3)

/-- CAN_MODE_EFFECT: the frame in progress has ended, or 11 recessive bits have passed (R305). -/
def State.canModeEffect (s : State) (x : Nat) : State :=
  if s.bit (Reg.CAN_STAT x) 2 ∧ (s.can x).mode = s.rf (Reg.CAN_CTL x) 0 3 then s.setBit (Reg.CAN_STAT x) 2 false else s.canTakeMode x

/-- A controller discards its queue, timed buffers, pending encoded frames and FIFO entries, and stands in CONFIG (R317). -/
def State.canStop (s : State) (x : Nat) : State :=
  let c := s.can x
  let s1 := s.setCan x { c with mode := 0, q := [], fifo0 := [], fifo1 := [], enc := [], encLast := [], tx := none, tries := [], decAt := [], reload := false }
  let s2 := (List.range 4).foldl (fun y b => y.setTt x b 0) s1
  let s3 := ((s2.setRf (Reg.CAN_CTL x) 0 3 0).setBit (Reg.CAN_STAT x) 2 false)
  ((s3.setRf (Reg.CAN_RXF_ST x) 24 6 0).setRf (Reg.CAN_RXF_ST x + 0x100) 24 6 0).showCan x

/-- Whether a decode entry produces its slot: it names a filter element (R314; 01 R17). -/
def State.canProduces (s : State) (x e : Nat) : Bool := (s.sect 11).length != 0 && s.canx x (1568 + 16 * e) 1 != 0xFF

/-- After a load a slot that no entry produces reads 0, and every decode slot reads COND 3 (R314; 01 R17). -/
def State.canSlots (s : State) (x : Nat) : State :=
  (List.range 256).foldl (fun y e => y.putSlot (256 + 256 * x + e) (if y.canProduces x e then (y.slot (256 + 256 * x + e)).val else 0) 0xC0)
    (s.setCan x { s.can x with decAt := [] })

/-- What a controller does in CONFIG at the end of a load: it discards what it holds, takes its configuration, and enters MODE0 (R317). -/
def State.canReload (s : State) (x : Nat) : State :=
  let s1 := s.canStop x
  if (s.sect 11).length = 0 then s1
  else
    let f := s.canx x 1 1
    let s3 := ((s1.setBit (Reg.CAN_CTL x) 3 (f.testBit 1)).setBit (Reg.CAN_CTL x) 6 (f.testBit 0)).setReg (Reg.CAN_NBT x) (w32 (s.canx x 4 4))
    let s4 := (s3.setReg (Reg.CAN_DBT x) (w32 (s.canx x 8 4))).setReg (Reg.CAN_TDC x)
      (w32 (s.canx x 12 1 + 4096 * b2n (f.testBit 2) + 65536 * s3.rf (Reg.CAN_TDC x) 16 8 + 2 ^ 24 * s.canx x 15 1))
    let s5 := s4.writeTsdiv x (w32 (s.canx x 16 1))
    let words : List Word := (List.range 256).map fun i => w32 (s.canx x (32 + 4 * i) 4)
    let ctls : List Word := (List.range 128).map fun i => w32 (s.canx x (1056 + 4 * i) 4)
    let s6 := (s5.putRegs (Reg.CAN_FLT x) words).putRegs (Reg.CAN_FCTL x) ctls
    s6.canReqMode x (s.canx x 0 1 % 4)

/-- The end of a load for a controller: a frame in transmission ends first (R305, R317; assumption 71). -/
def State.canLoadOne (s : State) (x : Nat) : State :=
  let s1 := s.canSlots x
  if (s1.can x).tx.isSome then s1.setCan x { s1.can x with reload := true } else s1.canReload x

/-- The end of a load for both controllers. -/
def State.canLoad (s : State) : State := (s.canLoadOne 0).canLoadOne 1

/-! ### The end of an attempt (R304 to R307) -/

/-- What the end of an attempt does to its frame and the counters (R304, R306, R307). -/
def State.canTxDone (s : State) (x : Nat) (e0 : CanEnd) : State :=
  match (s.can x).tx with
  | none => s
  | some t =>
    let s0 := s.canShowDly x t.frame e0
    match s0.canOutcome x t.frame e0 with
    | .sent _ => s0.canSent x t
    | .lost => s0.canFailed x t
    | .error code exempt more _ =>
      let s1 := (s0.canFailed x t).canProto x code
      let s2 := if code = 4 then s1.episode (canEv x 2) 0 (by4 t.frame.w0.toNat ++ by1 t.src) else s1
      let free := exempt && (code == 1 || (code == 4 && s.rf (Reg.CAN_STAT x) 0 2 == 1))
      s2.canErr x (s2.tec x + (if free then 0 else 8) + 8 * more) (s2.recv x)

/-- CAN_TX_END: an attempt ends (R304, R306, R307); a change of mode or the end of a load that waited for it takes effect (R305, R317). -/
def State.canTxEnd (s : State) (x : Nat) (e : CanEnd) : State :=
  let s1 := (s.canTxDone x e).canTakeMode x
  if (s1.can x).reload ∧ (s1.can x).tx = none then s1.canReload x else s1

/-! ### Encoding (R315) -/

/-- Saturate to `len` bits, signed or not, as the bits to place. -/
def satBits (len : Nat) (signed : Bool) (v : Int) : Nat :=
  if signed then ((clampI (-(2 ^ (len - 1) : Nat)) ((2 ^ (len - 1) : Nat) - 1) v).emod (2 ^ len : Nat)).toNat
  else (clampI 0 ((2 ^ len : Nat) - 1) v).toNat

/-- The data of encode frame `f`: FILL, then each signal from its sink or its SAFE (R315, R237). -/
def State.encData (s : State) (x f : Nat) : List Byte :=
  let o := 5664 + 16 * f
  let n := canLen (s.canx x (o + 4) 1) ((s.canx x o 4).testBit 30)
  (List.range 128).foldl (fun bs g =>
    let p := 6176 + 16 * g
    if s.canx x p 1 = f then
      let len := s.canx x (p + 1) 1
      let fl := s.canx x (p + 4) 1
      let v := match s.sinkVal (136 + 128 * x + g) with
        | some v => satBits len (fl.testBit 1) (rnd 40 (v * s.sxi 11 (canO x + p + 8)))
        | none => s.canx x (p + 12) 4
      fieldPut bs (fieldBits (fl.testBit 0) (s.canx x (p + 2) 2) len) v
    else bs) (List.replicate n (BitVec.ofNat 8 (s.canx x (o + 10) 1)))

/-- Build encode frame `f`: it becomes pending, with ONCHANGE only if its data differs; a frame still pending is replaced and counted (R315). -/
def State.encBuild (s : State) (x f : Nat) : State :=
  let o := 5664 + 16 * f
  let id := s.canx x o 4
  let d := s.encData x f
  let c := s.can x
  let last := storeGet (fun _ => none) c.encLast f
  if (s.canx x (o + 5) 1).testBit 1 ∧ last = some d then s
  else
    let fr : CanFrame := { w0 := w32 (id % 2 ^ 30), ctl := s.canx x (o + 4) 1 % 16 + 16 * b2n (id.testBit 30) + 32 * b2n (id.testBit 31), data := d }
    let again := c.enc.any fun e => e.1 == f
    let s1 := s.setCan x { c with enc := (c.enc.filter fun e => e.1 != f) ++ [(f, fr)], encLast := storeSet (fun _ => none) c.encLast f (some d) }
    if again then s1.count (Reg.CAN_RXOK_CNT x + 0x18) else s1

/-- CAN_ENCODE: 49 µs after the beat start every due encode frame of both controllers is built (R315). -/
def State.canEncode (s : State) : State :=
  match s.loop.encAt with
  | none => s
  | some t =>
    let s1 := s.reachNt t
    let due (y : State) (x f : Nat) : Bool :=
      let o := 5664 + 16 * f
      let per := y.canx x (o + 6) 2
      (y.canx x (o + 5) 1).testBit 0 && per != 0 && y.clk.beat % per == y.canx x (o + 8) 2
    (List.range 64).foldl (fun y i => if due y (i / 32) (i % 32) then y.encBuild (i / 32) (i % 32) else y)
      { s1 with loop := { s1.loop with encAt := none } }

/-! ### The NT second (R316; 06 R129) -/

/-- The second that NT passes next. -/
def State.nextSecond (s : State) : Nat := if s.second < s.ntSec then s.ntSec else s.ntSec + 1

/-- NT_SECOND: NT passes a whole second: both controllers latch their counters with it, and the dither phases restart (R316; 06 R129). -/
def State.ntSecond (s : State) : State :=
  let n := s.nextSecond
  let s1 := s.reachNt (n * 1000000000 : Nat)
  let latch (y : State) (x : Nat) : State := (y.setReg (Reg.CAN_TSC x + 4) (w32 (y.tsc x y.clk.now))).setReg (Reg.CAN_TSC x + 8) (w32 n)
  (latch (latch { s1 with second := n } 0) 1).ditherRestart

/-! ### Meanings -/

/-- CAN_RX_FRAME (R308). -/
def execCanRxFrame (dt : Nat) (x : Fin 2) (f : CanRx) : State → Out := act dt fun s => s.canRxFrame x f

/-- CAN_RX_RELEASE (R309). -/
def execCanRxRelease (x k : Fin 2) (n : BitVec 7) : State → Out := actNow fun s => (s.canRelease x k n.toNat).2

/-- CAN_DEC_TMO (R314). -/
def execCanDecTmo (x : Fin 2) (e : Fin 256) : State → Out := actNow fun s => s.canDecTmo x e

/-- CAN_TX_PUSH (R311). -/
def execCanTxPush (x : Fin 2) : State → Out := actNow fun s => (s.canPush x).2

/-- CAN_ABORT_HEAD (R311). -/
def execCanAbortHead (x : Fin 2) : State → Out := actNow fun s => s.canAbortHead x

/-- CAN_FLUSH (R311). -/
def execCanFlush (x : Fin 2) : State → Out := actNow fun s => s.canFlush x

/-- CAN_TX_ATTEMPT (R312). -/
def execCanTxAttempt (dt : Nat) (x : Fin 2) : State → Out := act dt fun s => s.canAttempt x

/-- CAN_TX_END (R307). -/
def execCanTxEnd (dt : Nat) (x : Fin 2) (e : CanEnd) : State → Out := act dt fun s => s.canTxEnd x e

/-- CAN_TT_ARM (R313). -/
def execCanTtArm (x : Fin 2) (b : Fin 4) : State → Out := actNow fun s => (s.canTtArm x b).2

/-- CAN_TT_CANCEL (R313). -/
def execCanTtCancel (x : Fin 2) (b : Fin 4) : State → Out := actNow fun s => s.canTtCancel x b

/-- CAN_TT_INSTANT (R313). -/
def execCanTtInstant (x : Fin 2) (b : Fin 4) : State → Out := actNow fun s => s.canTtInstant x b

/-- CAN_ENCODE (R315). -/
def execCanEncode : State → Out := actNow State.canEncode

/-- CAN_MODE_WRITE (R305). -/
def execCanModeWrite (x : Fin 2) (w : Word) : State → Out := actNow fun s => (s.writeCanCtl x w).2

/-- CAN_MODE_EFFECT (R305). -/
def execCanModeEffect (dt : Nat) (x : Fin 2) : State → Out := act dt fun s => s.canModeEffect x

/-- CAN_RECOVER (R306). -/
def execCanRecover (x : Fin 2) : State → Out := actNow fun s => s.canRecover x

/-- CAN_RECOVERED (R306). -/
def execCanRecovered (dt : Nat) (x : Fin 2) : State → Out := act dt fun s => s.canRecovered x

/-- CAN_PROTO_ERROR (R306). -/
def execCanProtoError (dt : Nat) (x : Fin 2) (code : Fin 8) (eights : Nat) : State → Out := act dt fun s => s.canProtoError x code eights

/-- CAN_CCLR (R312). -/
def execCanCclr (x : Fin 2) : State → Out := actNow fun s => s.canClear x

/-- NT_SECOND (R316). -/
def execNtSecond : State → Out := actNow State.ntSecond

end Sys2Proof.Machine
end

