-- ==== Sys2Proof/Machine/Fans.lean ====
section
/-! DEFINITION. Fans and blowers: tachs, switches, zones, duties and the fan states (14). -/

namespace Sys2Proof.Machine

/-! ### The FAN section (R289 to R291) -/

/-- A field of fan `k`'s entry. -/
def State.fx (s : State) (k o len : Nat) : Nat := s.sx 10 (8 + 24 * k + o) len
/-- TYPE of a fan output. -/
def State.fanType (s : State) (k : Nat) : Nat := s.fx k 0 1
/-- The switch of a fan, if it has one. -/
def State.fanSw (s : State) (k : Nat) : Option Nat := if s.fx k 1 1 < 8 then some (s.fx k 1 1) else none
/-- ZONE of a fan, 0xFF routed. -/
def State.fanZone (s : State) (k : Nat) : Nat := s.fx k 2 1
/-- TACH. -/
def State.fanTach (s : State) (k : Nat) : Bool := (s.fx k 3 1).testBit 1
/-- SPEED. -/
def State.fanSpeedCtl (s : State) (k : Nat) : Bool := (s.fx k 3 1).testBit 2
/-- PPR. -/
def State.fanPpr (s : State) (k : Nat) : Nat := max 1 (s.fx k 4 1)
/-- MIN_DUTY, unit 0.1 %. -/
def State.fanMinDuty (s : State) (k : Nat) : Nat := s.fx k 8 2
/-- MIN_RPM. -/
def State.fanMinRpm (s : State) (k : Nat) : Nat := s.fx k 10 2
/-- RPM_MAX. -/
def State.fanMaxRpm (s : State) (k : Nat) : Nat := s.fx k 12 2
/-- A field of zone `z`'s entry. -/
def State.zx (s : State) (z o len : Nat) : Nat := s.sx 10 (392 + 24 * z + o) len
/-- Whether a zone is used. -/
def State.zoneUsed (s : State) (z : Nat) : Bool := (s.zx z 0 1).testBit 0

/-- Points of a curve at an offset of a section: `n` pairs (x, y) of 8 bytes. -/
def State.points (s : State) (id o n : Nat) : List (Int × Int) :=
  (List.range n).map fun j => (s.sxi id (o + 8 * j), s.sxi id (o + 8 * j + 4))

/-- The value of a curve: constant outside its points, linear and rounded between two of them (11 R232). -/
def curveAt : List (Int × Int) → Int → Int
  | [], _ => 0
  | [p], _ => p.2
  | p :: q :: l, x =>
    if x ≤ p.1 then p.2
    else if x < q.1 then p.2 + divRound ((x - p.1) * (q.2 - p.2)) (q.1 - p.1).toNat
    else curveAt (q :: l) x

/-- A zone's duty curve (0) or speed curve (1). -/
def State.zoneCurve (s : State) (z w : Nat) : List (Int × Int) :=
  let o := 584 + 144 * z + 72 * w
  s.points 10 (o + 8) (min 8 (s.sx 10 o 2))

/-! ### State of a fan (R295) -/

/-- A fan without history. -/
def fanNone (_ : Nat) : FanCtx := { since := 0, edges := [], speed := 0, lost := 0, good := 0, inBand := 0, below := 0, held := 0 }

/-- What a fan holds beside its register. -/
def State.fc (s : State) (k : Nat) : FanCtx := storeGet fanNone s.fan.fans k

/-- Replace what a fan holds. -/
def State.setFc (s : State) (k : Nat) (c : FanCtx) : State := { s with fan := { s.fan with fans := storeSet fanNone s.fan.fans k c } }

/-- Address of FAN_STk. -/
def fanReg (k : Nat) : Nat := Reg.FAN_ST + 4 * k

/-- STATE of a fan. -/
def State.fanSt (s : State) (k : Nat) : Nat := s.rf (fanReg k) 0 4

/-- DUTY of a fan, unit 0.1 %. -/
def State.fanDuty (s : State) (k : Nat) : Nat := s.rf (fanReg k) 8 10

/-- The tach slot of a fan: its speed, 0 after the timeout; COND 3 in TACH_LOST and STALL_SUSPECT and without a tach (R287). -/
def State.showTach (s : State) (k : Nat) : State :=
  let c := s.fc k
  if s.fanTach k then
    s.putSlot (24 + k) (w32i (if c.lost = 0 then (sat 0x7FFFFFFF c.speed : Nat) else 0)) (if s.fanSt k = 6 ∨ s.fanSt k = 7 then 0xC0 else 0)
  else s.putSlot (24 + k) 0 0xC0

/-- Speed as the tach slot holds it, 2^-16 rpm. -/
def State.fanSpeed (s : State) (k : Nat) : Nat := (s.slot (24 + k)).val.toNat

/-- Put a duty into force with its SPD and FORCED bits. -/
def State.putDuty (s : State) (k d : Nat) (spd forced : Bool) : State :=
  ((s.setRf (fanReg k) 8 10 d).setBit (fanReg k) 18 spd).setBit (fanReg k) 19 forced

/-- Enter a fan state: counters of consecutive updates and edges start anew, FAN_LOCK and the tach slot follow (R287, R295). -/
def State.fanEnter (s : State) (k st : Nat) : State :=
  let s1 := (s.setRf (fanReg k) 0 4 st).setBit Reg.FAN_LOCK k (st == 5)
  let s2 := s1.setFc k { s1.fc k with since := s1.clk.now, good := 0, inBand := 0, below := 0 }
  let s3 := if st = 1 ∨ st = 7 then s2.putDuty k 1000 false false else if st = 0 ∨ st = 2 ∨ st = 4 ∨ st = 5 then s2.putDuty k 0 false false else s2
  s3.showTach k

/-- Put the attempt count. -/
def State.setAtt (s : State) (k n : Nat) : State := s.setRf (fanReg k) 4 4 (sat 15 n)

/-- Current of a fan's switch in 2^-16 mA. -/
def State.swMilli (s : State) (sw : Nat) : Nat := (s.slot (40 + sw)).val.toNat * 1000

/-- Whether a switch current lies within I_LO … I_HI of a fan. -/
def State.inBand (s : State) (k sw : Nat) : Bool :=
  decide (20 * s.fx k 14 1 * 65536 ≤ s.swMilli sw) && decide (s.swMilli sw ≤ 20 * s.fx k 15 1 * 65536)

/-- A current in whole mA as an event argument. -/
def State.swArg (s : State) (sw : Nat) : List Byte := by2 ((s.swMilli sw + 32768) / 65536)

/-- A start attempt fails: WAIT, or LOCKED after attempt 1 + RETRIES (R296, R297). -/
def State.fanFail (s : State) (k : Nat) : State :=
  let running := s.fanSt k == 3 || s.fanSt k == 6 || s.fanSt k == 8
  let n := (if running then 0 else s.rf (fanReg k) 4 4) + 1
  let s1 := (s.count Reg.FAN_ATT_CNT).setAtt k n
  if 1 + s.fx k 6 1 ≤ n then (s1.fanEnter k 5).raise 0x0C01 (by1 k ++ by1 n) else s1.fanEnter k 2

/-- Clear a fan's enable: COAST at or above MIN_RPM, else OFF (R295). -/
def State.fanStop (s : State) (k : Nat) : State :=
  (if s.fanType k ≠ 0 ∧ s.fanTach k = true ∧ s.fanMinRpm k * 65536 ≤ s.fanSpeed k then s.fanEnter k 4 else s.fanEnter k 0).setAtt k 0

/-- Clamp a duty to MIN_DUTY … 100 % (R294). -/
def State.clampDuty (s : State) (k : Nat) (d : Int) : Nat := (clampI (s.fanMinDuty k) 1000 d).toNat

/-! ### Zones (R292, R293) -/

/-- A sensor without history: healthy. -/
def sensNone (_ : Nat) : SensCtx := { prev := none, staleFrom := none, good := 0, bad := false }

/-- Why a sensor's reading is unhealthy at this update: 0 COND, 1 STALE, 2 range, 3 rate; none if it is not (R293). -/
def State.sensCause (s : State) (z : Nat) (c : SensCtx) (t : Slot) : Option Nat :=
  let v := t.val.toInt
  if t.cond ≠ 0 then some 0
  else if t.stale && (match c.staleFrom with | some f => decide (msTicks 2000 < s.clk.now - f) | none => false) then some 1
  else if v * 10 < sext 16 (s.zx z 10 2) * 65536 ∨ sext 16 (s.zx z 12 2) * 65536 < v * 10 then some 2
  else
    match c.prev with
    | some p => if (s.zx z 14 2 : Int) * 65536 < (v - p).natAbs * 1000 then some 3 else none
    | none => none

/-- One sensor of a zone is judged: unhealthy at once, healthy again after 10 good updates in a row (R293). -/
def State.judge (s : State) (z i : Nat) : State :=
  let c := storeGet sensNone s.fan.sens (4 * z + i)
  let t := s.slot (s.zx z (2 + 2 * i) 2)
  let c1 := { c with staleFrom := if t.stale then some (c.staleFrom.getD s.clk.now) else none }
  let cause := s.sensCause z c1 t
  let good := if cause.isSome then 0 else c.good + 1
  let bad := cause.isSome || (c.bad && decide (good < 10))
  let c2 := { c1 with prev := some t.val.toInt, good := good, bad := bad }
  let s1 := ({ s with fan := { s.fan with sens := storeSet sensNone s.fan.sens (4 * z + i) c2 } }).setBit (Reg.FAN_ZST + 4 * z) (16 + i) (!bad)
  match cause with
  | some n => if c.bad then s1 else s1.episode 0x0C07 (4 * z + i) (by1 z ++ by1 i ++ by1 n)
  | none => s1

/-- Values of a zone's healthy sensors. -/
def State.healthyVals (s : State) (z : Nat) : List Int :=
  ((List.range (min 4 (s.zx z 1 1))).filter fun i => !(storeGet sensNone s.fan.sens (4 * z + i)).bad).map
    fun i => (s.slot (s.zx z (2 + 2 * i) 2)).val.toInt

/-- The fans of a zone in LOCKED, STALL_SUSPECT or OPEN. -/
def State.zoneFailed (s : State) (z : Nat) : Nat :=
  ((List.range 16).filter fun k => s.fanType k != 0 && s.fanZone k == z && (s.fanSt k == 5 || s.fanSt k == 7 || s.fanSt k == 8)).length

/-- Steps 1 to 3 of the zone update: health, zone temperature in its slot, failed fans (R292). -/
def State.zoneTemp (s : State) (z : Nat) : State :=
  let s1 := (List.range (min 4 (s.zx z 1 1))).foldl (fun x i => x.judge z i) s
  let vs := s1.healthyVals z
  let s2 := match vs with
    | [] => s1.putSlot (99 + z) (s1.slot (99 + z)).val 0xC0
    | v :: l => s1.putVal (99 + z) (l.foldl max v)
  let lost := vs.isEmpty && !s.bit Reg.FAN_STAT (8 + z)
  let s3 := (s2.setBit Reg.FAN_STAT (8 + z) vs.isEmpty).setRf (Reg.FAN_ZST + 4 * z) 0 16
    (w32i (divRound ((s2.slot (99 + z)).val.toInt * 10) 65536)).toNat
  let s4 := s3.setRf (Reg.FAN_ZST + 4 * z) 20 3 (sat 7 (s3.zoneFailed z))
  if lost then s4.raise 0x0C08 (by1 z) else s4

/-- T_eff of a zone: its temperature with the compensation of its failed fans (R292). -/
def State.teff (s : State) (z : Nat) : Int :=
  let n := s.rf (Reg.FAN_ZST + 4 * z) 20 3
  (s.slot (99 + z)).val.toInt + (if n = 0 then 0 else (s.zx z (15 + min n 4) 1 : Int) * 65536)

/-! ### Duties (R294, R300) -/

/-- What R300 asks: none while the watchdog runs, else MN48_FAN. -/
def State.fanWd (s : State) : Option Nat :=
  if s.bit Reg.SYS_STATUS 1 then some (s.rf Reg.SYS_COMPAT 0 1) else none

/-- A percentage in Q15.16 rounded to 0.1 % (R294). -/
def tenths (v : Int) : Int := divRound (v * 10) 65536

/-- The routed duty of a fan from its sink, 100 % where it takes its safe value (R237, R294). -/
def State.routedDuty (s : State) (k : Nat) : Nat :=
  match s.sinkVal (8 + k) with
  | some v => s.clampDuty k (tenths v)
  | none => 1000

/-- The duty curve of a fan's zone at T_eff. -/
def State.curveDuty (s : State) (k : Nat) : Nat := s.clampDuty k (tenths (curveAt (s.zoneCurve (s.fanZone k) 0) (s.teff (s.fanZone k))))

/-- The duty of speed-closed control (R294). -/
def State.speedDuty (s : State) (k : Nat) : Nat :=
  let z := s.fanZone k
  let target := clampI (s.fanMinRpm k) (s.fanMaxRpm k) (divRound (curveAt (s.zoneCurve z 1) (s.teff z)) 65536)
  s.clampDuty k ((s.fanDuty k : Int) + rnd 16 ((s.fx k 20 4 : Int) * (target - divRound (s.fanSpeed k : Nat) 65536)))

/-- Set a fan's enable: KICK from OFF, the flying start from COAST (R295, R298). -/
def State.fanStart (s : State) (k : Nat) : State :=
  if s.fanType k = 0 then s
  else
    let s1 := s.setAtt k 0
    if s1.fanSt k = 0 then s1.fanEnter k 1
    else if s1.fanSt k = 4 then
      let d := if s1.fanSpeedCtl k then s1.clampDuty k (divRound (1000 * s1.fanSpeed k : Nat) (65536 * max 1 (s1.fanMaxRpm k)))
        else if s1.fanZone k < 8 then s1.curveDuty k else s1.routedDuty k
      (s1.fanEnter k 3).putDuty k d (s1.fanSpeedCtl k) false
    else s1

/-- An enable write or restart comes to act: 0 stop, 1 start, 2 restart of a LOCKED fan (R295, R296). -/
def State.fanAct (s : State) (a : Nat × Nat) : State :=
  if a.2 = 0 then s.fanStop a.1
  else if a.2 = 1 then s.fanStart a.1
  else if s.fanSt a.1 = 5 then (s.fanEnter a.1 1).setAtt a.1 0
  else s

/-- Whether a fan is in a state in which R294 sets its duty. -/
def State.duting (s : State) (k : Nat) : Bool := s.fanSt k == 3 || s.fanSt k == 6 || s.fanSt k == 8

/-- Set the duty of a fan at a zone update (R294, R300); `entered` says its state has just changed. A zone that is not used counts as one without a healthy sensor (DESIGN CHOICE, assumption 31). -/
def State.setDuty (s : State) (k : Nat) (entered : Bool) : State :=
  if s.duting k then
    let z := s.fanZone k
    match s.fanWd with
    | some 0 => s.putDuty k 1000 false true
    | wd =>
      if z < 8 then
        if s.bit Reg.FAN_STAT (8 + z) || !s.zoneUsed z then s.putDuty k 1000 false true
        else if wd.isSome then
          s.putDuty k (if s.rf (Reg.FAN_ZST + 4 * z) 20 3 = 0 then (s.fc k).held else max (s.fc k).held (s.curveDuty k)) false true
        else if s.fanSpeedCtl k && s.fanSt k != 6 then s.putDuty k (s.speedDuty k) true false
        else s.putDuty k (s.curveDuty k) false false
      else if wd.isSome then s.putDuty k (s.fc k).held false true
      else if entered || s.bit (fanReg k) 19 then s.putDuty k (s.routedDuty k) false false
      else s
  else s

/-- A routed fan takes its duty on its source's instant: the loop's output phase, or 47 µs after a beat start (R294; 11 R236). -/
def State.fanSink (s : State) (k : Nat) : State :=
  if s.fanType k ≠ 0 ∧ s.fanZone k = 0xFF ∧ s.duting k = true ∧ s.fanWd = none then s.putDuty k (s.routedDuty k) false false else s

/-! ### Supervision at a zone update (R296 to R300) -/

/-- What the watchdog mode 0 asks of a fan: it runs, enabled or not, but for LOCKED, WAIT and KICK (R300). -/
def State.fanForce (s : State) (k : Nat) : State :=
  if s.fanWd = some 0 ∧ (s.fanSt k = 0 ∨ s.fanSt k = 4) then s.fanEnter k 3 else s

/-- The speed exceeds MIN_RPM. -/
def State.fanFast (s : State) (k : Nat) : Bool := decide (s.fanMinRpm k * 65536 < s.fanSpeed k)

/-- Whether a kick has succeeded (R296). -/
def State.kickOk (s : State) (k : Nat) : Bool :=
  if s.fanTach k then s.fanFast k
  else match s.fanSw k with
    | some sw => s.inBand k sw
    | none => true

/-- Count the updates in and below the current band of a fan with a switch. -/
def State.bandStep (s : State) (k : Nat) : State :=
  match s.fanSw k with
  | some sw =>
    let c := s.fc k
    s.setFc k { c with inBand := if s.inBand k sw then c.inBand + 1 else 0
                       below := if s.swMilli sw < 20 * s.fx k 14 1 * 65536 then c.below + 1 else 0 }
  | none => s

/-- A running fan's tests: OPEN, then the tach timeout, then recovery (R299). -/
def State.runTests (s : State) (k : Nat) : State :=
  let c := s.fc k
  let st := s.fanSt k
  let rpm := by2 ((c.speed + 32768) / 65536)
  let band := match s.fanSw k with
    | some sw => s.inBand k sw
    | none => false
  if (s.fanSw k).isSome ∧ st ≠ 8 ∧ 3 ≤ c.below then (s.fanEnter k 8).raise 0x0C05 (by1 k ++ s.swArg ((s.fanSw k).getD 0))
  else if s.fanTach k ∧ c.lost = 1 ∧ (st = 3 ∨ st = 8) then
    let s1 := s.setFc k { c with lost := 2 }
    if band then (s1.fanEnter k 6).raise 0x0C03 (by1 k ++ rpm) else (s1.fanEnter k 7).raise 0x0C04 (by1 k ++ rpm)
  else if st ≠ 3 ∧ (s.fanTach k = false ∨ 3 ≤ c.good) ∧ ((s.fanSw k).isNone ∨ 3 ≤ c.inBand) then
    (s.fanEnter k 3).raise 0x0C06 (by1 k ++ by1 st)
  else s

/-- One fan's state at a zone update (R295 to R299). -/
def State.fanTrans (s : State) (k : Nat) : State :=
  let age := s.clk.now - (s.fc k).since
  match s.fanSt k with
  | 1 => if msTicks (100 * s.fx k 5 1) ≤ age then (if s.kickOk k then s.fanEnter k 3 else s.fanFail k) else s
  | 2 => if msTicks 5000 ≤ age then s.fanEnter k 1 else s
  | 3 => s.runTests k
  | 4 => if s.fanSpeed k < s.fanMinRpm k * 65536 then s.fanEnter k 0 else s
  | 6 => s.runTests k
  | 7 => s.runTests k
  | 8 => s.runTests k
  | _ => s

/-- A fan's turn at a zone update: its state, then its duty. -/
def State.fanTurn (s : State) (k : Nat) : State :=
  if s.fanType k = 0 then s
  else
    let s1 := ((s.fanForce k).bandStep k).fanTrans k
    s1.setDuty k (s1.fanSt k != s.fanSt k)

/-- The zone update of R292, with the switch currents in mA as sampled at it; fans not in a zone come after the zones. -/
def State.zoneUpdate (s : State) (milli : List Nat) : State :=
  match s.fan.zoneAt with
  | none => s
  | some t =>
    let s1 := s.reachNt t
    let s2 := (List.range (min 8 milli.length)).foldl (fun x i => x.putVal (40 + i) (divRound (65536 * milli.getD i 0 : Nat) 1000)) s1
    let s3 := s2.fan.acts.foldl State.fanAct { s2 with fan := { s2.fan with acts := [], zoneAt := none } }
    let s4 := (s3.setBit Reg.FAN_STAT 0 s3.fanWd.isSome).setBit Reg.FAN_STAT 1 (s3.fanWd == some 1)
    let s5 := (List.range 8).foldl (fun x z =>
      if x.zoneUsed z then (List.range 16).foldl (fun y k => if y.fanZone k = z then y.fanTurn k else y) (x.zoneTemp z) else x) s4
    (List.range 16).foldl (fun x k => if x.fanZone k < 8 ∧ x.zoneUsed (x.fanZone k) = true then x else x.fanTurn k) s5

/-! ### Between updates (R287, R288, R297, R299) -/

/-- The tach timeout of a fan in ticks: 250 ms or twice the expected edge interval (R299). -/
def State.tachLimit (s : State) (k : Nat) : Nat :=
  max (msTicks 250) (if (s.fc k).speed = 0 then 0 else 30000000000 * 65536 / (s.fanPpr k * (s.fc k).speed))

/-- The tick at which a fan's tach timeout elapses. -/
def State.tachDue (s : State) (k : Nat) : Nat := (s.fc k).edges.headD (s.fc k).since + s.tachLimit k

/-- TACH_EDGE: a falling edge gives the speed over the last PPR intervals; `near` says it lies within 4 µs after a switch edge (R287). -/
def State.tachEdge (s : State) (k : Nat) (near : Bool) : State :=
  if s.fanTach k = false ∨ (near = true ∧ s.fanType k = 2 ∧ s.fanDuty k < 1000) then s
  else
    let c := s.fc k
    let es := (s.clk.now :: c.edges).take 5
    let p := s.fanPpr k
    let sp := if p < es.length ∧ 0 < s.clk.now - es.getD p 0 then (divRound (15000000000 * 65536) (s.clk.now - es.getD p 0)).toNat else c.speed
    let fast := decide (s.fanMinRpm k * 65536 < sp)
    (s.setFc k { c with edges := es, speed := sp, lost := 0, good := if fast then c.good + 1 else 0 }).showTach k

/-- TACH_TIMEOUT: no edge within the timeout: the slot reads 0, and the next update acts on a fan in RUN or OPEN (R287, R299). -/
def State.tachTimeout (s : State) (k : Nat) : State :=
  if s.fanTach k = true ∧ (s.fc k).lost = 0 then
    let s1 := s.reachTick (s.tachDue k)
    (s1.setFc k { s1.fc k with lost := 1, good := 0 }).showTach k
  else s

/-- The fan a switch serves (R286). -/
def State.fanOf (s : State) (sw : Nat) : Option Nat := (List.range 16).find? fun k => s.fanType k != 0 && s.fanSw k == some sw

/-- A switch opens as a failed attempt of its fan (R288, R297). -/
def State.swOpen (s : State) (k milli : Nat) : State :=
  let s1 := s.raise 0x0C02 (by1 k ++ by2 milli)
  if s1.duting k ∨ s1.fanSt k = 1 ∨ s1.fanSt k = 7 then s1.fanFail k else s1

/-- SWITCH_TRIP: a switch current of 3.6 A or more opens the switch (R288). -/
def State.switchTrip (s : State) (sw milli : Nat) : State :=
  let s1 := s.putVal (40 + sw) (divRound (65536 * milli : Nat) 1000)
  if milli < 3600 then s1
  else match s1.fanOf sw with
  | some k => s1.swOpen k milli
  | none => { s1 with fan := { s1.fan with opened := bvPut s1.fan.opened sw true } }

/-- FAN_LOCKED_ROTOR: current above LR_ILIM for 20 ms, from 500 ms into a kick or in RUN, TACH_LOST or OPEN (R297). -/
def State.lockedRotor (s : State) (k milli : Nat) : State :=
  match s.fanSw k with
  | none => s
  | some sw =>
    let s1 := s.putVal (40 + sw) (divRound (65536 * milli : Nat) 1000)
    if 20 * s.fx k 16 1 < milli ∧ (s.duting k = true ∨ (s.fanSt k = 1 ∧ msTicks 500 ≤ s.clk.now - (s.fc k).since)) then s1.swOpen k milli else s1

/-- FAN_ENABLE_WRITE: FAN_EN takes a new value; changed bits act at the next zone update (R295). -/
def State.writeFanEn (s : State) (w : Word) : State :=
  let old := s.reg Reg.FAN_EN
  let as := ((List.range 16).filter fun k => bitOf w k != bitOf old k && s.fanType k != 0).map fun k => (k, b2n (bitOf w k))
  { s.setReg Reg.FAN_EN (w32 (fld w 0 16)) with fan := { s.fan with acts := s.fan.acts ++ as } }

/-- FAN_RESTART: a 1 written to FAN_LOCK restarts a LOCKED fan at the next zone update (R296). -/
def State.writeFanLock (s : State) (w : Word) : State :=
  let as := ((List.range 16).filter fun k => bitOf w k && s.bit Reg.FAN_LOCK k).map fun k => (k, 2)
  { s.setReg Reg.FAN_LOCK (s.reg Reg.FAN_LOCK &&& ~~~w) with fan := { s.fan with acts := s.fan.acts ++ as } }

/-- The host watchdog expires (true) or restarts: FAN_WDOG, the duties in force are noted, disabled fans stop on restart (R300). -/
def State.fanWdog (s : State) (expired : Bool) : State :=
  let s1 := s.raise 0x0C09 (by1 (b2n expired) ++ by1 (s.rf Reg.SYS_COMPAT 0 1))
  let s2 := (s1.setBit Reg.FAN_STAT 0 expired).setBit Reg.FAN_STAT 1 (expired && s.bit Reg.SYS_COMPAT 0)
  if expired then (List.range 16).foldl (fun x k => x.setFc k { x.fc k with held := x.fanDuty k }) s2
  else
    let as := ((List.range 16).filter fun k => !s.bit Reg.FAN_EN k && s.fanType k != 0).map fun k => (k, 0)
    { s2 with fan := { s2.fan with acts := s2.fan.acts ++ as } }

/-- The end of a load: FAN_EN from EN0, every fan output the new image changes as if its enable were written anew (R295). `old` is the section before the load. -/
def State.fanLoad (s : State) (old : List Byte) : State :=
  let one (x : State) (k : Nat) : State :=
    let en := (x.fx k 3 1).testBit 0 && x.fanType k != 0
    let same := (old.drop (8 + 24 * k)).take 24 == ((x.sect 10).drop (8 + 24 * k)).take 24
    let as := if same then (if x.bit Reg.FAN_EN k == en then [] else [(k, b2n en)]) else (k, 0) :: (if en then [(k, 1)] else [])
    ({ x.setBit Reg.FAN_EN k en with fan := { x.fan with acts := x.fan.acts ++ as } }).showTach k
  (List.range 16).foldl one { s with fan := { s.fan with sens := [], opened := 0 } }

/-! ### What the outputs drive (R286, R289) -/

/-- Duty on FANk_PWM, unit 0.1 %: 100 % with an empty FAN section. -/
def State.fanPwm (s : State) (k : Nat) : Nat :=
  if s.sys.gaspDone then 0 else if (s.sect 10).length = 0 then 1000 else if s.fanType k = 1 then s.fanDuty k else 0

/-- Duty of switch FPWs, unit 0.1 %: 1,000 closed, 0 open. -/
def State.switchDuty (s : State) (sw : Nat) : Nat :=
  if s.sys.gaspDone then 0
  else if (s.sect 10).length = 0 then (if s.fan.opened.getLsbD sw then 0 else 1000)
  else match s.fanOf sw with
    | some k =>
      if s.fanType k = 2 then s.fanDuty k
      else if s.fanSt k = 0 ∨ s.fanSt k = 2 ∨ s.fanSt k = 4 ∨ s.fanSt k = 5 then 0 else 1000
    | none => 0

/-! ### Meanings -/

/-- ZONE_UPDATE (R292). -/
def execZoneUpdate (milli : List Nat) : State → Out := actNow fun s => s.zoneUpdate milli

/-- TACH_EDGE (R287). -/
def execTachEdge (dt : Nat) (k : Fin 16) (near : Bool) : State → Out := act dt fun s => s.tachEdge k near

/-- TACH_TIMEOUT (R299). -/
def execTachTimeout (k : Fin 16) : State → Out := actNow fun s => s.tachTimeout k

/-- SWITCH_TRIP (R288). -/
def execSwitchTrip (dt : Nat) (sw : Fin 8) (milli : Nat) : State → Out := act dt fun s => s.switchTrip sw milli

/-- FAN_LOCKED_ROTOR (R297). -/
def execFanLockedRotor (dt : Nat) (k : Fin 16) (milli : Nat) : State → Out := act dt fun s => s.lockedRotor k milli

/-- FAN_ENABLE_WRITE (R295). -/
def execFanEnableWrite (w : Word) : State → Out := actNow fun s => s.writeFanEn w

/-- FAN_RESTART (R296). -/
def execFanRestart (w : Word) : State → Out := actNow fun s => s.writeFanLock w

/-- Clear FAN_ATT_CNT (R296). -/
def State.fanClear (s : State) : State := s.setReg Reg.FAN_ATT_CNT 0

/-- FAN_CCLR (R296). -/
def execFanCclr : State → Out := actNow State.fanClear

end Sys2Proof.Machine
end

