-- ==== Sys2Proof/Machine/Ephemeris.lean ====
section
/-! DEFINITION. Ephemeris bins and phase, test-signal injection and response capture (12). What needs a loop's admission stands in Loops. -/

namespace Sys2Proof.Machine

/-! ### Bins (R244 to R246) -/

/-- The bin W of number `b`, Q23.40; 0 where none has written it. -/
def State.bin (s : State) (b : Nat) : Int := storeGet (fun _ => (0 : Int)) s.eph.bins b

/-- Put a bin. -/
def State.setBin (s : State) (b : Nat) (w : Int) : State :=
  { s with eph := { s.eph with bins := storeSet (fun _ => (0 : Int)) s.eph.bins b w } }

/-- The value a bin supplies: b = sat32((W + 2^23) >> 24) (R244). -/
def State.binVal (s : State) (b : Nat) : Int := sat32 (rnd 24 (s.bin b))

/-- Address of a per-loop EPH register. -/
def ephReg (base n : Nat) : Nat := base + 0x40 * n

/-- NB of a loop's allocation; 0: none. -/
def State.ephNb (s : State) (n : Nat) : Nat := s.rf (ephReg Reg.EPH_CFG n) 4 4
/-- N, the number of bins of a loop. -/
def State.ephN (s : State) (n : Nat) : Nat := if s.ephNb n = 0 then 0 else 2 ^ s.ephNb n
/-- BASE of a loop's bins. -/
def State.ephBase (s : State) (n : Nat) : Nat := s.rf (ephReg Reg.EPH_CFG n) 16 16
/-- Whether Ephemeris is enabled on a loop. -/
def State.ephOn (s : State) (n : Nat) : Bool := s.bit (ephReg Reg.EPH_LCTL n) 0
/-- ue of a loop: a double-bit error in region 5 (R250). -/
def State.ephUe (s : State) (n : Nat) : Bool := s.eph.ue.getLsbD n
/-- Put ue of a loop. -/
def State.setUe (s : State) (n : Nat) (b : Bool) : State :=
  ({ s with eph := { s.eph with ue := bvPut s.eph.ue n b } }).setBit (ephReg Reg.EPH_STAT n) 2 b

/-- The initial value of a loop's bin `i`, Q15.16 (R245). -/
def State.binInit (s : State) (n i : Nat) : Int :=
  let o := s.sx 8 (32 * n + 28) 4
  if o = 0 then 0 else s.sxi 8 (o + 4 * i)

/-- The loop that owns a bin, if any (R244). -/
def State.binOwner (s : State) (b : Nat) : Option Nat :=
  (List.range 64).find? fun n => decide (s.ephN n ≠ 0) && decide (s.ephBase n ≤ b) && decide (b < s.ephBase n + s.ephN n)

/-- Every bin of a loop takes 0 (CLEAR) or its initial value (RESTORE), and ue 0 (R252). -/
def State.fillBins (s : State) (n : Nat) (restore : Bool) : State :=
  ((List.range (s.ephN n)).foldl (fun x i =>
    x.setBin (x.ephBase n + i) (if restore then x.binInit n i * 2 ^ 24 else 0)) s).setUe n false

/-- The execution of a loop that has begun and whose output is still to come. -/
def State.runOf (s : State) (n : Nat) : Option LoopRun := s.loop.runs.find? fun r => r.loop == n

/-- The bin updates of an execution are committed, but for the bins that the host has written within it, which are counted (R251, R252). -/
def State.learnCommit (s : State) (r : LoopRun) : State :=
  r.learn.foldl (fun x b => if b.1 ∈ x.eph.hostBins then x.count (Reg.EPH_CDROP_CNT + 4) else x.setBin b.1 b.2) s

/-- With no execution of loop `n` in progress any more, the CLEAR and RESTORE that waited for its end act in order (R252). -/
def State.binsEnd (s : State) (n : Nat) : State :=
  let s1 := s.eph.binOps.foldl (fun x o => if o.1 = n then x.fillBins n o.2 else x) s
  { s1 with eph := { s1.eph with hostBins := s1.eph.hostBins.filter (fun b => s1.binOwner b != some n)
                                 binOps := s1.eph.binOps.filter (fun o => o.1 != n) } }

/-- Whether loop `n`'s execution is in progress: begun, and not yet at its last CORE cycle. -/
def State.inExec (s : State) (n : Nat) : Bool :=
  match s.runOf n with
  | some r => decide (398 * s.clk.now < r.finish)
  | none => false

/-- An execution of loop `n` with its updates committed. -/
def LoopRun.taught (n : Nat) (q : LoopRun) : LoopRun := if q.loop = n then { q with learn := [] } else q

/-- An execution that has completed commits its updates, and what waited for its end acts (R251, R252). -/
def State.learnSettle (s : State) (n : Nat) : State :=
  match s.runOf n with
  | some r =>
    if r.finish ≤ 398 * s.clk.now then
      let s1 := s.learnCommit r
      ({ s1 with loop := { s1.loop with runs := s1.loop.runs.map (LoopRun.taught n) } }).binsEnd n
    else s
  | none => s

/-- EPH_BIN_WRITE: a host write to a bin of an allocated loop; bins that no loop owns are never written (R246, R252). -/
def State.writeBin (s : State) (b : Nat) (w : Word) : State :=
  match s.binOwner b with
  | some n =>
    let s1 := (s.learnSettle n).setBin b (w.toInt * 2 ^ 24)
    if s1.inExec n then { s1 with eph := { s1.eph with hostBins := b :: s1.eph.hostBins } } else s1
  | none => s

/-- CLEAR or RESTORE of a loop acts between two of its executions: at once, or when the one in progress has completed (R252). -/
def State.setBins (s : State) (n : Nat) (restore : Bool) : State :=
  if s.inExec n then { s with eph := { s.eph with binOps := s.eph.binOps ++ [(n, restore)] } }
  else (s.learnSettle n).fillBins n restore

/-! ### Phase reference (R247 to R249) -/

/-- The last two rising edges of a digital input that take part at beat start `tb`: t_1 and t_0 (R248). -/
def State.edgePair (s : State) (di : Nat) (tb : Int) : Option (Int × Int) :=
  match (storeGet (fun _ => []) s.gio.edges di).filter fun t => decide (t + 1000 ≤ tb) with
  | t1 :: t0 :: _ => some (t1, t0)
  | _ => none

/-- The beat start of the present beat in ns of NT. -/
def State.beatNs (s : State) : Int := (s.clk.beat * 50000 : Nat)

/-- T_m of a loop in ns, where two edges have been seen. -/
def State.ephTm (s : State) (n : Nat) : Option Int :=
  (s.edgePair ((s.reg (ephReg Reg.EPH_PREFA n)).toNat % 32) s.beatNs).map fun e => e.1 - e.2

/-- The phase index j of an execution; none when the reference is invalid (R247). -/
def State.phase (s : State) (n : Nat) : Option Nat :=
  let pa := (s.reg (ephReg Reg.EPH_PREFA n)).toNat
  let pb := (s.reg (ephReg Reg.EPH_PREFA n + 4)).toNat
  let nn := s.ephN n
  match s.rf (ephReg Reg.EPH_CFG n) 0 2 with
  | 0 => some ((s.clk.beat * 50) % pa * nn / pa)
  | 1 =>
    match s.edgePair (pa % 32) s.beatNs with
    | some (t1, t0) =>
      let tm := t1 - t0
      let dt := s.beatNs - t1
      if (pb % 65536 * 10000 : Nat) ≤ tm ∧ tm ≤ (pb / 65536 * 10000 : Nat) ∧ dt < 2 * tm ∧ 0 < tm then
        some (min (dt * nn / tm).toNat (nn - 1))
      else none
    | none => none
  | _ => if s.encDecode (pa % 4) = 0 then none else some (((s.encLatched (pa % 4)).emod pb * nn / pb).toNat)

/-- The bin updates of a learning execution with error `e`, as pairs of bin and new value (R250). -/
def State.learnBins (s : State) (n j : Nat) (e : Int) : List (Nat × Int) :=
  let nn := s.ephN n
  let base := s.ephBase n
  let lead := s.rf (ephReg Reg.EPH_PAR n) 0 12
  let fsh := s.rf (ephReg Reg.EPH_PAR n) 16 5
  let lim : Int := (s.reg (ephReg (Reg.EPH_KR + 8) n)).toInt * 2 ^ 24
  let ju := (j + nn - lead) % nn
  let dl := (s.reg (ephReg Reg.EPH_KR n)).toInt * e
  let w := s.bin (base + ju)
  let w1 := if fsh = 0 then w else w - rnd fsh w
  let put (i : Nat) (x : Int) : Nat × Int := (base + i, clampI (-lim) lim x)
  if s.bit (ephReg Reg.EPH_LCTL n) 2 then
    let a := (ju + nn - 1) % nn
    let b := (ju + 1) % nn
    [put ju (w1 + (dl + 1) / 2), put a (s.bin (base + a) + (dl + 2) / 4), put b (s.bin (base + b) + (dl + 2) / 4)]
  else [put ju (w1 + dl)]

/-! ### Injection (R254 to R258) -/

/-- round(65,536 × sin(2πk/1,024)) for k = 0 … 63 (R257). -/
def sinA : List Int :=
  [0, 402, 804, 1206, 1608, 2010, 2412, 2814, 3216, 3617, 4019, 4420, 4821, 5222, 5623, 6023,
   6424, 6824, 7224, 7623, 8022, 8421, 8820, 9218, 9616, 10014, 10411, 10808, 11204, 11600, 11996, 12391,
   12785, 13180, 13573, 13966, 14359, 14751, 15143, 15534, 15924, 16314, 16703, 17091, 17479, 17867, 18253, 18639,
   19024, 19409, 19792, 20175, 20557, 20939, 21320, 21699, 22078, 22457, 22834, 23210, 23586, 23961, 24335, 24708]
/-- The same for k = 64 … 127. -/
def sinB : List Int :=
  [25080, 25451, 25821, 26190, 26558, 26925, 27291, 27656, 28020, 28383, 28745, 29106, 29466, 29824, 30182, 30538,
   30893, 31248, 31600, 31952, 32303, 32652, 33000, 33347, 33692, 34037, 34380, 34721, 35062, 35401, 35738, 36075,
   36410, 36744, 37076, 37407, 37736, 38064, 38391, 38716, 39040, 39362, 39683, 40002, 40320, 40636, 40951, 41264,
   41576, 41886, 42194, 42501, 42806, 43110, 43412, 43713, 44011, 44308, 44604, 44898, 45190, 45480, 45769, 46056]
/-- The same for k = 128 … 191. -/
def sinC : List Int :=
  [46341, 46624, 46906, 47186, 47464, 47741, 48015, 48288, 48559, 48828, 49095, 49361, 49624, 49886, 50146, 50404,
   50660, 50914, 51166, 51417, 51665, 51911, 52156, 52398, 52639, 52878, 53114, 53349, 53581, 53812, 54040, 54267,
   54491, 54714, 54934, 55152, 55368, 55582, 55794, 56004, 56212, 56418, 56621, 56823, 57022, 57219, 57414, 57607,
   57798, 57986, 58172, 58356, 58538, 58718, 58896, 59071, 59244, 59415, 59583, 59750, 59914, 60075, 60235, 60392]
/-- The same for k = 192 … 256. -/
def sinD : List Int :=
  [60547, 60700, 60851, 60999, 61145, 61288, 61429, 61568, 61705, 61839, 61971, 62101, 62228, 62353, 62476, 62596,
   62714, 62830, 62943, 63054, 63162, 63268, 63372, 63473, 63572, 63668, 63763, 63854, 63944, 64031, 64115, 64197,
   64277, 64354, 64429, 64501, 64571, 64639, 64704, 64766, 64827, 64884, 64940, 64993, 65043, 65091, 65137, 65180,
   65220, 65259, 65294, 65328, 65358, 65387, 65413, 65436, 65457, 65476, 65492, 65505, 65516, 65525, 65531, 65535,
   65536]

/-- The first quarter of the table S, k = 0 … 256. -/
def sinQ (k : Nat) : Int :=
  if k < 64 then sinA.getD k 0 else if k < 128 then sinB.getD (k - 64) 0 else if k < 192 then sinC.getD (k - 128) 0 else sinD.getD (k - 192) 0

/-- The table S of R257, k = 0 … 1,023. -/
def sinS (k : Nat) : Int :=
  if k ≤ 256 then sinQ k else if k ≤ 512 then sinQ (512 - k) else if k ≤ 768 then -sinQ (k - 512) else -sinQ (1024 - k)

/-- sin(θ) in Q15.16, θ in units of 2^-32 of a cycle (R257). -/
def sinTheta (theta : Nat) : Int :=
  let k := theta / 2 ^ 22 % 1024
  sinS k + rnd 22 ((sinS ((k + 1) % 1024) - sinS k) * (theta % 2 ^ 22 : Nat))

/-- The pairs (ORD, T) of R257 by code. -/
def prbsPair (c : Nat) : Nat × Nat :=
  match c with
  | 0 => (6, 5)
  | 1 => (7, 6)
  | 2 => (9, 5)
  | 3 => (10, 7)
  | 4 => (11, 9)
  | _ => (15, 14)

/-- A generator at rest. -/
def genNone (_ : Nat) : InjGen := { bound := none, start := 0, theta := 0, lfsr := 0, bit := false }
/-- What a generator holds. -/
def State.gen (s : State) (g : Nat) : InjGen := storeGet genNone s.eph.gens g
/-- Replace what a generator holds. -/
def State.setGen (s : State) (g : Nat) (x : InjGen) : State := { s with eph := { s.eph with gens := storeSet genNone s.eph.gens g x } }
/-- Address of a generator register. -/
def genReg (base g : Nat) : Nat := base + 0x40 * g
/-- LEN of a generator. -/
def State.genLen (s : State) (g : Nat) : Nat := (s.reg (genReg Reg.EPH_IGAMP g + 4)).toNat
/-- m of a generator. -/
def State.genM (s : State) (g : Nat) : Nat := (s.reg (genReg Reg.EPH_IGM g)).toNat
/-- Whether a generator is active. -/
def State.genAct (s : State) (g : Nat) : Bool := s.bit (genReg Reg.EPH_IGCTL g) 25
/-- The generator bound to a loop. -/
def State.genOf (s : State) (n : Nat) : Option Nat := (List.range 4).find? fun g => (s.gen g).bound == some n

/-- Whether a generator's point has an effect in a mode: SP in AUTO and CASCADE, U also in MANUAL (R254). -/
def State.genEffective (s : State) (g mode : Nat) : Bool :=
  mode == 2 || mode == 3 || (mode == 1 && s.bit (genReg Reg.EPH_IGCTL g) 3)

/-- A generator ends: it releases its loop and raises EPH_INJ_END: cause 0 done, 1 ABORT, 2 mode, 3 fallback (R255, R258). -/
def State.genEnd (s : State) (g cause : Nat) : State :=
  let n := (s.gen g).bound.getD 0
  let a := genReg Reg.EPH_IGCTL g
  let s1 := ((s.setGen g { s.gen g with bound := none }).setBit a 24 false).setBit a 25 false
  let s2 := if cause = 0 then s1.setBit a 26 true else s1.setBit a 27 true
  s2.raise 0x0A02 (by1 g ++ by1 n ++ by1 cause ++ by4 (s.genM g))

/-- A channel at rest. -/
def chanNone (_ : Nat) : CapCh := { bound := none, start := none, seen := 0, missed := 0 }
/-- What a capture channel holds. -/
def State.chan (s : State) (c : Nat) : CapCh := storeGet chanNone s.eph.chans c
/-- Replace what a capture channel holds. -/
def State.setChan (s : State) (c : Nat) (x : CapCh) : State := { s with eph := { s.eph with chans := storeSet chanNone s.eph.chans c x } }
/-- Address of a capture-channel register. -/
def chanReg (base c : Nat) : Nat := base + 0x40 * c
/-- The channel bound to a loop. -/
def State.chanOf (s : State) (n : Nat) : Option Nat := (List.range 8).find? fun c => (s.chan c).bound == some n

/-- A capture ends: DONE, its loop is released, and EPH_CAP_DONE is raised (R259). -/
def State.capEnd (s : State) (c : Nat) : State :=
  let n := (s.chan c).bound.getD 0
  let a := chanReg Reg.EPH_CCTL c
  let s1 := (((s.setChan c { s.chan c with bound := none }).setBit a 24 false).setBit a 25 false).setBit a 26 true
  s1.raise 0x0A03 (by1 c ++ by1 n ++ by4 (s.chan c).missed)

/-- The value of generator `g` at its present m, and the generator with θ and the PRBS register moved on (R256, R257). -/
def State.genValue (s : State) (g : Nat) : Int × InjGen :=
  let x := s.gen g
  let m := s.genM g
  let amp := (s.reg (genReg Reg.EPH_IGAMP g)).toInt
  let fi0 : Int := (s.reg (genReg Reg.EPH_IGFI0 g)).toNat
  let fi1 : Int := (s.reg (genReg Reg.EPH_IGFI0 g + 4)).toNat
  match s.rf (genReg Reg.EPH_IGCTL g) 4 2 with
  | 0 => (amp, x)
  | 1 =>
    let hold := max 1 (s.rf (genReg Reg.EPH_IGHOLD g) 0 8)
    let p := prbsPair (s.rf (genReg Reg.EPH_IGCTL g) 6 3)
    if m % hold = 0 then
      let fb := x.lfsr.testBit (p.1 - 1) != x.lfsr.testBit (p.2 - 1)
      (if fb then amp else sat32 (-amp), { x with lfsr := (2 * x.lfsr + b2n fb) % 2 ^ p.1, bit := fb })
    else (if x.bit then amp else sat32 (-amp), x)
  | 2 =>
    let inc := fi0 + ((fi1 - fi0) * m).tdiv (max 1 (s.genLen g))
    (sat32 (rnd 16 (amp * sinTheta x.theta)), { x with theta := ((x.theta + inc).emod (2 ^ 32)).toNat })
  | _ => (sat32 (rnd 16 (amp * sinTheta x.theta)), { x with theta := ((x.theta + fi0).emod (2 ^ 32)).toNat })

/-- A generator starts: it becomes active with m = 0, and channels that wait on it get its start instant (R255, R259). -/
def State.genBegin (s : State) (g : Nat) : State :=
  let a := genReg Reg.EPH_IGCTL g
  let s1 := ((s.setBit a 24 false).setBit a 25 true).setReg (genReg Reg.EPH_IGM g) 0
  (List.range 8).foldl (fun x c =>
    if x.bit (chanReg Reg.EPH_CCTL c) 24 && x.rf (chanReg Reg.EPH_CCTL c) 2 2 == 2 && x.rf (chanReg Reg.EPH_CCTL c) 4 2 == g
    then x.setChan c { x.chan c with start := some x.beatNs } else x) s1

/-- A generator's turn on a due beat of its loop: it starts at or after its start instant, gives its value, and moves on (R255). The value is none while it is not active. -/
def State.genTurn (s : State) (n : Nat) : Option Int × State :=
  match s.genOf n with
  | none => (none, s)
  | some g =>
    let s1 := if s.bit (genReg Reg.EPH_IGCTL g) 24 && decide ((s.gen g).start ≤ s.beatNs) then s.genBegin g else s
    if s1.genAct g ∧ s1.genM g < s1.genLen g then
      let v := s1.genValue g
      (some v.1, (s1.setGen g v.2).setReg (genReg Reg.EPH_IGM g) (w32 (s1.genM g + 1)))
    else (none, s1)

/-! ### Capture (R259 to R261) -/

/-- Where record `i` of channel `c` lies in DRAM (R260). -/
def State.capAddr (s : State) (c i : Nat) : Nat :=
  0x80000000 + 2048 * (s.reg Reg.VSN_CAP_SLOTS).toNat + (s.reg (chanReg Reg.EPH_CBASE c)).toNat + 32 * i

/-- The bytes of a capture record (R260). `learned` and `gap` are its LRN and GAP bits. -/
def capRecord (beat : Nat) (r : LoopRun) (learned gap : Bool) : List Byte :=
  leBytes 4 beat ++ leBytes 4 (w32i r.sp).toNat ++ leBytes 4 r.pv.toNat ++ leBytes 4 (w32i r.u).toNat ++ leBytes 4 (w32i r.ctx.y).toNat
    ++ leBytes 4 (w32i r.ff).toNat ++ leBytes 4 (w32i (r.inj.getD 0)).toNat ++ [r.pvTag]
    ++ [BitVec.ofNat 8 (b2n learned + 2 * b2n r.held + 4 * b2n gap + 8 * b2n r.injOn + 16 * b2n r.lim)]
    ++ leBytes 2 (match r.j with | some j => j | none => 0xFFFF)

/-- A record of a channel is not written: DROP is set, and the records that follow carry GAP (R260 to R262). -/
def State.capMiss (s : State) (c : Nat) : State :=
  (s.setChan c { s.chan c with missed := (s.chan c).missed + 1 }).setBit (chanReg Reg.EPH_CCTL c) 27 true

/-- A record of a channel goes into the queue, or finds it full and is not written, and counted (R260, R261). -/
def State.capPush (s : State) (c i : Nat) (r : LoopRun) (learned : Bool) : State :=
  if s.eph.capq.length < 256 then
    { s with eph := { s.eph with capq := s.eph.capq ++ [(c, i, s.capAddr c i, capRecord s.clk.beat r learned (decide ((s.chan c).missed ≠ 0)))] } }
  else ((s.capMiss c).count Reg.EPH_CDROP_CNT).episode 0x0A04 c (by1 c ++ by4 i)

/-- CAPTURE_QUEUE_WRITE: the oldest queued record goes to DRAM; CIDX names it (R261). -/
def State.capQueueWrite (s : State) : State :=
  match s.eph.capq with
  | [] => s
  | (c, i, a, bs) :: l =>
    (({ s with eph := { s.eph with capq := l } }).dramPut a bs).setReg (chanReg Reg.EPH_CCNT c + 4) (w32 i)

/-! ### Loads (R246) -/

/-- The EPH registers of a loop and its bins take their values from its entry. -/
def State.ephLoadLoop (s : State) (n : Nat) : State :=
  let o := 32 * n
  let f := s.sx 8 o 1
  let used := f.testBit 0
  let nb := if used then s.sx 8 (o + 2) 1 % 16 else 0
  let s1 := s.setReg (ephReg Reg.EPH_LCTL n) (w32 (if used then f / 2 % 8 else 0))
  let s2 := s1.setReg (ephReg Reg.EPH_CFG n) (w32 (if used then s.sx 8 (o + 1) 1 % 4 + 16 * nb + 65536 * s.sx 8 (o + 4) 2 else 0))
  let fields : List Word := [20, 24, 8, 12, 16].map fun k => w32 (s.sx 8 (o + k) 4)
  let s3 := s2.putRegs (ephReg Reg.EPH_PREFA n) fields
  let s5 := s3.setReg (ephReg Reg.EPH_PAR n) (w32 (s.sx 8 (o + 6) 2 % 4096 + 65536 * (s.sx 8 (o + 3) 1 % 32)))
  (List.range (s5.ephN n)).foldl (fun x i => x.setBin (x.ephBase n + i) (x.binInit n i * 2 ^ 24)) (s5.setReg (ephReg Reg.EPH_STAT n) (w32 (4 * b2n (s5.ephUe n))))

/-- Every load sets every bin and EPH register anew (R246); ue stays until CLEAR or RESTORE (R250). -/
def State.ephLoad (s : State) : State :=
  (List.range 64).foldl State.ephLoadLoop { s with eph := { s.eph with bins := [], hostBins := [], binOps := [] } }

/-! ### Meanings that need no admission -/

/-- EPH_CLEAR or EPH_RESTORE of a loop (R252). -/
def State.ephBinsOp (s : State) (n : Nat) (restore : Bool) : State := s.setBins n restore

/-- EPH_CLEAR (R252). -/
def execEphClear (n : Fin 64) : State → Out := actNow fun s => s.ephBinsOp n false

/-- EPH_RESTORE (R252). -/
def execEphRestore (n : Fin 64) : State → Out := actNow fun s => s.ephBinsOp n true

/-- EPH_BIN_WRITE (R252): the bin of the window offset `k` on the page in force. -/
def execEphBinWrite (k : Fin 8192) (w : Word) : State → Out := actNow fun s => s.writeBin (8192 * s.rf Reg.EPH_BPAGE 0 3 + k) w

/-- Clear the EPH counters (R261). -/
def State.ephClearCnt (s : State) : State :=
  (List.range 64).foldl (fun x n => x.setReg (ephReg Reg.EPH_PER n + 4) 0) (s.clearRegs Reg.EPH_CDROP_CNT 2)

/-- EPH_CCLR (R261). -/
def execEphCclr : State → Out := actNow State.ephClearCnt

/-- CAPTURE_QUEUE_WRITE (R261). -/
def execCaptureQueueWrite : State → Out := actNow State.capQueueWrite

end Sys2Proof.Machine
end

