-- ==== Sys2Proof/Machine/Peek.lean ====
section
/-! DEFINITION. What a register shows: the fields that the machine derives from its own state, the window words, and the value a read returns (00 R4, R5; 02 R30). -/

namespace Sys2Proof.Machine

/-! ### The window (01 R25 to R27) -/

/-- The configured size in bytes of the DRAM region an address lies in, with the region's start: none outside the three regions the image sizes (01 R25). -/
def State.dramRegion (s : State) (a : Nat) : Option (Nat × Nat) :=
  if a < 0x80000000 then some (0, 0x2000000 * s.img.jrnSize)
  else if a < 0xC0000000 then some (0x80000000, 0x2000000 * s.img.capSize)
  else if a < 0xFE000000 then some (0xC0000000, 0x2000000 * s.img.rplSize)
  else none

/-- Whether a window word of DRAM is readable storage: inside a region's configured size, the image store or the mirror; not the working area (01 R25). -/
def State.dramShown (s : State) (a : Nat) : Bool :=
  match s.dramRegion a with
  | some r => decide (a < r.1 + r.2)
  | none => decide (a < 0xFF100000)

/-- The word that a window read returns at an address of a target (01 R25 to R27). -/
def State.winWord (s : State) (target a : Nat) : Word :=
  match target with
  | 0 => if s.dramShown a then w32 (leNat ((List.range 4).map fun k => s.dramByte (a + k))) else 0
  | 1 => if a < 0x02000000 then w32 (leNat ((List.range 4).map fun k => s.norByte (a + k))) else 0
  | 2 => if a < 0x00400000 then w32 (leNat ((List.range 4).map fun k => s.kenByte (a + k))) else 0
  | _ => 0

/-- The window word at SYS_WIN_ADDR of SYS_WIN_SEL.TARGET. -/
def State.winHere (s : State) : Word := s.winWord (s.rf Reg.SYS_WIN_SEL 0 2) (s.reg Reg.SYS_WIN_ADDR).toNat

/-! ### Snapshot reading (17 R351) -/

/-- Word `i` of the selected snapshot area; 0 beyond it or while VALID is 0. -/
def State.shtWord (s : State) (i : Nat) : Word :=
  if s.bit Reg.SHT_STAT 1 then (s.sht.copies.getD (s.rf Reg.SHT_RDSEL 0 5) []).getD i 0 else 0

/-- The level of SHT_IO: the pulse in output mode, else the level at the land (17 R348). -/
def State.shtLevel (s : State) : Bool :=
  if s.ef Reg.SHT_IOCFG 0 2 = 2 then
    (match s.sht.pulse with
      | some t => decide (s.clk.now < t + usTicks 1)
      | none => false) != bitOf (s.eff Reg.SHT_IOCFG) 4
  else s.bit Reg.SHT_STAT 3

/-! ### Derived fields, block by block -/

/-- Put a field into a word where it is shown. -/
def shown (w : Word) (lsb n v : Nat) : Word := setFld w lsb n v

/-- SYS registers: identity after BOOT, the device state, the window word (18). -/
def State.peekSys (s : State) (o : Nat) (w : Word) : Word :=
  let id := s.sys.dev != .boot
  match o with
  | 0x04 => if id then Config.logicVersion else 0
  | 0x08 => if id then Config.serialNumber.truncate 32 else 0
  | 0x0C => if id then (Config.serialNumber >>> 32).truncate 32 else 0
  | 0x10 => w32 (s.sys.dev.num + 256 * s.sys.cause + 65536 * s.sys.prev)
  | 0x48 => s.winHere
  | _ => w

/-- CMD and TRN registers: fills, open episodes, the effective gap (04, 05 R95). -/
def State.peekPlan (s : State) (a : Nat) (w : Word) : Word :=
  match a with
  | 0x20010 => shown w 0 15 s.cmd.queue.length
  | 0x20014 => shown (shown w 0 1 (b2n (s.epOpen 0x0202))) 1 1 (b2n (s.epOpen 0x0201))
  | 0x30008 => w32 (s.rf Reg.CMD_MIN_LEAD 0 10 - s.rf Reg.TRN_FREEZE 0 8 - 10)
  | 0x30010 => w32 s.trn.cal.length
  | 0x30018 => shown w 3 1 (b2n (s.epOpen 0x0301))
  | _ => w

/-- PRF registers: the selected profile and the open episode of R123. -/
def State.peekPrf (s : State) (o : Nat) (w : Word) : Word :=
  if o = 0x10 then shown w 3 1 (b2n (s.epOpen 0x0501))
  else if 0x24 ≤ o ∧ o ≤ 0x40 then w32 (leAt (s.prof (s.rf Reg.PRF_RDSEL 0 5)) (o - 0x24) 4)
  else w

/-- TIM registers: NT as it runs and what is left of a switch's residual (09 R170, R178). -/
def State.peekTim (s : State) (o : Nat) (w : Word) : Word :=
  match o with
  | 0x10 => w32 (s.clk.nt / 65536 % 65536)
  | 0x14 => w32 s.ntSub
  | 0x18 => w32 s.ntSec
  | 0x1C => w32 (s.ntSec / 2 ^ 32)
  | 0x60 => w32i s.residNs
  | _ => w

/-- CAN registers: the open CAN_NOACK episode, the live timestamp counter, the shown FIFO entries (15). -/
def State.peekCan (s : State) (x o : Nat) (w : Word) : Word :=
  if o = 0x04 then shown w 3 1 (b2n (findEp s.episodes (canEv x 2) 0).isSome)
  else if o = 0x20 then w32 (s.tsc x s.clk.now)
  else if 0x180 ≤ o ∧ o ≤ 0x1D0 then s.canView x 0 ((o - 0x180) / 4)
  else if 0x280 ≤ o ∧ o ≤ 0x2D0 then s.canView x 1 ((o - 0x280) / 4)
  else w

/-- REC registers: queue fill, the AON counters, the time left of a freeze, the latched slot (16). -/
def State.peekRec (s : State) (o : Nat) (w : Word) : Word :=
  if o = 0x04 then shown w 8 9 s.rcd.queue.length
  else if o = 0x18 then w32 s.rcd.opsec
  else if o = 0x1C then w32 (s.rcd.opsec / 2 ^ 32)
  else if o = 0x20 then w32 s.rcd.pcyc
  else if o = 0x50 then
    match s.rcd.frozenAt with
    | some t => shown w 16 16 (ceilDiv (t + s.freezeMax - s.clk.now) (msTicks 100))
    | none => w
  else if 0x60 ≤ o ∧ o ≤ 0x7C then s.rcd.curData.getD ((o - 0x60) / 4) 0
  else w

/-- SHT registers: the land's level and the selected snapshot words (17 R351). -/
def State.peekSht (s : State) (o : Nat) (w : Word) : Word :=
  if o = 0x04 then shown w 3 1 (b2n s.shtLevel)
  else if o = 0x74 then s.shtWord (s.rf Reg.SHT_RDSEL 16 12)
  else if 0x400 ≤ o ∧ o < 0x800 then s.shtWord (s.rf Reg.SHT_RDSEL 16 12 + (o - 0x400) / 4)
  else w

/-- The value of a bin, with the updates of its loop's completed execution (12 R244, R251). -/
def State.peekBin (s : State) (b : Nat) : Int :=
  match s.binOwner b with
  | some n => (s.learnSettle n).binVal b
  | none => s.binVal b

/-- A monitor's slot as PWR_VMON shows it: `k` units to the unit of the slot, signed in a halfword. -/
def State.monHalf (s : State) (slot k : Nat) : Nat := (w32i (divRound ((s.slot slot).val.toInt * k) 65536)).toNat % 65536

/-- PWR_VMON0 … PWR_VMON9 show the monitors of slots 80 to 98: voltages in 10 mV, temperatures in 0.125 °C (18, PWR registers; 01 R17). -/
def State.peekPwr (s : State) (o : Nat) (w : Word) : Word :=
  let two (lo hi : Nat) : Word := w32 (lo + 65536 * hi)
  if o = 0x20 then two (s.monHalf 80 100) (s.monHalf 94 100)
  else if 0x24 ≤ o ∧ o ≤ 0x38 then two (s.monHalf (82 + (o - 0x24) / 2) 100) (s.monHalf (83 + (o - 0x24) / 2) 100)
  else if o = 0x3C then two (s.monHalf 81 100) (s.monHalf 95 8)
  else if o = 0x40 then two (s.monHalf 96 8) (s.monHalf 97 8)
  else if o = 0x44 then two (s.monHalf 98 8) 0
  else w

/-- What the register at `a` shows, given the word the register store holds. -/
def State.derive (s : State) (a : Nat) (w : Word) : Word :=
  let o := a % 0x10000
  match a / 0x10000 with
  | 0 => s.peekSys o w
  | 2 => s.peekPlan a w
  | 3 => s.peekPlan a w
  | 5 => s.peekPrf o w
  | 6 => if 0x1000 ≤ o ∧ o < 0x3E80 then shown w 16 12 ((fld w 0 16 + 8) / 16) else w
  | 7 => s.peekTim o w
  | 9 => if o = 0x14 then (s.slot (s.rf Reg.LOOP_RDSEL 0 10)).val
         else if o = 0x18 then w32 (s.slot (s.rf Reg.LOOP_RDSEL 0 10)).tag.toNat else w
  | 10 => if 0x8000 ≤ o then w32i (s.peekBin (8192 * s.rf Reg.EPH_BPAGE 0 3 + (o - 0x8000) / 4)) else w
  | 13 => s.peekCan 0 o w
  | 14 => s.peekCan 1 o w
  | 15 => s.peekRec o w
  | 16 => s.peekSht o w
  | 17 => s.peekPwr o w
  | _ => w

/-- WO bits of a register; they read 0 (00 R5). -/
def woMask (a : Nat) : Word :=
  match regRow a with
  | some r => BitVec.ofNat 32 r.wo
  | none => 0

/-- The value a read of the register at `a` finds: the performed value, whether or not it is in effect (02 R30). -/
def State.peek (s : State) (a : Nat) : Word := s.derive a (s.reg a &&& ~~~woMask a)

/-- The value of the register at `a` that is in effect (17 R349). -/
def State.peekEff (s : State) (a : Nat) : Word := s.derive a (s.eff a &&& ~~~woMask a)

end Sys2Proof.Machine
end

