-- ==== Sys2Proof/Machine/Shutter.lean ====
section
/-! DEFINITION. The Shutter: triggers, the snapshot, the AT trigger, SHT_IO, reading (17). -/

namespace Sys2Proof.Machine

/-! ### What is latched (R349; 18 R375) -/

/-- `n` register addresses from `a` up, `stride` bytes apart. -/
def regRun (a n stride : Nat) : List Nat := (List.range n).map fun i => a + stride * i

/-- The registers of an area of R349, in its order; the fabric is no register. -/
def shtRegs : Nat → List Nat
  | 0x00 => [Reg.SYS_STATE, Reg.SYS_STATUS]
  | 0x01 => [Reg.IMG_STATUS, Reg.IMG_SERIAL, Reg.IMG_SWAP_CTL]
  | 0x02 => [Reg.CMD_QFILL, Reg.CMD_SHED_LVL, Reg.CMD_STAT, Reg.CMD_ACC_LO, Reg.CMD_ACC_HI] ++ regRun Reg.CMD_REJ_CNT 14 4 ++ regRun Reg.CMD_DROP_CNT 4 4
  | 0x03 => [Reg.TRN_CAL_FILL, Reg.TRN_STAT, Reg.TRN_SHOT_LO, Reg.TRN_SHOT_HI] ++ regRun Reg.TRN_JOIN_CNT 9 4
  | 0x04 => [Reg.BNK_BKEN, Reg.BNK_DRY] ++ regRun Reg.BNK_CHEN 3 4 ++ regRun Reg.BNK_CHST 6 4 ++ [Reg.BNK_BKST, Reg.BNK_DIEFLT]
      ++ regRun Reg.BNK_BKFLT 12 4 ++ regRun Reg.BNK_CHFLT 96 4
  | 0x05 => [Reg.PRF_VBST, Reg.PRF_VBST_LOWEST, Reg.PRF_STAT, Reg.PRF_VFLT]
  | 0x06 => [Reg.VSN_JWR, Reg.VSN_JSEQ, Reg.VSN_CAP_SEQ] ++ regRun Reg.VSN_FAILED 3 4 ++ regRun Reg.VSN_VSTAT 96 4
  | 0x07 => [Reg.TIM_STAT, Reg.TIM_FREQ, Reg.TIM_PHASE, Reg.TIM_OFS_A, Reg.TIM_OFS_B, Reg.TIM_TRK_LO, Reg.TIM_TRK_HI, Reg.TIM_SW_RESID]
  | 0x08 => Reg.NET_STAT :: regRun Reg.NET_DUP_CNT 14 4
  | 0x09 => (List.range 64).flatMap fun n => [Reg.LOOP_CTL + 0x80 * n, Reg.LOOP_STAT + 0x80 * n] ++ regRun (Reg.LOOP_OUT + 0x80 * n) 4 4
  | 0x0A => regRun Reg.EPH_STAT 64 0x40 ++ regRun Reg.EPH_IGCTL 4 0x40 ++ regRun Reg.EPH_CCTL 8 0x40
  | 0x0B => Reg.AFE_STAT :: regRun Reg.AFE_CHST 16 4 ++ regRun Reg.AFE_RAW 16 4 ++ regRun Reg.AFE_EXC 8 4
  | 0x0C => Reg.FAN_STAT :: regRun Reg.FAN_ST 16 4 ++ regRun Reg.FAN_ZST 8 4
  | 0x0D => [Reg.CAN_STAT 0, Reg.CAN_TXERR 0, Reg.CAN_RXERR 0, Reg.CAN_RXF_ST 0, Reg.CAN_RXF_ST 0 + 0x100, Reg.CAN_TXQ_ST 0, Reg.CAN_TSC 0]
  | 0x0E => [Reg.CAN_STAT 1, Reg.CAN_TXERR 1, Reg.CAN_RXERR 1, Reg.CAN_RXF_ST 1, Reg.CAN_RXF_ST 1 + 0x100, Reg.CAN_TXQ_ST 1, Reg.CAN_TSC 1]
  | 0x0F => [Reg.REC_STAT, Reg.REC_POS, Reg.REC_WRAP, Reg.REC_FIDX]
  | 0x11 => [Reg.PWR_STAT, Reg.PWR_PFCFG] ++ regRun Reg.PWR_RET0 4 4 ++ regRun Reg.PWR_VMON 10 4
  | 0x12 => [Reg.GIO_DI, Reg.GIO_DO, Reg.GIO_DOFLT, Reg.GIO_AOSTAT] ++ regRun Reg.GIO_ENC 4 4
  | _ => []

/-- The words of an area on this tick: each the value in effect. -/
def State.areaWords (s : State) (area : Nat) : List Word :=
  if area = 0x13 then (List.range 1024).flatMap fun n => [(s.slot n).val, w32 (s.slot n).tag.toNat]
  else (shtRegs area).map s.peekEff

/-! ### Triggers (R345, R346, R350) -/

/-- Causes of `SHT_SNAP_CAUSE` by bit: 0 NOW, 1 AT, 2 EVENT, 3 IO. -/
structure Trigger where
  cause : Nat
  code : Nat
  deriving DecidableEq, Repr

/-- The AT trigger, if its instant has come: it acts and is consumed. -/
def State.atActs (s : State) : Bool := s.bit Reg.SHT_STAT 2 && s.ntAtLeast s.sht.atInst

/-- The matching events that act by this tick: those that reached SHT on an earlier one. -/
def State.evActs (s : State) : List (Nat × Nat) := s.sht.evPend.filter fun p => decide (p.1 < s.clk.now)

/-- Take a snapshot of this tick for a trigger, with the AT trigger and the events that act on it as further causes. -/
def State.snapshot (s : State) (t : Trigger) : State :=
  let at' := s.atActs
  let ev := s.evActs
  let cause := (2 ^ t.cause ||| 2 * b2n at') ||| 4 * b2n (!ev.isEmpty)
  let code := if t.cause = 2 then t.code else (ev.head?.map (·.2)).getD 0
  let areas := (List.range 0x14).map s.areaWords
  let s1 := ((((s.setReg Reg.SHT_SEQ (s.reg Reg.SHT_SEQ + 1)).setBit Reg.SHT_STAT 0 true).setBit Reg.SHT_STAT 1 true).setReg Reg.SHT_SNAP_CAUSE
    (w32 (cause + 65536 * code))).putRegs Reg.SHT_SNAP_NS [w32 s.ntSub, w32 s.ntSec, w32 (s.ntSec / 2 ^ 32)]
  let s2 := if at' then s1.setBit Reg.SHT_STAT 2 false else s1
  let pulse := s.ef Reg.SHT_IOCFG 0 2 == 2 && (!bitOf (s.eff Reg.SHT_IOCFG) 3 || cause % 4 != 0)
  let s3 := { s2 with sht := { s2.sht with copies := areas, snapTick := some s.clk.now, pulse := if pulse then some s.clk.now else s2.sht.pulse
                                           evPend := s2.sht.evPend.filter fun p => decide (s.clk.now ≤ p.1) } }
  s3.raise 0x1001 (by4 (s3.reg Reg.SHT_SEQ).toNat ++ by1 cause ++ by2 code)

/-- A trigger acts: it takes a snapshot while the Shutter is armed, joins the snapshot of its own tick, or is missed (R345). -/
def State.shtTrigger (s : State) (t : Trigger) : State :=
  if s.bit Reg.SHT_STAT 0 = false then s.snapshot t
  else if s.sht.snapTick = some s.clk.now then
    let s1 := s.setBit Reg.SHT_SNAP_CAUSE t.cause true
    if t.cause = 2 ∧ s.bit Reg.SHT_SNAP_CAUSE 2 = false then s1.setRf Reg.SHT_SNAP_CAUSE 16 16 t.code else s1
  else (s.count Reg.SHT_MISS_CNT).episode 0x1002 0 (by1 t.cause)

/-- REARM: HELD clears (R350). -/
def State.shtRearm (s : State) : State :=
  { s.setBit Reg.SHT_STAT 0 false with sht := { s.sht with snapTick := none } }

/-! ### The AT trigger (R347) -/

/-- The instant in the SHT_AT registers, ns of NT. -/
def State.shtAtRegs (s : State) : Int :=
  (((s.reg (Reg.SHT_AT_NS + 8)).toNat * 2 ^ 32 + (s.reg (Reg.SHT_AT_NS + 4)).toNat) * 1000000000 + (s.reg Reg.SHT_AT_NS).toNat : Nat)

/-- Whether ATARM is refused: an AT trigger is pending, or the instant is past, more than 10.000 s ahead, or has nanoseconds above 999,999,999. -/
def State.atRefused (s : State) : Bool :=
  s.bit Reg.SHT_STAT 2 || decide (999999999 < (s.reg Reg.SHT_AT_NS).toNat) || s.ntAtLeast s.shtAtRegs
    || decide ((s.clk.nt : Int) + 10000000000 * 2 ^ 32 < s.shtAtRegs * 2 ^ 32)

/-- Arm the AT trigger at the instant of the SHT_AT registers. -/
def State.atArm (s : State) : State := { s.setBit Reg.SHT_STAT 2 true with sht := { s.sht with atInst := s.shtAtRegs } }

/-- ATARM with its checks; answers the status. -/
def State.shtAtarm (s : State) : Nat × State := if s.atRefused then (1, s) else (0, s.atArm)

/-- ATCANCEL: a pending AT trigger that has not yet acted is cleared. -/
def State.shtAtcancel (s : State) : State := s.setBit Reg.SHT_STAT 2 false

/-- SHT_AT: the instant takes effect; the trigger is consumed whether or not a snapshot results. -/
def State.shtAt (s : State) : State :=
  if s.bit Reg.SHT_STAT 2 then ((s.reachNt s.sht.atInst).setBit Reg.SHT_STAT 2 false).shtTrigger ⟨1, 0⟩ else s

/-! ### EVENT and IO (R346, R348) -/

/-- SHT_EVENT: the oldest matching event acts, at most 40 ns after it entered the event bus. -/
def State.shtEvent (dt : Nat) (s0 : State) : State :=
  let s := if s0.sht.evPend.isEmpty then s0.settle else s0
  match s.sht.evPend with
  | [] => s.advance dt
  | p :: ps =>
    let s1 := s.advance (min dt (p.1 + 10 - s.clk.now))
    ({ s1 with sht := { s1.sht with evPend := ps } }).shtTrigger ⟨2, p.2⟩

/-- SHT_IO_EDGE: the land has held its new level for 40 ns. In input mode the selected edge triggers; in output mode SHT_IO is never an input. -/
def State.shtEdge (s : State) (level : Bool) : State :=
  if s.ef Reg.SHT_IOCFG 0 2 = 2 then s
  else
    let s1 := s.setBit Reg.SHT_STAT 3 level
    if s.ef Reg.SHT_IOCFG 0 2 = 1 ∧ s.bit Reg.SHT_STAT 3 ≠ level ∧ bitOf (s.eff Reg.SHT_IOCFG) 2 ≠ level then s1.shtTrigger ⟨3, 0⟩ else s1

/-! ### Clearing and reading (R351) -/

/-- CCLR: SHT_MISS_CNT clears. -/
def State.shtClear (s : State) : State := s.setReg Reg.SHT_MISS_CNT 0

/-- What a write of SHT_CTL does on the tick on which it takes effect: REARM stands before a trigger of the same tick (R350), the other bits act in ascending order. -/
def State.shtActs (s : State) (ones : Word) : State :=
  let s1 := if bitOf ones 3 then s.shtRearm else s
  let s2 := if bitOf ones 0 then s1.shtTrigger ⟨0, 0⟩ else s1
  let s3 := if bitOf ones 1 then s2.shtAtarm.2 else s2
  let s4 := if bitOf ones 2 then s3.shtAtcancel else s3
  if bitOf ones 4 then s4.shtClear else s4

/-- A read of SHT_RDDATA: the selected word, and INDEX advances, but not beyond the area or while VALID is 0. -/
def State.readSht (s : State) : Word × State :=
  let i := s.rf Reg.SHT_RDSEL 16 12
  let n := (s.sht.copies.getD (s.rf Reg.SHT_RDSEL 0 5) []).length
  (s.shtWord i, if s.bit Reg.SHT_STAT 1 = true ∧ i < n then s.setRf Reg.SHT_RDSEL 16 12 (i + 1) else s)

/-! ### Meanings -/

/-- SHT_NOW (R345): the NOW trigger takes effect. -/
def execShtNow : State → Out := actNow fun s => s.shtTrigger ⟨0, 0⟩

/-- SHT_ATARM (R347). -/
def execShtAtarm : State → Out := actNow fun s => s.shtAtarm.2

/-- SHT_AT (R345). -/
def execShtAt : State → Out := actNow State.shtAt

/-- SHT_ATCANCEL (R347). -/
def execShtAtcancel : State → Out := actNow State.shtAtcancel

/-- SHT_EVENT (R346). -/
def execShtEvent (dt : Nat) : State → Out := actNow fun s => s.shtEvent dt

/-- SHT_IO_EDGE (R348). -/
def execShtIoEdge (dt : Nat) (level : Bool) : State → Out := act dt fun s => s.shtEdge level

/-- SHT_REARM (R350). -/
def execShtRearm : State → Out := actNow State.shtRearm

/-- SHT_CCLR (R345). -/
def execShtCclr : State → Out := actNow State.shtClear

/-- SHT_RDDATA_READ (R351). -/
def execShtRddataRead : State → Out := actNow fun s => s.readSht.2.answer 0 1 [s.readSht.1]

end Sys2Proof.Machine
end

