-- ==== Sys2Proof/Machine/Faults.lean ====
section
/-! DEFINITION. Drive-path faults, their actions, and clearing them (08). -/

namespace Sys2Proof.Machine

/-- Address of a channel's fault register. -/
def chF (v : Nat) : Nat := Reg.BNK_CHFLT + 4 * v

/-- Address of a bank's fault register. -/
def bkF (b : Nat) : Nat := Reg.BNK_BKFLT + 4 * b

/-- A channel enters its safe state: its switches open, HB opens if it boosted, its shot is cut short (R163). -/
def State.safeChannel (s : State) (v : Nat) : State :=
  let s1 := ((s.dropHb v).propOpen v).showSafe (bankOf v)
  match s1.runningShot v with
  | some h => s1.cutShot h true
  | none => s1

/-- A bank enters its safe state: HB, HS and every channel's switches open, and its shots are cut short (R163). -/
def State.safeBank (s : State) (b : Nat) : State :=
  let s1 := (valvesOf b).foldl State.propOpen ((s.openHb b).showSafe b)
  let s2 := s1.refreshHs
  s2.trn.shots.foldl (fun x h => if bankOf h.req.valve = b then x.cutShot h true else x) s2

/-- A channel fault of BNK_CH_FAULT: latch a bit and report (R164, R167). `imax`: the highest corrected current code. -/
def State.chFault (s : State) (v bit cause imax : Nat) : State :=
  (s.setBit (chF v) bit true).raise 0x0410 (by1 v ++ by1 cause ++ by2 (sat 4095 imax))

/-- The shot running on a valve keeps the highest corrected code known of it (R167). -/
def State.keepImax (s : State) (v imax : Nat) : State :=
  match s.runningShot v with
  | some h => s.putShot { h with imax := max h.imax imax }
  | none => s

/-- The highest code that a fault of a channel reports: the highest of the shot that runs on it so far, or the one found now (R167). -/
def State.faultCode (s : State) (v imax : Nat) : Nat :=
  match s.runningShot v with
  | some h => max h.imax imax
  | none => imax

/-- Whether LS of a channel began to conduct no more than 5 µs ago (R164). -/
def State.conductsNew (s : State) (v : Nat) : Bool :=
  let last := storeGet (fun _ => 0) s.drv.lastClose v
  last != 0 && decide (s.clk.now ≤ last - 1 + usTicks 5)

/-- OVERCURRENT: LS current at or above 4.6 A, detected now; within 5 µs of the conduction it is a SHORT. The switches have opened `lat` ticks later, at most 1.0 µs (R164). -/
def State.overcurrent (s : State) (v lat imax : Nat) : State :=
  let early := s.conductsNew v
  let s1 := (s.keepImax v imax).chFault v (b2n early) (b2n early) (s.faultCode v imax)
  let s2 := if early then ({ s1 with drv := { s1.drv with shortRep := bvPut s1.drv.shortRep v true } }).setCondition v 4 true none else s1
  (s2.advance (min lat (usTicks 1))).safeChannel v

/-- The tick of a channel's open-load test, if it can be made: on a shot, OL_TIME after its open instant, provided LS has stayed closed; on a proportional channel, from OL_TIME after its first set current above 100 mA on (R164). -/
def State.olTick (s : State) (v : Nat) : Option Nat :=
  let ol := usTicks (s.ef Reg.BNK_FLT_CFG 8 8)
  match s.runningShot v with
  | some h =>
    if !h.dry && s.drv.ls.getLsbD v && closedFrom v (h.openTick + ol) none s.drv.marks == some h.openTick then some (h.openTick + ol) else none
  | none =>
    let f := storeGet (fun _ => 0) s.drv.olFrom v
    if s.propActive v && f != 0 then some (f - 1 + ol) else none

/-- OPEN_LOAD: the open-load test of a channel finds `cur` mA: below 50 mA it is reported, at 50 mA or more a report ends (R164). -/
def State.openLoad (s : State) (v cur : Nat) : State :=
  match s.olTick v with
  | none => s
  | some n =>
    let b := bankOf v
    let below := decide (cur < 50)
    let s1 := s.reachTick n
    let s2 := { s1.setBit (chF v) 2 below with drv := { s1.drv with openRep := bvPut s1.drv.openRep v below } }
    if below then (s2.setCondition v 3 true none).episode 0x0411 b (by1 b ++ by1 v) else s2.setCondition v 3 false none

/-- STUCKON: current or drain level on an idle channel (R164). -/
def State.stuckOn (s : State) (v : Nat) (imax : Nat) : State :=
  let s1 := (s.chFault v 3 2 imax).safeBank (bankOf v)
  ({ s1 with drv := { s1.drv with shortRep := bvPut s1.drv.shortRep v true } }).setCondition v 4 true none

/-- A corrected code as it is reported, or a free value (assumption 46). -/
def State.someCode (s : State) (c : Option (BitVec 12)) : Nat × State :=
  match c with
  | some x => (x.toNat, s)
  | none => (s.draw.1.toNat % 4096, s.draw.2)

/-- BOOST_TIMEOUT_FAULT: BSTTO_N consecutive shots with BSTTO (R164). `code`: the highest of the last shot counted. -/
def State.boostTimeout (s : State) (v : Nat) (code : Option (BitVec 12)) : State :=
  if s.ef Reg.BNK_FLT_CFG 0 4 ≤ s.rf (chF v) 8 4 ∧ s.bit (chF v) 4 = false then
    let c := s.someCode code
    c.2.chFault v 4 3 (c.2.faultCode v c.1)
  else s

/-- RELEASE_OVERRUN_FAULT: RELX_N consecutive shots with RELX (R164). -/
def State.releaseOverrun (s : State) (v : Nat) (code : Option (BitVec 12)) : State :=
  if s.ef Reg.BNK_FLT_CFG 4 4 ≤ s.rf (chF v) 12 4 ∧ s.bit (chF v) 5 = false then
    let c := s.someCode code
    (c.2.chFault v 5 4 c.1).safeChannel v
  else s

/-- A bank fault of BNK_BK_FAULT (R164, R167): HB (0), HS (1), VLS undervoltage (2). -/
def State.bkFault (s : State) (b cause : Nat) : State :=
  let s1 := s.setBit (bkF b) cause true
  let s2 := if cause < 2 then { s1 with drv := { s1.drv with hbFltTick := storeSet (fun _ => 0) s1.drv.hbFltTick (2 * b + cause) (s1.clk.now + 1) } } else s1
  (s2.safeBank b).raise 0x0412 (by1 b ++ by1 cause ++ by2 (s.vls b))

/-- VLS_RECOVER: VLSb at or above 8.5 V for 1 ms (R164). -/
def State.vlsRecover (s : State) (b q : Nat) : State := (((s.setVls b q).setBit (bkF b) 2 false).showSafe b).refreshHs

/-- OV1: VBST above VBST_SET + 6 V for 10 µs: the boost controller stops and fast decays clamp (R164). -/
def State.ov1 (s : State) (r : Rail) : State :=
  let s1 := s.readRail r
  ((s1.setBit Reg.PRF_VFLT 0 true).toClamps.boostStop).raise 0x0510 (by1 1 ++ by2 s1.vbst)

/-- OV1_END: VBST below VBST_SET + 2 V (R164). -/
def State.ov1End (s : State) (r : Rail) : State :=
  let s1 := (s.readRail r).setBit Reg.PRF_VFLT 0 false
  if s.bit Reg.PRF_VFLT 0 then (if s1.absorbing then s1 else s1.toFast).boostStartUp else s1

/-- OV2: VBST above 82.0 V for 2 µs: device SAFE (R164; 18 code 15). -/
def State.ov2 (s : State) (r : Rail) : State :=
  let s1 := s.readRail r
  ((s1.setBit Reg.PRF_VFLT 1 true).raise 0x0510 (by1 2 ++ by2 s1.vbst)).openAll.faultSafe 15 true true

/-- VBST_UV (R164): `start`: no regulation 50 ms after the controller started. -/
def State.vbstUv (s : State) (r : Rail) (start : Bool) : State :=
  let s1 := s.readRail r
  (s1.setBit Reg.PRF_VFLT 2 true).raise 0x0511 (by2 s1.vbst ++ by1 (b2n start))

/-- A die's junction temperature, unit 0.125 °C, signed: slot 96 + k (01 R17). -/
def State.setDieTemp (s : State) (d : Nat) (t : Int) : State := s.putVal (96 + d) (t * 8192)

/-- A die's junction temperature, unit 0.125 °C. -/
def State.dieTemp (s : State) (d : Nat) : Int := (s.slot (96 + d)).val.toInt / 8192

/-- DIE_TEMP_WARNING: at or above 140 °C (R164). -/
def State.tempWarn (s : State) (d : Nat) (t : Int) : State :=
  ((s.setDieTemp d t).setBit Reg.BNK_DIEFLT d true).raise 0x0413 (by1 d ++ by1 0 ++ leBytes 2 (w32i t).toNat)

/-- Show in the banks of a die whether a die fault holds them (BKFLT.DIE): overtemperature shutdown or link loss. -/
def State.dieHold (s : State) (d : Nat) : State :=
  let on := s.bit Reg.BNK_DIEFLT (4 + d) || s.bit Reg.BNK_DIEFLT (8 + d)
  (banksOf d).foldl (fun x b => (x.setBit (bkF b) 3 on).showSafe b) s

/-- DIE_TEMP_SHUTDOWN: at or above 165 °C: the die's four banks enter their safe states (R164). -/
def State.tempShutdown (s : State) (d : Nat) (t : Int) : State :=
  let s1 := ((s.setDieTemp d t).setBit Reg.BNK_DIEFLT (4 + d) true).dieHold d
  ((banksOf d).foldl State.safeBank s1).raise 0x0413 (by1 d ++ by1 1 ++ leBytes 2 (w32i t).toNat)

/-- DIE_LINK_LOSS: the die opens all its switches, and the device enters SAFE (R164). `hub`: detected at the hub. -/
def State.linkLoss (s : State) (d : Nat) (hub : Bool) : State :=
  let s1 := ({ s with drv := { s.drv with linkUp := bvPut s.drv.linkUp d false, linkHub := bvPut s.drv.linkHub d hub } }).setBit Reg.BNK_DIEFLT (8 + d) true
  let s2 := (banksOf d).foldl State.safeBank (s1.dieHold d)
  (s2.raise 0x0414 (by1 d ++ by1 (b2n hub))).faultSafe 15 true true

/-- DRV_EN_LOW: every LS, FW and HB opens by hard wire; from ARMED or DRY the device enters SAFE (R164). -/
def State.drvLow (s : State) : State :=
  let s1 := ((s.setBit Reg.BNK_DIEFLT 12 true).setBit Reg.BNK_DIEFLT 13 true).openAll
  let s2 := { s1 with sys := { s1.sys with drvEnLow := true } }
  let s3 := s2.trn.shots.foldl (fun x h => x.cutShot h true) s2
  (s3.raise 0x0415 (by1 s.sys.dev.num)).faultSafe 16 true false

/-- DRV_EN_HIGH (R164). -/
def State.drvHigh (s : State) : State := { s.setBit Reg.BNK_DIEFLT 12 false with sys := { s.sys with drvEnLow := false } }

/-! ### Clearing (R166) -/

/-- The bits of a fault register whose recovery condition holds now (R164, R166). -/
def State.clearable (s : State) (a w : Nat) : Nat :=
  let keep (i : Nat) (ok : Bool) : Nat := if w.testBit i ∧ ok = true then 2 ^ i else 0
  if Reg.BNK_CHFLT ≤ a ∧ a < Reg.BNK_CHFLT + 384 then keep 0 true + keep 1 true + keep 3 true + keep 4 true + keep 5 true
  else if Reg.BNK_BKFLT ≤ a ∧ a < Reg.BNK_BKFLT + 48 then
    let b := (a - Reg.BNK_BKFLT) / 4
    let ten (i : Nat) : Bool := decide (storeGet (fun _ => 0) s.drv.hbFltTick (2 * b + i) + msTicks 10 ≤ s.clk.now + 1)
    keep 0 (ten 0) + keep 1 (ten 1)
  else if a = Reg.BNK_DIEFLT then
    ((List.range 3).map fun d => keep (4 + d) (decide (s.dieTemp d < 145 * 8)) + keep (8 + d) (s.drv.linkUp.getLsbD d)).sum + keep 13 (!s.sys.drvEnLow)
  else if a = Reg.PRF_VFLT then keep 1 (decide (s.vbst ≤ 328))
  else 0

/-- FAULT_CLEAR: a write of 1 to latched fault bits; each bit whose recovery condition holds is set to clear, and the clear crosses to the dies with the writes before and after it (R166; 01 R22; 02 R32). -/
def State.faultClear (s : State) (a w : Nat) : State :=
  let bits := s.clearable a w &&& (s.reg a).toNat
  if bits = 0 then s
  else { s with flights := s.flights ++ [{ dom := .drv, addr := a, before := s.reg a, data := w32 bits, mask := w32 bits, issued := s.clk.now }] }

/-- Whether an address is that of a channel's fault register. -/
def isChF (a : Nat) : Bool := decide (Reg.BNK_CHFLT ≤ a) && decide (a < Reg.BNK_CHFLT + 384)

/-- Whether an address is that of a bank's fault register. -/
def isBkF (a : Nat) : Bool := decide (Reg.BNK_BKFLT ≤ a) && decide (a < Reg.BNK_BKFLT + 48)

/-- Whether an address holds latched fault bits that software clears. -/
def isFltReg (a : Nat) : Bool := isChF a || isBkF a || a == Reg.BNK_DIEFLT || a == Reg.PRF_VFLT

/-- A clear has crossed to the dies, where it takes effect with the currents concerned (R166). -/
def State.clearArrives (s : State) (f : Flight) : State :=
  { s with drv := { s.drv with clears := s.drv.clears ++ [⟨f.addr, f.data.toNat, f.issued⟩] } }

/-- The channels whose currents a clear waits for (R166): those the fault held. -/
def clearChannels (a bits : Nat) : List Nat :=
  if isChF a then
    let v := (a - Reg.BNK_CHFLT) / 4
    if bits.testBit 3 then valvesOf (bankOf v) else [v]
  else if isBkF a then valvesOf ((a - Reg.BNK_BKFLT) / 4)
  else if a = Reg.BNK_DIEFLT ∧ bits.testBit 13 = false then
    ((List.range 3).filter fun d => bits.testBit (4 + d) || bits.testBit (8 + d)).flatMap fun d => (banksOf d).flatMap valvesOf
  else List.range 96

/-- Whether the current of every channel concerned is below 20 mA (R166). -/
def State.clearReady (s : State) (c : FltClear) : Bool := !((clearChannels c.addr c.bits).any s.conducting)

/-- The first clear that may take effect, and the others in order. -/
def State.takeClear (s : State) : List FltClear → Option (FltClear × List FltClear)
  | [] => none
  | c :: cs => if s.clearReady c then some (c, cs) else (s.takeClear cs).map fun p => (p.1, c :: p.2)

/-- The ticks after which a clear takes effect: those given, but within the crossing bound from its write on (R166; 01 R22). -/
def State.clearWait (s : State) (dt : Nat) : Nat :=
  match s.takeClear s.drv.clears with
  | some (c, _) => min dt (c.issued + 400 - s.clk.now)
  | none => dt

/-- The safe states follow after a clear, and the reports of open and short with them (R164, R166). SHORT of VSN ends when the last channel fault that set it is cleared. -/
def State.afterClear (s : State) (a bits : Nat) : State :=
  if isChF a then
    let v := (a - Reg.BNK_CHFLT) / 4
    let s1 := (s.showSafe (bankOf v)).refreshHs
    if (bits.testBit 1 || bits.testBit 3) && !s1.bit a 1 && !s1.bit a 3 then
      ({ s1 with drv := { s1.drv with shortRep := bvPut s1.drv.shortRep v false } }).setCondition v 4 false none
    else s1
  else if isBkF a then (s.showSafe ((a - Reg.BNK_BKFLT) / 4)).refreshHs
  else if a = Reg.BNK_DIEFLT then ((List.range 3).foldl State.dieHold s).refreshHs
  else s

/-- The bits of a clear whose detection condition holds now (R164, R166): those the dies report, and those the module's own state shows. -/
def State.standing (s : State) (a bits : Nat) (on : StillOn) : Nat :=
  let keep (i : Nat) (b : Bool) : Nat := if bits.testBit i ∧ b = true then 2 ^ i else 0
  if isChF a then keep 0 (on.bits.testBit 0) + keep 1 (on.bits.testBit 1) + keep 3 (on.bits.testBit 3)
  else if isBkF a then keep 0 (on.bits.testBit 0) + keep 1 (on.bits.testBit 1)
  else if a = Reg.BNK_DIEFLT then
    ((List.range 3).map fun d => keep (4 + d) (decide (165 * 8 ≤ s.dieTemp d)) + keep (8 + d) (!s.drv.linkUp.getLsbD d)).sum + keep 13 s.sys.drvEnLow
  else keep 1 (decide (328 < s.vbst))

/-- The event of a fault bit that stands is raised again (R166, R167). -/
def State.reRaise (s : State) (a code i : Nat) : State :=
  if isChF a then s.raise 0x0410 (by1 ((a - Reg.BNK_CHFLT) / 4) ++ by1 (if i = 3 then 2 else i) ++ by2 (sat 4095 code))
  else if isBkF a then s.raise 0x0412 (by1 ((a - Reg.BNK_BKFLT) / 4) ++ by1 i ++ by2 (s.vls ((a - Reg.BNK_BKFLT) / 4)))
  else if a = Reg.PRF_VFLT then s.raise 0x0510 (by1 2 ++ by2 s.vbst)
  else if i = 13 then s.raise 0x0415 (by1 s.sys.dev.num)
  else if i < 8 then s.raise 0x0413 (by1 (i - 4) ++ by1 1 ++ leBytes 2 (w32i (s.dieTemp (i - 4))).toNat)
  else s.raise 0x0414 (by1 (i - 8) ++ by1 (b2n (s.drv.linkHub.getLsbD (i - 8))))

/-- Fault bits clear: a boost-timeout or release-overrun fault ends with its run (DEDUCED, assumption 45), and BNK_FLT_CLEAR is raised. -/
def State.clearBits (s : State) (a bits : Nat) : State :=
  if bits = 0 then s
  else
    let s1 := s.setReg a (s.reg a &&& ~~~(w32 bits))
    let s2 := if isChF a ∧ bits.testBit 4 then s1.setRf a 8 4 0 else s1
    let s3 := if isChF a ∧ bits.testBit 5 then s2.setRf a 12 4 0 else s2
    (s3.afterClear a bits).raise 0x0416
      (by1 (if isChF a then (a - Reg.BNK_CHFLT) / 4 else 255) ++ by1 (if isBkF a then (a - Reg.BNK_BKFLT) / 4 else 255) ++ by2 bits)

/-- FAULT_CLEAR_EFFECT: the first clear whose channels carry no current takes effect: each bit whose detection condition holds on this tick stands and its event is raised again, the others clear (R166). -/
def State.clearEffect (s : State) (on : StillOn) : State :=
  match s.takeClear s.drv.clears with
  | none => s
  | some (c, cs) =>
    let s1 := { s with drv := { s.drv with clears := cs } }
    let st := s1.standing c.addr c.bits on
    let s2 := s1.clearBits c.addr (s1.reg c.addr &&& w32 c.bits &&& ~~~(w32 st)).toNat
    ((List.range 14).filter st.testBit).foldl (fun x i => x.reRaise c.addr on.code i) s2

/-! ### Meanings -/

/-- OVERCURRENT (R164). -/
def execOvercurrent (dt : Nat) (v : Fin 96) (lat : Nat) (imax : Nat) : State → Out := act dt fun s => s.overcurrent v lat imax

/-- OPEN_LOAD (R164). -/
def execOpenLoad (v : Fin 96) (cur : Nat) : State → Out := actNow fun s => s.openLoad v cur

/-- STUCKON (R164). -/
def execStuckon (dt : Nat) (v : Fin 96) (imax : Nat) : State → Out := act dt fun s => s.stuckOn v imax

/-- BOOST_TIMEOUT_FAULT (R164). -/
def execBoostTimeoutFault (v : Fin 96) (code : Option (BitVec 12)) : State → Out := actNow fun s => s.boostTimeout v code

/-- RELEASE_OVERRUN_FAULT (R164). -/
def execReleaseOverrunFault (v : Fin 96) (code : Option (BitVec 12)) : State → Out := actNow fun s => s.releaseOverrun v code

/-- HB_FAULT (R164). -/
def execHbFault (dt : Nat) (b : Fin 12) : State → Out := act dt fun s => s.bkFault b 0

/-- HS_FAULT (R164). -/
def execHsFault (dt : Nat) (b : Fin 12) : State → Out := act dt fun s => s.bkFault b 1

/-- VLS_UNDERVOLTAGE (R164). -/
def execVlsUndervoltage (dt : Nat) (b : Fin 12) (vls : Nat) : State → Out := act dt fun s => (s.setVls b vls).bkFault b 2

/-- VLS_RECOVER (R164). -/
def execVlsRecover (dt : Nat) (b : Fin 12) (vls : Nat) : State → Out := act dt fun s => s.vlsRecover b vls

/-- OV1 (R164). -/
def execOv1 (dt : Nat) (r : Rail) : State → Out := act dt fun s => s.ov1 r

/-- OV1_END (R164). -/
def execOv1End (dt : Nat) (r : Rail) : State → Out := act dt fun s => s.ov1End r

/-- OV2 (R164). -/
def execOv2 (dt : Nat) (r : Rail) : State → Out := act dt fun s => s.ov2 r

/-- VBST_UV (R164). -/
def execVbstUv (dt : Nat) (r : Rail) (start : Bool) : State → Out := act dt fun s => s.vbstUv r start

/-- VBST_UV_END (R164). -/
def execVbstUvEnd (dt : Nat) (r : Rail) : State → Out := act dt fun s => (s.readRail r).setBit Reg.PRF_VFLT 2 false

/-- DIE_TEMP_WARNING (R164). -/
def execDieTempWarning (dt : Nat) (d : Fin 3) (t : Int) : State → Out := act dt fun s => s.tempWarn d t

/-- DIE_TEMP_WARNING_END (R164). -/
def execDieTempWarningEnd (dt : Nat) (d : Fin 3) (t : Int) : State → Out := act dt fun s => (s.setDieTemp d t).setBit Reg.BNK_DIEFLT d false

/-- DIE_TEMP_SHUTDOWN (R164). -/
def execDieTempShutdown (dt : Nat) (d : Fin 3) (t : Int) : State → Out := act dt fun s => s.tempShutdown d t

/-- DIE_LINK_LOSS (R164). -/
def execDieLinkLoss (dt : Nat) (d : Fin 3) (hub : Bool) : State → Out := act dt fun s => s.linkLoss d hub

/-- DIE_LINK_RESYNC (R164): the link resynchronises by itself, so that the fault's recovery condition holds. -/
def execDieLinkResync (dt : Nat) (d : Fin 3) : State → Out :=
  act dt fun s => { s with drv := { s.drv with linkUp := bvPut s.drv.linkUp d true } }

/-- DRV_EN_LOW (R164). -/
def execDrvEnLow (dt : Nat) : State → Out := act dt State.drvLow

/-- DRV_EN_HIGH (R164). -/
def execDrvEnHigh (dt : Nat) : State → Out := act dt State.drvHigh

/-- FAULT_CLEAR (R166): a write to BNK_CHFLTv, BNK_BKFLTb, BNK_DIEFLT or PRF_VFLT. -/
def execFaultClear (addr : Nat) (w : Word) : State → Out := actNow fun s => s.faultClear addr w.toNat

/-- FAULT_CLEAR_EFFECT (R166). -/
def execFaultClearEffect (dt : Nat) (still : StillOn) : State → Out := fun s => act (s.clearWait dt) (fun s => s.clearEffect still) s

end Sys2Proof.Machine
end

