-- ==== Sys2Proof/Machine/FrontEnd.lean ====
section
/-! DEFINITION. The sensor front end: ranges, filters, excitation, open and shorted sensors, linearisation (13). -/

namespace Sys2Proof.Machine

/-! ### Settings (R264, R273, R283, R284) -/

/-- A channel that has seen nothing. -/
def chNone (_ : Nat) : AfeCh :=
  { range := 0, below := 0, dec1 := none, dec2 := none, prev := 0, repl := 0, lastRepl := 0, lastSat := 0, flushed := 0, flushTick := 0, fig := [0, 0, 0], fcb := [0, 0, 0]
    ig := [0, 0, 0, 0], cb := [0, 0, 0, 0], out := none, supEnd := none, valid := false, cond := 0, runOpen := 0, runShort := 0, runIn := 0 }

/-- What a channel holds. -/
def State.ac (s : State) (k : Nat) : AfeCh := storeGet chNone s.afe.chans k
/-- Replace what a channel holds. -/
def State.setAc (s : State) (k : Nat) (c : AfeCh) : State := { s with afe := { s.afe with chans := storeSet chNone s.afe.chans k c } }

/-- Address of AFE_CHCFGk. -/
def cfgA (k : Nat) : Nat := Reg.AFE_CHCFG + 4 * k
/-- Address of AFE_CHSTk. -/
def chstA (k : Nat) : Nat := Reg.AFE_CHST + 4 * k
/-- Address of AFE_EXCj. -/
def excA (j : Nat) : Nat := Reg.AFE_EXC + 4 * j
/-- MODE of a channel. -/
def State.afeMode (s : State) (k : Nat) : Nat := s.rf (cfgA k) 0 3
/-- Whether a channel converts: neither off nor disabled (R264). -/
def State.afeOn (s : State) (k : Nat) : Bool := s.afeMode k != 0 && s.bit Reg.AFE_CHEN k
/-- FTYPE: SINC1. -/
def State.sinc1 (s : State) (k : Nat) : Bool := s.bit (cfgA k) 8
/-- RSTART of a channel. -/
def State.rstart (s : State) (k : Nat) : Nat := s.rf (cfgA k) 9 3
/-- CURVE of a channel. -/
def State.afeCurve (s : State) (k : Nat) : Nat := s.rf (cfgA k) 16 5
/-- A field of a channel's entry in the AFE section. -/
def State.ax (s : State) (k o len : Nat) : Nat := s.sx 9 (8 + 32 * k + o) len

/-- Decimation M of the second stage by RATE code (R272, R273). -/
def afeDec (rate : Nat) : Nat := [25600, 12800, 10240, 5120, 2560, 1024, 512, 256, 128, 64].getD rate 64
/-- Length of a window in µs by RATE code and FTYPE (R273). -/
def afeLen (rate : Nat) (sinc1 : Bool) : Nat :=
  if sinc1 then [100012, 50012, 40012, 20012, 10012, 4012, 2012, 1012, 512, 262].getD rate 262
  else [400000, 200000, 160000, 80000, 40000, 16000, 8000, 4000, 2000, 1000].getD rate 1000
/-- M of a channel. -/
def State.chM (s : State) (k : Nat) : Nat := afeDec (s.rf (cfgA k) 4 4)
/-- Range samples in a channel's window: M for SINC1, 4M − 3 for SINC4. -/
def State.chTaps (s : State) (k : Nat) : Nat := if s.sinc1 k then s.chM k else 4 * s.chM k - 3
/-- FS0 of a mode in its raw unit (R264). -/
def fs0 (mode : Nat) : Nat := [0, 2500, 10, 25, 1000, 1000, 2500].getD mode 0

/-- Whether an excitation output is on: its level is not 0 and no fault has switched it off (R265, R277). -/
def State.excOn (s : State) (j : Nat) : Bool := s.rf (excA j) 0 3 != 0 && !s.afe.excOff.getLsbD j

/-! ### What a channel shows -/

/-- Write a channel's slot and its AFE_CHST (R271; AFE_CHST). -/
def State.putAfe (s : State) (k : Nat) (v : Word) (tag : Byte) : State := (s.putSlot k v tag).setRf (chstA k) 0 8 tag.toNat

/-- Give a channel's slot COND 3, keeping its value (R264, R277, R278). -/
def State.afeInvalid (s : State) (k : Nat) : State := s.putAfe k (s.slot k).val (BitVec.ofNat 8 (192 + (s.ac k).range))

/-- Show which channels are suppressed (AFE_STAT.SUPP, AFE_EXCj.SETTLING). -/
def State.showSupp (s : State) (k : Nat) : State :=
  let s1 := s.setBit Reg.AFE_STAT k (s.ac k).supEnd.isSome
  s1.setBit (excA (k / 2)) 16 ((s1.ac (2 * (k / 2))).supEnd.isSome || (s1.ac (2 * (k / 2) + 1)).supEnd.isSome)

/-- Flush the second stage of a channel: its window starts anew (R272, R274). -/
def State.afeFlush (s : State) (k : Nat) : State :=
  s.setAc k { s.ac k with ig := [0, 0, 0, 0], cb := [0, 0, 0, 0], out := none, flushed := s.afe.n, flushTick := s.clk.now }

/-- Restart a channel in RSTART as after a flush, with no valid value and no condition (R269, R278, R283). -/
def State.afeRestart (s : State) (k : Nat) : State :=
  let s1 := (s.setAc k { chNone k with range := s.rstart k, flushed := s.afe.n, flushTick := s.clk.now }).showSupp k
  s1.afeInvalid k

/-! ### Range samples (R268 to R271) -/

/-- |x| exceeds the up-range threshold of range `r`: 87.5 % of its full scale; x in units of FS0/2^31 (R268). -/
def upRange (r : Nat) (x : Int) : Bool := r != 0 && decide (7 * 2 ^ 28 < x.natAbs * 2 ^ r)
/-- |x| is below the down-range threshold of range `r`: 20 % of its full scale (R268). -/
def downRange (r : Nat) (x : Int) : Bool := r != 7 && decide (5 * x.natAbs * 2 ^ r < 2 ^ 31)
/-- |x| exceeds the full scale of range `r`. -/
def beyondFs (r : Nat) (x : Int) : Bool := decide (2 ^ 31 < x.natAbs * 2 ^ r)

/-- The integrators of a stage take one sample. -/
def integrate (x : Int) : List Int → List Int
  | [] => []
  | i :: l => (i + x) :: integrate (i + x) l

/-- The combs of a stage take one integrator value: the window's sum and the combs' new contents. -/
def combs (x : Int) : List Int → Int × List Int
  | [] => (x, [])
  | c :: l => let r := combs (x - c) l; (r.1, x :: r.2)

/-- A first-stage sample at range `r` corrected: times the factory gain trim of the range and 2^RANGE, the offset trim removed, a signed 32-bit value in units of FS0/2^31 (R263; assumption 66). -/
def afeCorrect (k r : Nat) (x : Int) : Int := sat32 (rnd 48 (Config.afeGain k r * x * 2 ^ r) - Config.afeOffset k r)

/-- The points of the custom curve that a channel names, in the curve part in force (R281; 03 R67). -/
def State.afePoints (s : State) (k : Nat) : List (Int × Int) :=
  let o := 576 + 520 * (s.afeCurve k - 16)
  if s.afeCurve k < 16 then [] else s.points 9 (o + 8) (min 64 (s.sx 9 o 2))

/-- Whether the window that ends on range sample `n` lies wholly after the last flush, the first stage's 190 modulator samples of its first range sample included, and no earlier than a window's length after it (R272, R273). -/
def State.afeWhole (s : State) (k n : Nat) : Bool :=
  decide ((s.ac k).flushed + s.chTaps k + 2 ≤ n) && decide ((s.ac k).flushTick + usTicks (afeLen (s.rf (cfgA k) 4 4) (s.sinc1 k)) ≤ s.clk.now)

/-- One range sample of a channel, its number `n` just counted: the first stage takes `ms`, the 64 samples of its modulator (sinc³); a decision two samples old takes force, one range at most; the sample is corrected, samples across the change are replaced, the next decision is made, and the second stage takes the value; a window that ends here is finished (R263, R269 to R272). -/
def State.rangeOne (s : State) (n k : Nat) (ms : List Int) (sat0 : Bool) : State :=
  if !s.afeOn k then s
  else
    let c := s.ac k
    let r := max (c.range - 1) (min (c.range + 1) (c.dec2.getD c.range))
    let fig := ms.foldl (fun l m => integrate m l) c.fig
    let first := combs (fig.getLastD 0) c.fcb
    let x0 := afeCorrect k r first.1
    let changed := r != c.range
    let repl := if changed then 2 else c.repl
    let x := if repl = 0 then x0 else c.prev
    let sat := (sat0 && repl == 0) || beyondFs r x
    let lowNow := downRange r x
    let below := if lowNow then (if changed then 1 else c.below + 1) else 0
    let auto := s.bit (cfgA k) 12
    let d : Option Nat :=
      if !auto then none
      else if r ≠ 0 ∧ (upRange r x || sat) = true then some (r - 1)
      else if s.rf (cfgA k) 22 8 ≤ below ∧ lowNow = true ∧ r < s.rf (cfgA k) 13 3 then some (r + 1)
      else none
    let one := s.sinc1 k
    let ig := integrate x (if one then c.ig.take 1 else c.ig)
    let c1 := { c with range := r, below := below, dec1 := d, dec2 := c.dec1, prev := x, repl := repl - 1, fig := fig, fcb := first.2, ig := ig
                       lastRepl := if repl = 0 then c.lastRepl else n + 1, lastSat := if sat then n + 1 else c.lastSat }
    let s1 := if changed then s.count (Reg.AFE_RCNT + 4 * k) else s
    if n % s.chM k = 0 then
      let y := combs (ig.getLastD 0) (if one then c.cb.take 1 else c.cb)
      let win (i : Nat) : Bool := i != 0 && decide (n + 1 < i + s.chTaps k)
      s1.setAc k { c1 with cb := y.2, out := if s.afeWhole k n then some ⟨y.1, r, win c1.lastRepl, win c1.lastSat, s.clk.now, s.afePoints k⟩ else c1.out }
    else s1.setAc k c1

/-- RANGE_SAMPLE: the range samples of all sixteen channels on one count of the common counter; each the samples of its modulator since the last one and whether it overloaded (R263, R269, R272). -/
def State.rangeSample (s : State) (xs : List (List Int × Bool)) : State :=
  let n := s.afe.n + 1
  (List.range 16).foldl (fun x k => let e := xs.getD k ([], false); x.rangeOne n k e.1 e.2) { s with afe := { s.afe with n := n } }

/-! ### Linearisation (R279 to R282) -/

/-- −273.15 °C in Q15.16. -/
def absZero : Int := -17901158

/-- Temperature range of curves 2 … 9, in whole °C (R280). -/
def tcRange (curve : Nat) : Int × Int :=
  match curve with
  | 2 => (250, 1820)
  | 3 => (-270, 1000)
  | 4 => (-210, 1200)
  | 5 => (-270, 1372)
  | 6 => (-270, 1300)
  | 7 => (-50, 1768)
  | 8 => (-50, 1768)
  | _ => (-270, 400)

/-- Whether a cold-junction temperature in Q15.16 lies in the range of the reference function E: type B from 0 °C, the others as their inverse (R282; PRESUMED, assumption 33). -/
def cjInRange (curve : Nat) (t : Int) : Bool :=
  let lo := if curve = 2 then 0 else (tcRange curve).1
  decide (lo * 65536 ≤ t) && decide (t ≤ (tcRange curve).2 * 65536)

/-- R/R0 of the Callendar–Van Dusen equation at t/65,536 °C, times 10^15 · 2^64 (R280). -/
def cvd (t : Int) : Int :=
  10 ^ 15 * 2 ^ 64 + 39083 * 10 ^ 8 * t * 2 ^ 48 - 5775 * 10 ^ 5 * t ^ 2 * 2 ^ 32 - (if t < 0 then 4183 * (t - 6553600) * t ^ 3 else 0)

/-- The greatest t of `lo`, … with R/R0 at most num/den, by halving; `fuel` halvings. -/
def cvdInv (num : Int) (den : Nat) : Nat → Int → Int → Int
  | 0, lo, _ => lo
  | f + 1, lo, hi =>
    let mid := (lo + hi) / 2
    if cvd mid * den ≤ num * (10 ^ 15 * 2 ^ 64) then cvdInv num den f mid hi else cvdInv num den f lo mid

/-- Curve 10: temperature by resistance ratio num/den, and whether it lies in −200 … 850 °C; within 0.01 °C of the exact inverse (R280). -/
def ptCurve (r0 : Nat) (num : Int) (den : Nat) : Int × Bool :=
  let lo : Int := -200 * 65536
  let hi : Int := 850 * 65536
  if num * (10 ^ 15 * 2 ^ 64) < cvd lo * den then (lo, false)
  else if cvd hi * den < num * (10 ^ 15 * 2 ^ 64) then (hi, false)
  else (clampI lo hi (cvdInv num den 28 lo (hi + 1) + clampI (-655) 655 (Config.ptError r0 num den)), true)

/-- The value of a channel's curve for a window sum over `den` (units FS0/2^31), with the raw value: the result in Q15.16 and whether it is valid; `pts` are the points of its custom curve, `tcj` is the cold-junction temperature (R279 to R282). -/
def State.curveOf (s : State) (k : Nat) (pts : List (Int × Int)) (sum : Int) (den : Nat) (raw tcj : Int) : Int × Bool :=
  let p (i : Nat) : Int := sext 32 (s.ax k (12 + 4 * i) 4)
  let ps : List (BitVec 32) := (List.range 4).map fun i => w32 (s.ax k (12 + 4 * i) 4)
  let c := s.afeCurve k
  if c = 0 then (raw, true)
  else if c = 1 then (sat32 (rnd 24 (p 0 * raw + p 1 * 2 ^ 24)), true)
  else if c = 13 then (sat32 (divRound (p 0 * 16 * 65536 + (raw - 4 * 65536) * (p 1 - p 0)) (16 * 65536)), true)
  else if 16 ≤ c then (curveAt pts raw, true)
  else if c ≤ 9 then
    let r := tcRange c
    let v := Config.curveValue c ps (sum * 2500) (den * 2 ^ 31) tcj
    (clampI (r.1 * 65536) (r.2 * 65536) v, decide (r.1 * 65536 ≤ v) && decide (v ≤ r.2 * 65536) && cjInRange c tcj)
  else
    -- ρ = sum / (den · 2^31); R = REF · ρ / (1 − ρ), unit 0.01 Ω
    let top : Int := s.ax k 8 4 * sum
    let bot : Int := den * 2 ^ 31 - sum
    if c = 10 then
      if bot ≤ 0 then (850 * 65536, false)
      else if sum ≤ 0 then (-200 * 65536, false)
      else ptCurve (s.ax k 12 4) top (s.ax k 12 4 * bot.toNat)
    else if bot ≤ 0 ∨ sum ≤ 0 then (absZero, false)
    else
      let v := Config.curveValue c ps top bot.toNat 0
      if v < absZero then (absZero, false) else (sat32 v, decide (v < 2 ^ 31))

/-! ### Output samples (R263, R271, R275, R276) -/

/-- Whether a raw value in Q15.16 lies beyond the OPEN or the SHORT limit of its mode; `low`: EXCS is below half the set level (R276). -/
def openLimit (mode : Nat) (raw : Int) (low : Bool) : Bool × Bool :=
  match mode with
  | 3 => (decide (raw * 1000 < 3600 * 65536), decide (21 * 65536 < raw))
  | 4 => (decide (875 * 65536 < (raw.natAbs : Int)) || low, false)
  | 5 => (decide (990 * 65536 < raw) || low, decide (raw < 2 * 65536))
  | 6 => (decide (1000 * 65536 < raw), false)
  | _ => (false, false)

/-- The standing condition after a tested sample: OPEN or SHORT after two samples beyond, none after two within (R276). -/
def AfeCh.judge (c : AfeCh) (o sh : Bool) : AfeCh :=
  let c1 := { c with runOpen := if o then c.runOpen + 1 else 0, runShort := if sh then c.runShort + 1 else 0, runIn := if o || sh then 0 else c.runIn + 1 }
  if 2 ≤ c1.runOpen then { c1 with cond := 1 } else if 2 ≤ c1.runShort then { c1 with cond := 2 } else if 2 ≤ c1.runIn then { c1 with cond := 0 } else c1

/-- The cold-junction temperature of a channel with COND and STALE of its slot (R282). -/
def State.coldJunction (s : State) (k : Nat) : Int × Bool × Bool :=
  let n := s.ax k 6 2
  if s.afeCurve k < 2 ∨ 9 < s.afeCurve k then (0, true, false)
  else if 1023 < n then (sext 32 (s.ax k 12 4), true, false)
  else ((s.slot n).val.toInt, (s.slot n).cond == 0, (s.slot n).stale)

/-- A finished window of an unsuppressed channel becomes its slot value (R263, R271, R276, R279). -/
def State.afeEmit (s : State) (k : Nat) (w : AfeWin) (low : Bool) : State :=
  let den := if s.sinc1 k then s.chM k else s.chM k ^ 4
  let mode := s.afeMode k
  let raw := sat32 (divRound (w.sum * fs0 mode * 65536) (den * 2 ^ 31))
  let tagLow := w.range + 8 * b2n w.tr + 16 * b2n w.sat
  let s1 := s.setReg (Reg.AFE_RAW + 4 * k) (w32i raw)
  let s2 := if w.sat then s1.count (Reg.AFE_SATCNT + 4 * k) else s1
  let lim := openLimit mode raw low
  let old := s2.ac k
  let c := if s2.bit (cfgA k) 21 then old.judge lim.1 lim.2 else old
  let s3 := s2.setAc k c
  let s4 :=
    if c.cond = old.cond then s3
    else if c.cond = 0 then s3.raise 0x0B02 (by1 k)
    else s3.raise 0x0B01 (by1 k ++ by1 c.cond ++ by4 (w32i raw).toNat)
  if c.cond ≠ 0 then s4.putAfe k (s4.slot k).val (BitVec.ofNat 8 (tagLow + 64 * c.cond))
  else
    let cj := s4.coldJunction k
    let v := s4.curveOf k w.pts w.sum den raw cj.1
    let ok := v.2 && cj.2.1
    let s5 := if v.2 then s4 else s4.episode 0x0B04 k (by1 k ++ by1 (s4.afeCurve k))
    let s6 := s5.putAfe k (w32i v.1) (BitVec.ofNat 8 (tagLow + 32 * b2n cj.2.2 + (if ok then 0 else 192)))
    s6.setAc k { s6.ac k with valid := (s6.ac k).valid || ok }

/-- OUTPUT_SAMPLE: a channel's finished window is linearised and written with its tag; `low`: EXCS of its pair is below half the set level (R263, R264, R265, R275). -/
def State.outputSample (s : State) (k : Nat) (low : Bool) : State :=
  match (s.ac k).out with
  | none => s
  | some w =>
    let s1 := s.setAc k { s.ac k with out := none }
    let ratio := s.afeMode k == 4 || s.afeMode k == 5
    if !s.afeOn k || s.bit (excA (k / 2)) 17 && s.afe.excOff.getLsbD (k / 2) || (ratio && !s.excOn (k / 2)) then s1.afeInvalid k
    else if (s.ac k).supEnd.isSome then s1
    else s1.afeEmit k w low

/-! ### Excitation (R265, R274, R275, R277) -/

/-- A channel's part in a change of its pair's excitation: flush, and suppression from now on (R274, R275). -/
def State.suppress (s : State) (k : Nat) : State :=
  if s.afeOn k then
    let j := k / 2
    let t := s.clk.now + usTicks (100 * s.rf (excA j) 8 8 + afeLen (s.rf (cfgA k) 4 4) (s.sinc1 k))
    let s1 := s.afeFlush k
    let s2 := (s1.setAc k { s1.ac k with supEnd := some t }).showSupp k
    let c := s2.ac k
    let tag : Nat := c.range + (if c.valid then 32 + 64 * c.cond else 192)
    s2.putAfe k (s2.slot k).val (BitVec.ofNat 8 tag)
  else s

/-- IMEAS of an excitation output: no current while it is off; what flows into its load while it is on no rule states (a free value; assumption 67). -/
def State.measureExc (s : State) (j : Nat) : State :=
  if s.excOn j then s.draw.2.setRf (excA j) 24 8 (s.draw.1.toNat % 256) else s.setRf (excA j) 24 8 0

/-- A change of an excitation output acts on both channels of its pair (R274); with the output off, channels in modes 4 and 5 read COND 3, and with it faulted both do (R265, R277). -/
def State.excChange (s : State) (j : Nat) : State :=
  let one (x : State) (k : Nat) : State :=
    let x1 := x.suppress k
    if x1.afeOn k ∧ (x1.afe.excOff.getLsbD j = true ∨ (x1.excOn j = false ∧ (x1.afeMode k = 4 ∨ x1.afeMode k = 5))) then x1.afeInvalid k else x1
  one (one (s.measureExc j) (2 * j)) (2 * j + 1)

/-- EXC_LEVEL_WRITE: a write of AFE_EXCj. LEVEL 5 to 7 is not performed; the level already in force is no change (R274). Answers the status. -/
def State.writeExc (s : State) (j : Nat) (w : Word) : Nat × State :=
  let l := fld w 0 3
  if 4 < l then (1, s)
  else if s.rf (excA j) 0 3 = l then (0, s)
  else (0, (s.setRf (excA j) 0 3 l).excChange j)

/-- SUPPRESSION_END: the settle time and the channel's own length have passed (R274). -/
def State.suppressionEnd (s : State) (k : Nat) : State :=
  match (s.ac k).supEnd with
  | some t =>
    let s1 := s.reachTick t
    (s1.setAc k { s1.ac k with supEnd := none }).showSupp k
  | none => s

/-- AFE_EXC_FAULT: current above 30 mA for 1 ms switches the output off; `q` is the current, unit 0.25 mA (R277). -/
def State.excFault (s : State) (j q : Nat) : State :=
  if s.excOn j then
    let s1 := (s.setBit (excA j) 17 true).setBit Reg.AFE_STAT (16 + j) true
    let s2 := { s1 with afe := { s1.afe with excOff := bvPut s1.afe.excOff j true, excTick := storeSet (fun _ => 0) s1.afe.excTick j s1.clk.now
                                             restarted := storeSet (fun _ => 0) s1.afe.restarted j 0 } }
    (s2.excChange j).raise 0x0B03 (by1 j ++ by1 (sat 255 q))
  else s

/-- EXC_RESTART: 1 s after the switch-off the output is switched on again (R277); after a last gasp all stay off (18 R365). -/
def State.excRestart (s : State) (j : Nat) : State :=
  if s.afe.excOff.getLsbD j && !s.sys.gaspDone then
    let s1 := s.reachTick (storeGet (fun _ => 0) s.afe.excTick j + msTicks 1000)
    let s2 := { s1 with afe := { s1.afe with excOff := bvPut s1.afe.excOff j false, restarted := storeSet (fun _ => 0) s1.afe.restarted j (s1.clk.now + 1) } }
    s2.excChange j
  else s

/-- EXC_FAULT_CLEAR: a restart has stayed within 30 mA for 100 ms (R277). -/
def State.excFaultClear (s : State) (j : Nat) : State :=
  let t := storeGet (fun _ => 0) s.afe.restarted j
  if t = 0 then s
  else
    let s1 := s.reachTick (t - 1 + msTicks 100)
    let s2 := { s1 with afe := { s1.afe with restarted := storeSet (fun _ => 0) s1.afe.restarted j 0 } }
    (s2.setBit (excA j) 17 false).setBit Reg.AFE_STAT (16 + j) false

/-! ### Enables and loads (R269, R283) -/

/-- AFE_CHEN_WRITE: a cleared enable gives COND 3, a set one flushes and restarts the channel; MODE 0 ignores it (R283, AFE_CHEN). -/
def State.writeChenAfe (s : State) (w : Word) : State :=
  let old := s.reg Reg.AFE_CHEN
  (List.range 16).foldl (fun x k =>
    if bitOf w k == bitOf old k || x.afeMode k == 0 then x else if bitOf w k then x.afeRestart k else (x.setAc k { x.ac k with supEnd := none, out := none }).showSupp k |>.afeInvalid k)
    (s.setReg Reg.AFE_CHEN (w32 (fld w 0 16)))

/-- The end of a load: registers from the AFE section, every channel as after a flush; an excitation level that changes is a change (R274, R283). -/
def State.afeLoad (s : State) : State :=
  let one (x : State) (k : Nat) : State :=
    let f := x.ax k 1 1
    let g := x.ax k 2 1
    let m := x.ax k 0 1 % 8
    let cfg := m + 16 * (f % 16) + 256 * (f / 16 % 2) + 512 * (g % 8) + 4096 * (g / 8 % 2) + 8192 * (g / 16 % 8) + 65536 * (x.ax k 3 1 % 32)
      + 2097152 * (x.ax k 5 1 % 2) + 4194304 * x.ax k 4 1
    (((x.setReg (cfgA k) (w32 cfg)).setBit Reg.AFE_CHEN k ((x.ax k 5 1).testBit 1 && m != 0))).afeRestart k
  let s1 := (List.range 16).foldl one s
  (List.range 8).foldl (fun x j =>
    let l := x.sx 9 (520 + 4 * j) 1 % 8
    let x1 := (x.setRf (excA j) 8 8 (x.sx 9 (521 + 4 * j) 1))
    if x1.rf (excA j) 0 3 = l then x1 else (x1.setRf (excA j) 0 3 l).excChange j) s1

/-- Every excitation output goes off: channels in modes 4 and 5 read COND 3 (R265; 18 R365). -/
def State.excAllOff (s : State) : State :=
  (List.range 16).foldl (fun x k => if x.afeOn k ∧ (x.afeMode k = 4 ∨ x.afeMode k = 5) then x.afeInvalid k else x)
    ((List.range 8).foldl State.measureExc { s with afe := { s.afe with excOff := BitVec.allOnes 8 } })

/-- A finished window is written within 15 µs of its last modulator sample (R264). -/
def State.outWait (s : State) (k dt : Nat) : Nat :=
  match (s.ac k).out with
  | some w => min dt (w.tick + usTicks 15 - s.clk.now)
  | none => dt

/-! ### Meanings -/

/-- RANGE_SAMPLE (R269). -/
def execRangeSample (dt : Nat) (xs : List (List Int × Bool)) : State → Out := act dt fun s => s.rangeSample xs

/-- OUTPUT_SAMPLE (R263). -/
def execOutputSample (dt : Nat) (k : Fin 16) (low : Bool) : State → Out := fun s => act (s.outWait k dt) (fun x => x.outputSample k low) s

/-- EXC_LEVEL_WRITE (R274). -/
def execExcLevelWrite (j : Fin 8) (w : Word) : State → Out := actNow fun s => (s.writeExc j w).2

/-- SUPPRESSION_END (R274). -/
def execSuppressionEnd (k : Fin 16) : State → Out := actNow fun s => s.suppressionEnd k

/-- AFE_EXC_FAULT (R277). -/
def execAfeExcFault (dt : Nat) (j : Fin 8) (q : Nat) : State → Out := act dt fun s => s.excFault j q

/-- EXC_RESTART (R277). -/
def execExcRestart (j : Fin 8) : State → Out := actNow fun s => s.excRestart j

/-- EXC_FAULT_CLEAR (R277). -/
def execExcFaultClear (j : Fin 8) : State → Out := actNow fun s => s.excFaultClear j

/-- AFE_CHEN_WRITE (R283). -/
def execAfeChenWrite (w : Word) : State → Out := actNow fun s => s.writeChenAfe w

/-- Clear every AFE_RCNTk and AFE_SATCNTk (R271). -/
def State.afeClear (s : State) : State := (s.clearRegs Reg.AFE_RCNT 16).clearRegs Reg.AFE_SATCNT 16

/-- AFE_CCLR (R271). -/
def execAfeCclr : State → Out := actNow State.afeClear

end Sys2Proof.Machine
end

