-- ==== Sys2Proof/Machine/ImageCheck.lean ====
section
/-! DEFINITION. The checks of the structure image: its container, the ranges of every section, and the references between sections (03 R49 to R57, R64).

A check lists every offending byte as (section, image offset); a field stands for its lowest byte, and the lowest offset is reported (R57; assumption 34). -/

namespace Sys2Proof.Machine

/-- An offending byte: section number (0: none) and image offset. -/
abbrev Bad := Nat × Nat

/-- The result of the checks: ERR, ERR_SECT and the offset; ERR 0 where all pass. -/
structure Verdict where
  err : Nat
  sect : Nat
  off : Nat
  deriving DecidableEq, Repr

/-- The offending byte of the lowest offset. -/
def lowest : List Bad → Option Bad
  | [] => none
  | b :: bs =>
    match lowest bs with
    | some c => some (if c.2 < b.2 then c else b)
    | none => some b

/-- A section under check: its number, its place in the image, its bytes. -/
structure Sec where
  id : Nat
  off : Nat
  b : List Byte
  deriving DecidableEq, Repr

/-- A field of a section. -/
def Sec.u (c : Sec) (o len : Nat) : Nat := leAt c.b o len

/-- A signed field of a section. -/
def Sec.i (c : Sec) (o len : Nat) : Int := sext (8 * len) (leAt c.b o len)

/-- Byte `o` offends unless `ok`. -/
def Sec.need (c : Sec) (o : Nat) (ok : Bool) : List Bad := if ok then [] else [(c.id, c.off + o)]

/-- A field lies in a range. -/
def Sec.rng (c : Sec) (o len lo hi : Nat) : List Bad := c.need o (decide (lo ≤ c.u o len) && decide (c.u o len ≤ hi))

/-- A signed field lies in a range. -/
def Sec.rngI (c : Sec) (o len : Nat) (lo hi : Int) : List Bad := c.need o (decide (lo ≤ c.i o len) && decide (c.i o len ≤ hi))

/-- Reserved bytes are 0. -/
def Sec.zero (c : Sec) (o n : Nat) : List Bad :=
  (List.range n).flatMap fun k => c.need (o + k) (c.b.getD (o + k) 0 == 0)

/-- A slot field names a slot or none (0xFFFF). -/
def Sec.slotRng (c : Sec) (o : Nat) : List Bad := c.need o (decide (c.u o 2 < 1024) || c.u o 2 == 0xFFFF)

/-- Gather over the entries 0 … n − 1. -/
def each (n : Nat) (f : Nat → List Bad) : List Bad := (List.range n).flatMap f

/-- A curve of up to `cap` points at `o`: NPTS of `len` bytes in range, points from `p`, x strictly ascending, unused points 0 (R231, R281, R289). -/
def Sec.curve (c : Sec) (o len p cap : Nat) : List Bad :=
  let n := c.u o len
  c.need o (n == 0 || (decide (2 ≤ n) && decide (n ≤ cap)))
    ++ each (min n cap) (fun j => c.need (p + 8 * j) (j == 0 || decide (c.i (p + 8 * j - 8) 4 < c.i (p + 8 * j) 4)))
    ++ c.zero (p + 8 * min n cap) (8 * (cap - min n cap))

/-! ### The container (R49 to R51) -/

/-- Start of directory entry `i` (0 … 15). -/
def dirAt (i : Nat) : Nat := 64 + 16 * i

/-- OFFSET of section `id`. -/
def secOff (im : List Byte) (id : Nat) : Nat := leAt im (dirAt (id - 1) + 4) 4

/-- LENGTH of section `id`. -/
def secLen (im : List Byte) (id : Nat) : Nat := leAt im (dirAt (id - 1) + 8) 4

/-- The bytes of section `id`. -/
def secBytes (im : List Byte) (id : Nat) : List Byte := (im.drop (secOff im id)).take (secLen im id)

/-- Section `id` as it is checked. -/
def secOf (im : List Byte) (id : Nat) : Sec := { id := id, off := secOff im id, b := secBytes im id }

/-- The highest end of the non-empty sections before section `id`; header and directory end at byte 320. -/
def prevEnd (im : List Byte) : Nat → Nat
  | 0 => 320
  | n + 1 => if secLen im n = 0 ∨ n = 0 then prevEnd im n else max (prevEnd im n) (secOff im n + secLen im n)

/-- Check 6 on one directory entry: its fields by R51, its place, and the padding before it (R49). -/
def checkEntry (im : List Byte) (id : Nat) : List Bad :=
  let d := dirAt (id - 1)
  let c : Sec := { id := id, off := 0, b := im }
  let o := secOff im id
  let n := secLen im id
  let pe := prevEnd im id
  c.need d (c.u d 1 == id) ++ c.zero (d + 2) 2
    ++ c.need (d + 4) (if n = 0 then o == 0 else if id = 1 then o == 0 else o % 64 == 0 && decide (pe ≤ o))
    ++ c.need (d + 8) ((id != 1 || n == 320) && (id != 16 || n == 32) && decide (o + n ≤ im.length))
    ++ c.need (d + 12) ((n != 0 && id != 16) || c.u (d + 12) 4 == 0)
    ++ (if n ≠ 0 ∧ id ≠ 1 ∧ pe ≤ o then ({ id := 0, off := 0, b := im } : Sec).zero pe (min o im.length - pe) else [])

/-- The CRC-32C of a section as check 7 forms it: that of HDR takes its own field as 0 (R51). -/
def secCrc (im : List Byte) (id : Nat) : Word :=
  if id = 1 then crc32c (im.take 76 ++ [0, 0, 0, 0] ++ (im.take 320).drop 80) else crc32c (secBytes im id)

/-- Sections R52 marks "not allowed" to be empty. -/
def mandatory : List Nat := [1, 3, 4, 5, 13, 14, 15, 16]

/-- The length a chapter fixes for a section; none for EPH, whose init words vary (R245). -/
def fixedLen : Nat → Option Nat
  | 1 => some 320 | 2 => some 784 | 3 => some 1024 | 4 => some 6160 | 5 => some 992 | 6 => some 20480 | 7 => some 16384
  | 9 => some 8896 | 10 => some 1736 | 11 => some 16448 | 12 => some 352 | 13 => some 64 | 14 => some 32 | 15 => some 16
  | 16 => some 32 | _ => none

/-- Check 10 on a section's length: the LENGTH field of its entry. -/
def checkLen (im : List Byte) (id : Nat) : List Bad :=
  let n := secLen im id
  let ok := n == 0 || (match fixedLen id with
    | some k => n == k
    | none => decide (2048 ≤ n) && n % 4 == 0)
  if ok then [] else [(id, dirAt (id - 1) + 8)]

/-! ### Check 10: ranges and reserved fields, section by section -/

/-- Whether a slot has a producer (R17). -/
def producer (n : Nat) : Bool := decide (n < 1024) && !(decide (107 ≤ n) && decide (n < 128))

/-- HDR (R50). -/
def rangeHdr (c : Sec) : List Bad :=
  c.zero 6 2 ++ c.rng 20 4 1 0xFFFFFFFF ++ c.rng 36 1 1 64 ++ c.rng 37 1 0 32 ++ c.rng 38 1 0 31 ++ c.zero 39 1 ++ c.zero 56 8

/-- ROUTE (11 R235). -/
def rangeRoute (c : Sec) : List Bad := each 392 fun k => c.slotRng (2 * k)

/-- LANE (05 R87). -/
def rangeLane (c : Sec) : List Bad := each 128 fun l =>
  let o := 8 * l
  let p := c.u o 1
  c.need o (decide (p < 96) || p == 0xFF)
    ++ (if p = 0xFF then [] else
        c.need (o + 1) (c.u (o + 1) 1 == 0xFF || (decide (c.u (o + 1) 1 < 96) && c.u (o + 1) 1 != p))
          ++ c.rng (o + 2) 2 0 20000 ++ c.rng (o + 4) 1 1 31)
    ++ c.zero (o + 5) 3

/-- One entry of BANKS (06 R111). -/
def rangeBankEntry (c : Sec) (b : Nat) : List Bad :=
  let o := 16 + 16 * b
  let prop := c.u o 1 == 2
  c.rng o 1 0 2 ++ c.rng (o + 2) 1 0 1 ++ c.rng (o + 3) 1 0 1
    ++ (if prop then
          c.rng (o + 4) 1 1 31 ++ c.rng (o + 5) 1 0 63 ++ c.need (o + 6) (c.u (o + 6) 1 == 0 || (decide (5 ≤ c.u (o + 6) 1) && decide (c.u (o + 6) 1 ≤ 40)))
            ++ c.rng (o + 8) 2 0 375 ++ c.rng (o + 10) 2 0 (c.u (o + 8) 2)
        else c.zero (o + 4) 3 ++ c.zero (o + 8) 4)
    ++ c.zero (o + 7) 1 ++ c.zero (o + 12) 4

/-- BANK (06 R110). -/
def rangeBank (c : Sec) : List Bad :=
  c.rng 0 1 60 156 ++ c.rng 1 1 10 50 ++ c.rng 2 2 20 200 ++ c.zero 4 12 ++ each 12 (rangeBankEntry c)
    ++ each 2976 fun k => c.rng (208 + 2 * k) 2 0 4000

/-- PROF (06 R112, R113). -/
def rangeProf (c : Sec) : List Bad := each 31 fun k =>
  let o := 32 * k
  c.rng o 2 0 1023 ++ c.rng (o + 2) 2 0 500 ++ c.rng (o + 4) 2 0 1023 ++ c.rng (o + 6) 2 0 20000 ++ c.rng (o + 8) 2 0 375
    ++ c.rng (o + 10) 1 2 63 ++ c.rng (o + 11) 1 5 100 ++ c.rng (o + 12) 1 0 2 ++ c.rng (o + 13) 1 20 80 ++ c.rng (o + 14) 1 10 200
    ++ c.rng (o + 15) 1 0 31 ++ c.rng (o + 16) 2 0 400 ++ c.rng (o + 18) 1 60 156 ++ c.rng (o + 19) 1 0 31 ++ c.rng (o + 20) 2 0 2000
    ++ c.rng (o + 22) 2 10 65535 ++ c.rng (o + 24) 2 0 1000 ++ c.zero (o + 26) 6
    ++ c.need o (c.u (o + 2) 2 == 0 || decide (c.u (o + 4) 2 ≤ c.u o 2))
    ++ c.need (o + 2) (c.u (o + 2) 2 == 0 || decide (c.u (o + 2) 2 ≤ c.u (o + 6) 2))
    ++ c.need (o + 4) (c.u (o + 6) 2 == 0 || decide (c.u (o + 8) 2 ≤ c.u (o + 4) 2))

/-- FMAP (05 R89). -/
def rangeFmap (c : Sec) : List Bad := each 16 fun m =>
  let o := 1280 * m
  each 256 (fun k => c.zero (o + 4 * k + 3) 1) ++ each 128 fun l => c.rngI (o + 1024 + 2 * l) 2 (-4000) 4000

/-- One entry of LOOP (11 R231, R233). -/
def rangeLoopEntry (c : Sec) (n : Nat) : List Bad :=
  let o := 256 * n
  if (c.u o 1).testBit 0 = false then c.zero (o + 1) 255
  else
    c.rng (o + 1) 1 0 5 ++ c.rng (o + 2) 1 0 2 ++ c.rng (o + 3) 1 5 45 ++ c.rng (o + 4) 2 1 65535
      ++ c.need (o + 6) (decide (c.u (o + 6) 2 < c.u (o + 4) 2))
      ++ c.slotRng (o + 8) ++ c.slotRng (o + 10) ++ c.slotRng (o + 12) ++ c.slotRng (o + 14)
      ++ c.need (o + 36) (decide (c.i (o + 36) 4 ≤ c.i (o + 40) 4)) ++ c.need (o + 44) (decide (c.i (o + 44) 4 ≤ c.i (o + 48) 4))
      ++ c.need (o + 52) (decide (0 ≤ c.i (o + 52) 4))
      ++ c.rngI (o + 56) 4 (c.i (o + 44) 4) (c.i (o + 48) 4) ++ c.rngI (o + 60) 4 (c.i (o + 44) 4) (c.i (o + 48) 4)
      ++ c.need (o + 72) (c.u (o + 1) 1 != 4 || decide (2 ≤ c.u (o + 72) 1)) ++ c.zero (o + 73) 55
      ++ c.curve (o + 72) 1 (o + 128) 16

/-- LOOP (11 R233). -/
def rangeLoop (c : Sec) : List Bad := each 64 (rangeLoopEntry c)

/-- One entry of EPH (12 R245). -/
def rangeEphEntry (c : Sec) (n : Nat) : List Bad :=
  let o := 32 * n
  let src := c.u (o + 1) 1
  let nb := 2 ^ c.u (o + 2) 1
  let pa := c.u (o + 20) 4
  let pb := c.u (o + 24) 4
  if (c.u o 1).testBit 0 = false then c.rng o 1 0 15 ++ c.zero (o + 1) 31
  else
    c.rng o 1 0 15 ++ c.rng (o + 1) 1 0 2 ++ c.rng (o + 2) 1 6 12 ++ c.rng (o + 3) 1 0 24
      ++ c.need (o + 4) (c.u (o + 4) 2 % nb == 0) ++ c.need (o + 6) (decide (c.u (o + 6) 2 < nb))
      ++ c.need (o + 12) (decide (0 ≤ c.i (o + 12) 4)) ++ c.need (o + 16) (decide (0 < c.i (o + 16) 4))
      ++ c.need (o + 20) (if src = 0 then decide (100 ≤ pa) && decide (pa ≤ 4000000) else if src = 1 then decide (pa < 32) else decide (pa < 4))
      ++ c.need (o + 24) (if src = 0 then pb == 0 else if src = 1 then decide (1 ≤ pb % 65536) && decide (pb % 65536 < pb / 65536)
          else decide (2 ≤ pb) && decide (pb < 2 ^ 31))
      ++ c.need (o + 28) (c.u (o + 28) 4 % 4 == 0)

/-- EPH (12 R245). -/
def rangeEph (c : Sec) : List Bad := each 64 (rangeEphEntry c)

/-- Parameter words a curve uses (13 R279). -/
def curveParams (n : Nat) : Nat :=
  if n = 1 ∨ n = 11 ∨ n = 13 then 2 else if (2 ≤ n ∧ n ≤ 9) ∨ n = 10 then 1 else if n = 12 then 3 else 0

/-- One channel entry of AFE (13 R284). -/
def rangeAfeChan (c : Sec) (k : Nat) : List Bad :=
  let o := 8 + 32 * k
  let f := c.u (o + 1) 1
  let r := c.u (o + 2) 1
  let cv := c.u (o + 3) 1
  if c.u o 1 = 0 then c.zero (o + 1) 31
  else
    c.rng o 1 0 6 ++ c.need (o + 1) (decide (f % 16 ≤ 9) && decide (f < 32))
      ++ c.need (o + 2) (decide (r % 8 ≤ r / 16 % 8) && decide (r < 128))
      ++ c.need (o + 3) (decide (cv ≤ 13) || (decide (16 ≤ cv) && decide (cv ≤ 31)))
      ++ c.rng (o + 4) 1 1 255 ++ c.rng (o + 5) 1 0 3 ++ c.slotRng (o + 6)
      ++ c.need (o + 8) (if c.u o 1 = 5 then decide (1 ≤ c.u (o + 8) 4) else c.u (o + 8) 4 == 0)
      ++ c.zero (o + 12 + 4 * curveParams cv) (16 - 4 * curveParams cv) ++ c.zero (o + 28) 4

/-- AFE (13 R281, R283). -/
def rangeAfe (c : Sec) : List Bad :=
  c.rng 0 4 576 576 ++ c.rng 4 4 8320 8320 ++ each 16 (rangeAfeChan c)
    ++ each 8 (fun j => c.rng (520 + 4 * j) 1 0 4 ++ c.rng (521 + 4 * j) 1 1 255 ++ c.zero (522 + 4 * j) 2)
    ++ c.zero 552 24
    ++ each 16 fun k => c.zero (576 + 520 * k + 2) 6 ++ c.curve (576 + 520 * k) 2 (584 + 520 * k) 64

/-- One fan entry (14 R290). -/
def rangeFanEntry (c : Sec) (k : Nat) : List Bad :=
  let o := 8 + 24 * k
  let sw := c.u (o + 1) 1
  let fl := c.u (o + 3) 1
  if c.u o 1 = 0 then c.zero (o + 1) 23
  else
    c.rng o 1 0 2 ++ c.need (o + 1) (decide (sw < 8) || sw == 0xFF) ++ c.need (o + 2) (decide (c.u (o + 2) 1 < 8) || c.u (o + 2) 1 == 0xFF)
      ++ c.rng (o + 3) 1 0 7 ++ c.rng (o + 4) 1 (if fl.testBit 1 then 1 else 0) 4 ++ c.rng (o + 5) 1 1 100 ++ c.rng (o + 6) 1 0 15 ++ c.zero (o + 7) 1
      ++ c.rng (o + 8) 2 0 1000 ++ c.rng (o + 10) 2 1 65535 ++ c.need (o + 12) (decide (c.u (o + 10) 2 < c.u (o + 12) 2))
      ++ c.rng (o + 14) 1 0 150 ++ c.rng (o + 15) 1 0 150 ++ c.rng (o + 16) 1 0 150
      ++ (if sw = 0xFF then [] else
          c.need (o + 14) (decide (c.u (o + 14) 1 < c.u (o + 15) 1)) ++ c.need (o + 16) (decide (c.u (o + 15) 1 < c.u (o + 16) 1)))
      ++ c.zero (o + 17) 3

/-- One zone entry (14 R291) and its two curves (R289). -/
def rangeZoneEntry (c : Sec) (z : Nat) : List Bad :=
  let o := 392 + 24 * z
  let d := 584 + 144 * z
  c.rng o 1 0 1
    ++ (if c.u o 1 = 0 then [] else
        c.rng (o + 1) 1 1 4 ++ each 4 (fun k => if k < c.u (o + 1) 1 then c.rng (o + 2 + 2 * k) 2 0 1023 else c.rng (o + 2 + 2 * k) 2 0xFFFF 0xFFFF)
          ++ c.need (o + 10) (decide (c.i (o + 10) 2 < c.i (o + 12) 2)) ++ c.rng (o + 14) 2 1 65535
          ++ each 4 fun k => c.rng (o + 16 + k) 1 0 100)
    ++ c.zero (o + 20) 4
    ++ c.zero (d + 2) 6 ++ c.curve d 2 (d + 8) 8 ++ each (min 8 (c.u d 2)) (fun j => c.rngI (d + 12 + 8 * j) 4 0 6553600)
    ++ c.zero (d + 74) 6 ++ c.curve (d + 72) 2 (d + 80) 8

/-- FAN (14 R289). -/
def rangeFan (c : Sec) : List Bad :=
  c.rng 0 4 584 584 ++ c.rng 4 4 1152 1152 ++ each 16 (rangeFanEntry c) ++ each 8 (rangeZoneEntry c)

/-- Whether nominal bit timing lies in the ranges of 15 R303; reserved bits are 0. -/
def nbtOk (w : Word) : Bool :=
  let brp := fld w 0 6
  let t1 := fld w 8 8
  let t2 := fld w 16 7
  let j := fld w 24 7
  decide (1 ≤ brp) && decide (brp ≤ 32) && decide (2 ≤ t1) && decide (1 ≤ t2) && decide (1 ≤ j) && decide (j ≤ t2)
    && decide (80 ≤ brp * (1 + t1 + t2))

/-- Whether data bit timing lies in the ranges of 15 R303. -/
def dbtOk (w : Word) : Bool :=
  let brp := fld w 0 6
  let t1 := fld w 8 5
  let t2 := fld w 16 4
  let j := fld w 24 4
  decide (1 ≤ brp) && decide (brp ≤ 32) && decide (1 ≤ t1) && decide (1 ≤ t2) && decide (1 ≤ j) && decide (j ≤ t2)
    && decide (10 ≤ brp * (1 + t1 + t2))

/-- One controller's block of CANF (15 R318). -/
def rangeCanBlock (c : Sec) (x : Nat) : List Bad :=
  let o := 8224 * x
  let nb := w32 (c.u (o + 4) 4)
  let db := w32 (c.u (o + 8) 4)
  c.rng o 1 0 3 ++ c.rng (o + 1) 1 0 15 ++ c.zero (o + 2) 2
    ++ c.need (o + 4) (nbtOk nb && (nb &&& 0x808000C0#32) == 0) ++ c.need (o + 8) (dbtOk db && (db &&& 0xF0F0E0C0#32) == 0)
    ++ c.zero (o + 13) 2 ++ c.rng (o + 16) 1 1 255 ++ c.zero (o + 17) 15
    ++ each 128 (fun e =>
        let w := c.u (o + 1056 + 4 * e) 4
        c.need (o + 1056 + 4 * e) (decide (w % 8 ≤ 4) && w / 8 % 2 == 0 && w / 16 % 8 != 3 && w / 16 % 8 != 7 && w / 128 % 2 == 0 && decide (w < 65536)))
    ++ each 256 (fun e =>
        let p := o + 1568 + 16 * e
        let f := c.u p 1
        c.need p (decide (f < 128) || f == 0xFF)
          ++ (if f = 0xFF then [] else c.rng (p + 1) 1 1 32 ++ c.rng (p + 2) 2 0 511)
          ++ c.rng (p + 4) 1 0 3 ++ c.zero (p + 5) 1)
    ++ each 32 (fun f =>
        let p := o + 5664 + 16 * f
        c.rng (p + 4) 1 0 15 ++ c.rng (p + 5) 1 0 3
          ++ (if (c.u (p + 5) 1).testBit 0 then c.rng (p + 6) 2 1 65535 ++ c.need (p + 8) (decide (c.u (p + 8) 2 < c.u (p + 6) 2)) else [])
          ++ c.zero (p + 11) 5)
    ++ each 128 fun e =>
        let p := o + 6176 + 16 * e
        let f := c.u p 1
        c.need p (decide (f < 32) || f == 0xFF)
          ++ (if f = 0xFF then [] else c.rng (p + 1) 1 1 32) ++ c.rng (p + 4) 1 0 3 ++ c.zero (p + 5) 3

/-- CANF (15 R318). -/
def rangeCanf (c : Sec) : List Bad := rangeCanBlock c 0 ++ rangeCanBlock c 1

/-- IOCF (11 R238). -/
def rangeIocf (c : Sec) : List Bad :=
  each 8 (fun k =>
      let o := 16 * k
      let top : Int := if c.u o 1 = 1 then 655360 else 1572864
      c.rng o 1 0 2 ++ c.zero (o + 1) 3
        ++ (if c.u o 1 = 0 then [] else c.rngI (o + 4) 4 0 top ++ c.rngI (o + 8) 4 0 top)
        ++ c.need (o + 4) (decide (c.i (o + 4) 4 ≤ c.i (o + 12) 4)) ++ c.need (o + 8) (decide (c.i (o + 12) 4 ≤ c.i (o + 8) 4)))
    ++ each 32 (fun k => c.rng (129 + 4 * k) 1 0 1 ++ c.zero (130 + 4 * k) 2)
    ++ each 16 (fun k => c.rng (256 + 4 * k) 1 0 3 ++ c.zero (257 + 4 * k) 3)
    ++ each 4 fun k =>
      let o := 320 + 8 * k
      c.rng o 1 0 3 ++ c.rng (o + 1) 1 0 7 ++ c.rng (o + 2) 1 0 1 ++ c.rng (o + 3) 1 1 255 ++ c.zero (o + 5) 3

/-- TIMC (09 R186). -/
def rangeTimc (c : Sec) : List Bad :=
  c.rng 0 1 0 127 ++ c.need 1 (c.u 1 1 == 0xFF || (decide (c.u 1 1 ≤ 127) && c.u 1 1 != c.u 0 1)) ++ c.rng 2 1 0 1
    ++ c.rngI 3 1 (-7) 0 ++ c.rngI 4 1 (-3) 3 ++ c.rng 5 1 2 15 ++ c.rng 6 1 4 255 ++ c.rng 7 1 1 15 ++ c.rng 8 2 1 500
    ++ c.rng 10 2 10 1000 ++ c.need 12 (decide (100 ≤ c.u 12 2) && decide (c.u 10 2 < c.u 12 2)) ++ c.rng 14 2 0 10000
    ++ c.rng 16 2 16 16000 ++ c.need 18 (decide (64 ≤ c.u 18 2) && decide (c.u 18 2 ≤ 64000) && decide (4 * c.u 16 2 ≤ c.u 18 2))
    ++ c.rng 20 4 1000 1000000000 ++ c.rng 24 4 0 1000000 ++ c.rngI 28 2 (-8000) 8000 ++ c.rngI 30 2 (-8000) 8000
    ++ each 4 (fun k => c.rng (32 + 2 * k) 2 0 8000) ++ c.zero 40 24

/-- An address as octets in transmission order. -/
def Sec.ip (c : Sec) (o : Nat) : Nat := beNat ((c.b.drop o).take 4)

/-- NETC (10 R213). -/
def rangeNetc (c : Sec) : List Bad :=
  let host := 2 ^ (32 - c.u 8 1)
  let bcast := c.ip 4 / host * host + (host - 1)
  c.rng 0 1 1 3 ++ c.rng 1 1 1 3 ++ c.rng 2 1 0 1 ++ c.need 3 (decide (c.u 3 1 < 64) || c.u 3 1 == 0xFF) ++ c.rng 8 1 8 25 ++ c.rng 9 1 0 7
    ++ c.rng 12 1 0 7 ++ c.rng 13 1 0 7 ++ c.rng 14 2 0 4094
    ++ c.need 16 ((decide (224 ≤ c.u 16 1) && decide (c.u 16 1 ≤ 239)) || c.ip 16 == bcast)
    ++ c.rng 20 1 10 100 ++ c.zero 21 1 ++ c.rng 22 2 100 10000 ++ c.zero 24 8

/-- RECC (16 R342). -/
def rangeRecc (c : Sec) : List Bad := c.rng 0 2 1 600 ++ c.rng 4 1 1 60 ++ c.zero 5 11

/-- Check 10 on one section's content; an empty section has none. -/
def rangeSec (im : List Byte) (id : Nat) : List Bad :=
  let c := secOf im id
  if c.b.length = 0 then []
  else match id with
    | 1 => rangeHdr c | 2 => rangeRoute c | 3 => rangeLane c | 4 => rangeBank c | 5 => rangeProf c | 6 => rangeFmap c
    | 7 => rangeLoop c | 8 => rangeEph c | 9 => rangeAfe c | 10 => rangeFan c | 11 => rangeCanf c | 12 => rangeIocf c
    | 13 => rangeTimc c | 14 => rangeNetc c | 15 => rangeRecc c | _ => []

/-! ### Check 11: references between entries and sections -/

/-- ROLE of the bank of valve `v` in an image. -/
def roleIn (im : List Byte) (v : Nat) : Nat := (secOf im 4).u (16 + 16 * (v % 12)) 1

/-- ROUTE: producers, valves of banks that are not proportional, fans in zones (11 R235; 14 R290). -/
def refRoute (im : List Byte) : List Bad :=
  let c := secOf im 2
  let f := secOf im 10
  if c.b.length = 0 then [] else
  each 392 fun k =>
    let sl := c.u (2 * k) 2
    c.need (2 * k) (sl == 0xFFFF ||
      (producer sl && !(decide (24 ≤ k) && decide (k < 120) && roleIn im (k - 24) != 2)
        && !(decide (8 ≤ k) && decide (k < 24) && f.b.length != 0 && f.u (8 + 24 * (k - 8)) 1 != 0 && f.u (10 + 24 * (k - 8)) 1 != 0xFF)))

/-- LANE: valves of ejector banks, unused lanes all 0 (05 R88). -/
def refLane (im : List Byte) : List Bad :=
  let c := secOf im 3
  each 128 fun l =>
    let o := 8 * l
    let p := c.u o 1
    let a := c.u (o + 1) 1
    if p = 0xFF then c.zero (o + 1) 7
    else c.need o (roleIn im p == 1) ++ c.need (o + 1) (a == 0xFF || roleIn im a == 1)

/-- T_BST_MAX of profile `p` in an image. -/
def tbstIn (im : List Byte) (p : Nat) : Nat := (secOf im 5).u (32 * (p - 1) + 2) 2

/-- BANK: PPROF names a profile without boost (06 R113). -/
def refBank (im : List Byte) : List Bad :=
  let c := secOf im 4
  each 12 fun b => c.need (20 + 16 * b) (c.u (16 + 16 * b) 1 != 2 || tbstIn im (c.u (20 + 16 * b) 1) == 0)

/-- PROF: FALLBACK (06 R113). -/
def refProf (im : List Byte) : List Bad :=
  let c := secOf im 5
  each 31 fun k =>
    let fb := c.u (32 * k + 15) 1
    c.need (32 * k + 15) (if tbstIn im (k + 1) = 0 then fb == 0 else fb != 0 && tbstIn im fb == 0)

/-- LOOP: producers of the slots named, and the slots MODE0 needs (11 R220, R233). -/
def refLoop (im : List Byte) : List Bad :=
  let c := secOf im 7
  each 64 fun n =>
    let o := 256 * n
    let m := c.u (o + 1) 1
    let named := fun (k : Nat) => c.u (o + 8 + 2 * k) 2 != 0xFFFF
    let needs := fun (k : Nat) =>
      match k with
      | 0 => m == 2 || m == 3 || m == 4
      | 1 => m == 3
      | 2 => m == 5
      | _ => (m == 2 || m == 3) && (c.u o 1).testBit 3
    if (c.u o 1).testBit 0 then
      each 4 fun k => c.need (o + 8 + 2 * k) (if named k then producer (c.u (o + 8 + 2 * k) 2) else !needs k)
    else []

/-- EPH: allocations do not overlap, the initial bins fit, no bin is skipped (12 R245). -/
def refEph (im : List Byte) : List Bad :=
  let c := secOf im 8
  let lp := secOf im 7
  let used := fun (n : Nat) => (c.u (32 * n) 1).testBit 0
  let lo := fun (n : Nat) => c.u (32 * n + 4) 2
  let nb := fun (n : Nat) => 2 ^ c.u (32 * n + 2) 1
  each 64 fun n =>
    let o := 32 * n
    if used n then
      c.need (o + 4) ((List.range 64).all fun m => m == n || !used m || decide (lo n + nb n ≤ lo m) || decide (lo m + nb m ≤ lo n))
        ++ c.need (o + 20) (c.u (o + 1) 1 != 0 || decide (nb n * lp.u (256 * n + 4) 2 * 50 ≤ c.u (o + 20) 4))
        ++ c.need (o + 28) (c.u (o + 28) 4 == 0 || decide (c.u (o + 28) 4 + 4 * nb n ≤ c.b.length))
    else []

/-- Modes a curve is listed for (13 R279). -/
def curveMode (cv m : Nat) : Bool :=
  if 2 ≤ cv ∧ cv ≤ 9 then m == 6 else if 10 ≤ cv ∧ cv ≤ 12 then m == 5 else if cv = 13 then m == 3 else true

/-- AFE: curve and mode, cold junction, custom curves (13 R279, R281, R284). -/
def refAfe (im : List Byte) : List Bad :=
  let c := secOf im 9
  each 16 fun k =>
    let o := 8 + 32 * k
    let cv := c.u (o + 3) 1
    if c.u o 1 = 0 then []
    else c.need (o + 3) (curveMode cv (c.u o 1) && (decide (cv < 16) || decide (2 ≤ c.u (576 + 520 * (cv - 16)) 2)))
      ++ c.need (o + 6) (c.u (o + 6) 2 == 0xFFFF || producer (c.u (o + 6) 2))

/-- FAN: tach, switch and zone references (14 R286, R290, R291). -/
def refFan (im : List Byte) : List Bad :=
  let c := secOf im 10
  let sw := fun (k : Nat) => if c.u (8 + 24 * k) 1 = 0 then 0xFF else c.u (9 + 24 * k) 1
  each 16 (fun k =>
      let o := 8 + 24 * k
      let fl := c.u (o + 3) 1
      let z := c.u (o + 2) 1
      if c.u o 1 = 0 then []
      else c.need (o + 1) ((c.u o 1 != 2 || sw k != 0xFF) && (sw k == 0xFF || (List.range 16).all fun j => j == k || sw j != sw k))
        ++ c.need (o + 3) (!fl.testBit 2 || (fl.testBit 1 && z != 0xFF && decide (2 ≤ c.u (656 + 144 * z) 2)))
        ++ c.need (o + 4) (fl.testBit 1 || c.u (o + 4) 1 == 0)
        ++ (if sw k = 0xFF then c.zero (o + 14) 3 else []))
    ++ each 8 fun z => c.need (392 + 24 * z) (c.u (392 + 24 * z) 1 == 0 || decide (2 ≤ c.u (584 + 144 * z) 2))

/-- CANF: decode entries name decoding elements, fields lie within their frame (15 R318). -/
def refCanf (im : List Byte) : List Bad :=
  let c := secOf im 11
  let fits := fun (p bits : Nat) => (fieldBits ((c.u (p + 4) 1).testBit 0) (c.u (p + 2) 2) (c.u (p + 1) 1)).all fun q => decide (q < bits)
  each 2 fun x =>
    let o := 8224 * x
    each 256 (fun e =>
        let p := o + 1568 + 16 * e
        let f := c.u p 1
        if f = 0xFF then [] else
          c.need p ((c.u (o + 1056 + 4 * f) 4 / 16 % 8).testBit 2) ++ c.need (p + 2) (fits p 512))
      ++ each 128 fun e =>
        let p := o + 6176 + 16 * e
        let f := c.u p 1
        if f = 0xFF then [] else c.need (p + 2) (fits p (if (c.u (o + 5664 + 16 * f) 4).testBit 30 then 512 else 64))

/-- TIMC: PHY latencies only for SGMII ports (09 R186). -/
def refTimc (im : List Byte) : List Bad :=
  let c := secOf im 13
  let n := secOf im 14
  each 4 fun k => c.need (32 + 2 * k) (n.u (k / 2) 1 == 3 || c.u (32 + 2 * k) 2 == 0)

/-- NETC: the 64 addresses are host addresses of the subnet (10 R213). -/
def refNetc (im : List Byte) : List Bad :=
  let c := secOf im 14
  let host := 2 ^ (32 - c.u 8 1)
  c.need 4 (decide (1 ≤ c.ip 4 % host) && decide (c.ip 4 % host + 63 ≤ host - 2))

/-- Check 11 over the sections that are not empty. -/
def references (im : List Byte) : List Bad :=
  let use := fun (id : Nat) (l : List Bad) => if secLen im id = 0 then [] else l
  use 2 (refRoute im) ++ refLane im ++ refBank im ++ refProf im ++ use 7 (refLoop im) ++ use 8 (refEph im) ++ use 9 (refAfe im)
    ++ use 10 (refFan im) ++ use 11 (refCanf im) ++ refTimc im ++ refNetc im

/-! ### The checks in their order (R57) -/

/-- The section ids. -/
def secIds : List Nat := (List.range 16).map (· + 1)

/-- A check that fails at its lowest offending byte. -/
def verdict (err : Nat) (bad : List Bad) (k : Verdict) : Verdict :=
  match lowest bad with
  | some b => { err := err, sect := b.1, off := b.2 }
  | none => k

/-- All checks pass. -/
def passed : Verdict := { err := 0, sect := 0, off := 0 }

/-- Checks 1 … 5 on a source (pass one of R62): `im` are its first TOTAL_LEN bytes, `key` the stored key, `kid` IMG_KEY_ID. -/
def passOne (im : List Byte) (key : Option (List Byte)) (kid : Word) : Verdict :=
  let h : Sec := { id := 0, off := 0, b := im }
  let total := h.u 8 4
  let auth := secOff im 16
  verdict 1 (h.need 8 (decide (352 ≤ total) && decide (total ≤ 8388608) && total == auth + 32))
    (verdict 2 (h.need 0 (h.u 0 4 == 0x4D494E4D) ++ h.need 4 (h.u 4 2 == 1))
      (verdict 3 (h.need 12 (h.u 12 4 == 0x00960001))
        (match key with
        | none => { err := 4, sect := 0, off := 16 }
        | some k =>
          verdict 4 (h.need 16 (h.u 16 4 == kid.toNat))
            (verdict 5 (if hmacSha256 k (im.take auth) = (im.drop auth).take 32 then [] else [(16, auth)]) passed))))

/-- Checks 6 … 11 (pass two of R62). Check 7 names the first byte of the section whose CRC differs (DESIGN CHOICE, assumption 34). -/
def passTwo (im : List Byte) : Verdict :=
  let each16 := fun (f : Nat → List Bad) => secIds.flatMap f
  verdict 6 (each16 (checkEntry im))
    (verdict 7 (each16 fun id => if secLen im id = 0 ∨ id = 16 ∨ secCrc im id = w32 (leAt im (dirAt (id - 1) + 12) 4) then [] else [(id, secOff im id)])
      (verdict 8 (each16 fun id => if leAt im (dirAt (id - 1) + 1) 1 = 1 then [] else [(id, dirAt (id - 1) + 1)])
        (verdict 9 (mandatory.flatMap fun id => if secLen im id = 0 then [(id, dirAt (id - 1) + 8)] else [])
          (let lens := each16 (checkLen im)
           verdict 10 (lens ++ each16 fun id => if checkLen im id = [] then rangeSec im id else [])
            (verdict 11 (references im) passed)))))

/-! ### Check 12: what a timed swap may change (R64) -/

/-- Parts that differ between the staged image and the one in force, as the mask of IMG_SWAP_SECT. -/
def swapParts (st im : List Byte) : Nat :=
  let curve := fun (id : Nat) (x : List Byte) => ((secBytes x id).drop (leAt (secBytes x id) 0 4)).take (leAt (secBytes x id) 4 4)
  b2n (secBytes st 5 != secBytes im 5) + 2 * b2n (secBytes st 6 != secBytes im 6)
    + 4 * b2n (curve 9 st != curve 9 im) + 8 * b2n (curve 10 st != curve 10 im)

/-- Whether byte `k` of an image may differ in a timed swap. -/
def swapFree (im : List Byte) (k : Nat) : Bool :=
  let inCurve := fun (id : Nat) =>
    let lo := secOff im id + leAt (secBytes im id) 0 4
    secLen im id != 0 && decide (lo ≤ k) && decide (k < lo + leAt (secBytes im id) 4 4)
  let inSec := fun (id : Nat) => decide (secOff im id ≤ k) && decide (k < secOff im id + secLen im id)
  (decide (20 ≤ k) && decide (k < 36)) || (decide (40 ≤ k) && decide (k < 56))
    || ([1, 5, 6, 9, 10].any fun id => decide (dirAt (id - 1) + 12 ≤ k) && decide (k < dirAt (id - 1) + 16))
    || inSec 5 || inSec 6 || inCurve 9 || inCurve 10 || inSec 16

/-- Check 12: the staged image equals the one in force outside what a swap may change. -/
def swapOk (st im : List Byte) : Bool :=
  st.length == im.length && (List.range im.length).all fun k => swapFree im k || st.getD k 0 == im.getD k 0

/-- The section that byte `k` of an image lies in; 0 for padding. -/
def sectAt (im : List Byte) (k : Nat) : Nat :=
  (secIds.find? fun id => decide (secOff im id ≤ k) && decide (k < secOff im id + secLen im id)).getD 0

/-- The result of check 12 where it fails: the first byte that differs and may not (R57, R64). -/
def swapVerdict (st im : List Byte) : Verdict :=
  match (List.range im.length).find? fun k => !(swapFree im k || st.getD k 0 == im.getD k 0) with
  | some k => { err := 12, sect := sectAt im k, off := k }
  | none => { err := 12, sect := 1, off := 8 }

end Sys2Proof.Machine
end

