-- ==== Sys2Proof/Machine/Loops.lean ====
section
/-! DEFINITION. Beats, the loop law, modes, fallback, admission, overrun, host slots and sinks (11; 01 R15, R18). -/

namespace Sys2Proof.Machine

/-! ### A loop's registers and what it holds -/

/-- A loop that no image has set up. -/
def loopNone (_ : Nat) : LoopCtx :=
  { coef := List.replicate 11 0, sel := 0, acc := 0, d := 0, xPrev := none, y := 0, e := 0, last := 0, fall := none, viaFb := false }

/-- What a loop holds beside its registers. -/
def State.lc (s : State) (n : Nat) : LoopCtx := storeGet loopNone s.loop.ctx n

/-- Replace what a loop holds. -/
def State.setLc (s : State) (n : Nat) (c : LoopCtx) : State := { s with loop := { s.loop with ctx := storeSet loopNone s.loop.ctx n c } }

/-- Address of a per-loop LOOP register. -/
def loopReg (base n : Nat) : Nat := base + 0x80 * n

/-- MODE of a loop as performed. -/
def State.loopMode (s : State) (n : Nat) : Nat := s.rf (loopReg Reg.LOOP_CTL n) 0 3
/-- PER of a loop; 0 unused. -/
def State.loopPer (s : State) (n : Nat) : Nat := s.rf (loopReg Reg.LOOP_CFG n) 0 16
/-- PHASE of a loop in µs. -/
def State.loopPhase (s : State) (n : Nat) : Nat := s.rf (loopReg Reg.LOOP_CFG n) 16 6

/-- The coefficient words in force: 0 KP, 1 KI, 2 KD, 3 KF, 4 α, 5 IMIN, 6 IMAX, 7 OMIN, 8 OMAX, 9 SLEW, 10 OFF_VAL. -/
def LoopCtx.co (c : LoopCtx) (i : Nat) : Int := (c.coef.getD i 0).toInt

/-- The shadow words of a loop. -/
def State.shadow (s : State) (n : Nat) : List Word := (List.range 11).map fun i => s.reg (loopReg Reg.LOOP_KP n + 4 * i)

/-- REVERSE, DPV and FFEN as written. -/
def State.shadowSel (s : State) (n : Nat) : BitVec 3 := BitVec.ofNat 3 (s.rf (loopReg Reg.LOOP_CTL n) 12 3)

/-- An input a loop names: its slot in the input copy, or the slot of no producer where it names none (R224; LOOP_SLOT). 0 PV, 1 SP, 2 TRK, 3 FF. -/
def State.loopIn (s : State) (n i : Nat) : Slot :=
  if s.bit (loopReg Reg.LOOP_FFSLOT n) (10 + i) then
    s.inp (if i = 3 then s.rf (loopReg Reg.LOOP_FFSLOT n) 0 10 else s.rf (loopReg Reg.LOOP_SLOT n) (10 * i) 10)
  else slotNone 0

/-! ### Cost and admission (R228, R229) -/

/-- CORE cycles of one execution of a loop, retries excluded (R228). -/
def State.loopCost (s : State) (n : Nat) : Nat :=
  56 + (if s.ephOn n then 40 else 0) + (if (s.genOf n).isSome then 8 else 0) + (if (s.chanOf n).isSome then 8 else 0)

/-- The admission test with loop `n` at cost `c` and not in OFF, the others as they are: the test that fails and the cycles it found (R229). -/
def State.admitTest (s : State) (n c : Nat) : Option (Nat × Nat) :=
  let cost (m : Nat) : Nat := if m = n then c else if s.loopMode m = 0 then 0 else s.loopCost m
  let upTo (m : Nat) : Nat := ((List.range (m + 1)).map cost).sum
  if 16000 < upTo 63 then some (0, upTo 63)
  else
    match (List.range 64).find? fun m => (m == n || s.loopMode m != 0) && decide (398 * (s.loopPhase m - 2) < upTo m) with
    | some m => some (1, upTo m)
    | none => none

/-- A refused admission: ADMREF and LOOP_ADMIT_REF (R229). -/
def State.admitRefuse (s : State) (n : Nat) (t : Nat × Nat) : State :=
  (s.setBit (loopReg Reg.LOOP_STAT n) 8 true).raise 0x0901 (by1 n ++ by1 t.1 ++ by2 t.2)

/-- Whether the OFF ramp of a loop runs: it is in OFF with y different from OFF_VAL (R220). -/
def State.ramping (s : State) (n : Nat) : Bool :=
  decide (s.loopMode n = 0) && decide ((s.lc n).last = 0) && decide ((s.lc n).y ≠ (s.lc n).co 10)

/-- Show what follows from a loop's registers: SHDIFF, RAMPING, COST and C_63. -/
def State.showLoop (s : State) (n : Nat) : State :=
  let diff := s.shadow n != (s.lc n).coef || s.shadowSel n != (s.lc n).sel
  let s1 := ((s.setBit (loopReg Reg.LOOP_STAT n) 6 diff).setBit (loopReg Reg.LOOP_STAT n) 7 (s.ramping n)).setRf (loopReg Reg.LOOP_OFS n) 16 8 (if s.loopPer n = 0 then 0 else s.loopCost n)
  s1.setReg Reg.LOOP_ADMIT (w32 (((List.range 64).map fun m => if s1.loopMode m = 0 then 0 else s1.loopCost m).sum % 16384))

/-- Stop the channels that wait on a generator which is aborted before it starts (R259). -/
def State.capOrphans (s : State) (g : Nat) : State :=
  (List.range 8).foldl (fun x c =>
    if (x.chan c).bound.isSome && x.bit (chanReg Reg.EPH_CCTL c) 24 && x.rf (chanReg Reg.EPH_CCTL c) 2 2 == 2 && x.rf (chanReg Reg.EPH_CCTL c) 4 2 == g
    then (x.capEnd c).showLoop ((x.chan c).bound.getD 0) else x) s

/-- A generator is aborted (R258). -/
def State.genAbort (s : State) (g cause : Nat) : State :=
  let s1 := s.genEnd g cause
  if s.genAct g then s1 else s1.capOrphans g

/-- LOOP_MODE_WRITE: a write of LOOP_CTLn. MODE 6 and 7 and FBMODE 3 are not performed; leaving OFF is admitted (R220, R229). The mode acts in the next execution (R217). Answers the status. -/
def State.writeLoopCtl (s : State) (n : Nat) (w : Word) : Nat × State :=
  let m := fld w 0 3
  if 5 < m ∨ fld w 4 2 = 3 then (1, s)
  else
    let go (x : State) : Nat × State :=
      let x1 := x.setReg (loopReg Reg.LOOP_CTL n) (w &&& 0xFFFF7F37#32)
      (0, (x1.setLc n { x1.lc n with viaFb := false }).showLoop n)
    if s.loopMode n = 0 ∧ m ≠ 0 then
      if s.loopPer n = 0 then (1, s)
      else match s.admitTest n (s.loopCost n) with
        | some t => (1, s.admitRefuse n t)
        | none => go s
    else go s

/-- LOOP_APPLY: the shadow set of every named loop comes into force where its mode is OFF, MANUAL or TRACK (R227). -/
def State.loopApply (s : State) (k : Nat) (w : Word) : Nat × State :=
  (List.range 32).foldl (fun r j =>
    if bitOf w j then
      let n := 32 * k + j
      let m := r.2.loopMode n
      if m = 0 ∨ m = 1 ∨ m = 5 then
        (r.1, (r.2.setLc n { r.2.lc n with coef := r.2.shadow n, sel := r.2.shadowSel n }).showLoop n)
      else (1, r.2.setBit (loopReg Reg.LOOP_STAT n) 5 true)
    else r) (0, s)

/-! ### Host slots (R234) -/

/-- HOST_SLOT_WRITE: the slot takes the value with COND 0, and its HINV bit clears. -/
def State.hostSlot (s : State) (m : Nat) (w : Word) : State :=
  ((s.setReg (Reg.LOOP_HVAL + 4 * m) w).setBit (Reg.LOOP_HINV + 4 * (m / 32)) (m % 32) false).putSlot (768 + m) w 0

/-- HOST_SLOT_INVALIDATE: LOOP_HINVk takes a new value; a set bit gives its slot COND 3, a bit cleared by it COND 0. -/
def State.hostInv (s : State) (k : Nat) (w : Word) : State :=
  let old := s.reg (Reg.LOOP_HINV + 4 * k)
  (List.range 32).foldl (fun x j => if bitOf w j == bitOf old j then x else x.setCond (768 + 32 * k + j) (if bitOf w j then 3 else 0))
    (s.setReg (Reg.LOOP_HINV + 4 * k) w)

/-! ### Ephemeris, injection and capture under admission (R229, R255, R259) -/

/-- EPH_ENABLE: a write of EPH_CTLn; EN is not performed for an unallocated loop, and is admitted while the loop is not in OFF. CLEAR and RESTORE of the same write act after it. -/
def State.writeEphCtl (s : State) (n : Nat) (w : Word) : Nat × State :=
  let acts (x : State) : State :=
    let x1 := if bitOf w 3 then x.setBins n false else x
    if bitOf w 4 then x1.setBins n true else x1
  let put (x : State) : State := (acts (x.setReg (ephReg Reg.EPH_LCTL n) (w32 (fld w 0 3)))).showLoop n
  if bitOf w 0 then
    if s.ephNb n = 0 then (1, s)
    else if s.ephOn n ∨ s.loopMode n = 0 then (0, put s)
    else match s.admitTest n (s.loopCost n + 40) with
      | some t => (1, s.admitRefuse n t)
      | none => (0, put s)
  else (0, put s)

/-- The instant three start registers spell, in ns: nanoseconds, seconds low, seconds high. -/
def State.startRegs (s : State) (a : Nat) : Int :=
  ((s.reg a).toNat + 1000000000 * ((s.reg (a + 4)).toNat + 2 ^ 32 * (s.reg (a + 8)).toNat) : Nat)

/-- INJ_ARM: bind a generator to the loop its control register names and charge its cost (R254, R255; assumption 51). Answers the status. -/
def State.injArm (s : State) (g : Nat) : Nat × State :=
  let a := genReg Reg.EPH_IGCTL g
  let n := s.rf a 16 6
  if s.bit a 24 ∨ s.bit a 25 ∨ (s.genOf n).isSome then (1, s)
  else
    match if s.loopMode n = 0 then none else s.admitTest n (s.loopCost n + 8) with
    | some t => (1, s.admitRefuse n t)
    | none =>
      let start := if s.bit a 2 then s.startRegs (genReg Reg.EPH_IGFI0 g + 8) else (s.ntNs : Int)
      let ord := (prbsPair (s.rf a 6 3)).1
      let s1 := s.setGen g { bound := some n, start := start, theta := 0, lfsr := 2 ^ ord - 1, bit := false }
      (0, (((s1.setBit a 24 true).setReg (genReg Reg.EPH_IGM g) 0)).showLoop n)

/-- INJ_ABORT: software aborts a generator that is armed or active (R258). -/
def State.injAbort (s : State) (g : Nat) : State :=
  match (s.gen g).bound with
  | some n => (s.genAbort g 1).showLoop n
  | none => s

/-- EPH_INJ_END: a generator has reached m = LEN (R255). -/
def State.injEnd (s : State) (g : Nat) : State :=
  match (s.gen g).bound with
  | some n => if s.genAct g ∧ s.genLen g ≤ s.genM g then (s.genEnd g 0).showLoop n else s
  | none => s

/-- Bytes of the capture store in force (01 R25). -/
def State.capStore (s : State) : Nat := s.img.capSize * 0x2000000

/-- CAP_ARM: bind a capture channel to the loop its control register names (R259, R260; assumption 51). Answers the status. -/
def State.capArm (s : State) (c : Nat) : Nat × State :=
  let a := chanReg Reg.EPH_CCTL c
  let n := s.rf a 8 6
  let base := (s.reg (chanReg Reg.EPH_CBASE c)).toNat
  let len := (s.reg (chanReg Reg.EPH_CBASE c + 4)).toNat
  if (s.chan c).bound.isSome ∨ (s.chanOf n).isSome ∨ base % 32 ≠ 0 ∨
      s.capStore < 2048 * (s.reg Reg.VSN_CAP_SLOTS).toNat + base + 32 * len then (1, s)
  else
    match if s.loopMode n = 0 then none else s.admitTest n (s.loopCost n + 8) with
    | some t => (1, s.admitRefuse n t)
    | none =>
      let start : Option Int :=
        match s.rf a 2 2 with
        | 1 => some (s.startRegs (chanReg Reg.EPH_CBASE c + 8))
        | 2 => if s.genAct (s.rf a 4 2) then some (s.ntNs : Int) else none
        | _ => some (s.ntNs : Int)
      let s1 := s.setChan c { bound := some n, start := start, seen := 0, missed := 0 }
      (0, (((s1.setBit a 24 true).setReg (chanReg Reg.EPH_CCNT c) 0)).showLoop n)

/-- CAP_STOP: end a capture at once (R259). -/
def State.capStop (s : State) (c : Nat) : State :=
  match (s.chan c).bound with
  | some n => (s.capEnd c).showLoop n
  | none => s

/-- EPH_CAP_DONE: a capture has counted LEN records (R259). -/
def State.capDone (s : State) (c : Nat) : State :=
  match (s.chan c).bound with
  | some n =>
    if s.bit (chanReg Reg.EPH_CCTL c) 25 ∧ (s.reg (chanReg Reg.EPH_CBASE c + 4)).toNat ≤ (s.reg (chanReg Reg.EPH_CCNT c)).toNat then
      (s.capEnd c).showLoop n
    else s
  | none => s

/-! ### The beat (01 R15, R18; R215) -/

/-- Whether loops are computed and sinks follow them: from READY on, until the last gasp (18 R365). -/
def State.loopsRun (s : State) : Bool := s.sys.dev != .boot && s.sys.dev != .loading && !s.sys.gaspDone

/-- The beat index that starts next, with the clock brought to its tick: the next multiple of 50 µs, and after a step the first at least 12,500 ticks after the last beat (R15). -/
def State.nextBeat (s : State) : Nat × State :=
  if s.clk.beatAny && s.clk.stepped then
    let s1 := s.reachTick (s.clk.beatTick + 12500)
    let i := ceilDiv s1.clk.nt (50000 * 2 ^ 32)
    (i, s1.reachNt (i * 50000 : Nat))
  else
    let i := if s.clk.beatAny then max (s.clk.beat + 1) (s.ntNs / 50000) else ceilDiv s.clk.nt (50000 * 2 ^ 32)
    (i, s.reachNt (i * 50000 : Nat))

/-- Loops due in a beat, in ascending number (R215). -/
def State.dueLoops (s : State) (i : Nat) : List Nat :=
  (List.range 64).filter fun n => s.loopPer n != 0 && i % s.loopPer n == s.rf (loopReg Reg.LOOP_OFS n) 0 16

/-- Put a loop where its output phase belongs: ascending phase, then number. -/
def State.phaseInsert (s : State) (n : Nat) : List Nat → List Nat
  | [] => [n]
  | m :: l => if s.loopPhase n < s.loopPhase m then n :: m :: l else m :: s.phaseInsert n l

/-- Keep of a digital input's edges those that can still take part: newer than 1 µs before the beat, and the two before (12 R248). -/
def pruneEdges (tb : Int) : List Int → List Int
  | [] => []
  | t :: l => if tb < t + 1000 then t :: pruneEdges tb l else (t :: l).take 2

/-- A supply or temperature monitor whose measure no command reports writes a free value (01 R17; assumption 67). -/
def State.monitor (s : State) (n : Nat) : State := s.draw.2.putSlot n (s.draw.1.setWidth 32) 0

/-- The monitors write their slots at a beat: the hub temperature, and every bank supply and die temperature that no command has reported yet (01 R17; assumption 67). -/
def State.monitors (s : State) : State :=
  (95 :: ((List.range 12).map (82 + ·) ++ [96, 97, 98]).filter fun n => (s.slot n).cond != 0).foldl State.monitor s

/-- BEAT: a beat starts; every slot is latched, encoder counts too, ages grow, and the due loops are known (01 R15; R215, R224, R242). -/
def State.beat (s0 : State) : State :=
  let i : Nat := s0.nextBeat.1
  let s : State := s0.nextBeat.2.monitors
  let s1 : State := { s with clk := { s.clk with beat := i, beatTick := s.clk.now, beatAny := true, stepped := false }, inputs := s.fabric }
  let s2 : State := (List.range 4).foldl State.encLatch s1
  let s3 : State := { s2 with gio := { s2.gio with edges := s2.gio.edges.map fun e => (e.1, pruneEdges s2.beatNs e.2) } }
  let s4 : State := (List.range 64).foldl (fun x n =>
    if x.loopPer n = 0 then x else let a := loopReg Reg.LOOP_OUT n + 16; x.setReg a (satInc (x.reg a))) s3
  let due := if s4.loopsRun then s4.dueLoops i else []
  let at' (us : Nat) (on : Bool) : Option Int := if on then some ((i * 50000 + us * 1000 : Nat) : Int) else none
  { s4 with
    loop := { s4.loop with todo := due, outs := due.foldl (fun l n => s4.phaseInsert n l) [], runs := [], freeAt := 398 * (s4.clk.now + usTicks 2)
                           propAt := at' 46 s4.loopsRun, ioAt := at' 47 s4.loopsRun
                           encAt := at' 49 (s4.sys.dev != .boot && !s4.sys.gaspDone) }
    fan := { s4.fan with zoneAt := if i % 200 = 0 ∧ s4.sys.dev ≠ .boot ∧ s4.sys.gaspDone = false then at' 48 true else s4.fan.zoneAt } }

/-! ### One execution (R219 to R226; 12 R250 to R253) -/

/-- The inputs a mode needs (R220). -/
def State.needed (s : State) (n mode : Nat) : List Slot :=
  let pv := s.loopIn n 0
  let ff := if (s.lc n).sel.getLsbD 2 then [s.loopIn n 3] else []
  match mode with
  | 2 => pv :: ff
  | 3 => pv :: s.loopIn n 1 :: ff
  | 4 => [pv]
  | 5 => [s.loopIn n 2]
  | _ => []

/-- Tag bits TR and SAT. -/
def Slot.trSat (t : Slot) : Bool := t.tag.getLsbD 3 || t.tag.getLsbD 4

/-- A fallback of a loop with its cause (R226): 0 OVERRUN, 1 STALE, 2 BADIN, 3 SRAM. A bound and active generator is aborted (12 R258). -/
def State.fallback (s : State) (n cause : Nat) : State :=
  let fb := s.rf (loopReg Reg.LOOP_CTL n) 4 2
  let m := if fb = 1 then 1 else if fb = 2 ∧ (s.loopIn n 2).cond = 0 then 5 else 0
  let s1 := if m = 1 then s.setReg (loopReg Reg.LOOP_SP n + 4) (s.reg (loopReg Reg.LOOP_SP n + 8)) else s
  let s2 := ((s1.setRf (loopReg Reg.LOOP_CTL n) 0 3 m).setBit (loopReg Reg.LOOP_STAT n) 2 true).setRf (loopReg Reg.LOOP_STAT n) 3 2 cause
  let s3 := (s2.setLc n { s2.lc n with viaFb := true, fall := none }).raise 0x0903 (by1 n ++ by1 cause ++ by1 m)
  let s4 := match s3.genOf n with
    | some g => if s3.genAct g then s3.genAbort g 3 else s3
    | none => s3
  s4.showLoop n

/-- The curve of a loop (R231). -/
def State.loopCurve (s : State) (n : Nat) : List (Int × Int) := s.points 7 (256 * n + 128) (min 16 (s.sx 7 (256 * n + 72) 1))

/-- What the law of R219 gives for an execution. -/
structure LawOut where
  sp : Int
  e : Int
  p : Int
  x : Int
  d : Int

/-- s, e, p, x and d of R219. With no x_prev (R223) x_prev is x and d starts at 0. -/
def LoopCtx.law (c : LoopCtx) (sp pv : Int) : LawOut :=
  let e := sat32 (if c.sel.getLsbD 0 then pv - sp else sp - pv)
  let p := sat32 (rnd 24 (c.co 0 * e))
  let x := if c.sel.getLsbD 1 then sat32 (-pv) else e
  let v := sat32 (rnd 24 (c.co 2 * sat32 (x - c.xPrev.getD x)))
  let d0 := if c.xPrev.isNone then 0 else c.d
  let al : Int := ((c.coef.getD 4 0).toNat % 65536 : Nat)
  { sp := sp, e := e, p := p, x := x, d := sat32 (rnd 16 (al * d0 + (65536 - al) * v)) }

/-- i of R219 after an execution: preset on entry (R221), else advanced; clamped to IMIN … IMAX. -/
def LoopCtx.integ (c : LoopCtx) (l : LawOut) (first : Bool) (f injU : Int) : Int :=
  clampI (c.co 5 * 2 ^ 24) (c.co 6 * 2 ^ 24) (if first then (c.y - l.p - l.d - f - injU) * 2 ^ 24 else c.acc + c.co 1 * l.e)

/-- y moves toward a target through slew and clamp, with whether either acted (R219; 12 R253). -/
def LoopCtx.move (c : LoopCtx) (per : Nat) (u : Int) : Int × Bool :=
  let lim := sat32 (per * c.co 9)
  let y := if c.co 9 = 0 then u else c.y + clampI (-lim) lim (u - c.y)
  (clampI (c.co 7) (c.co 8) y, decide (y ≠ u) || decide (y < c.co 7) || decide (c.co 8 < y))

/-- The execution of a loop in a mode other than OFF, its inputs checked: everything its output will write. `inj` is the value of its active generator. -/
def State.loopCompute (s : State) (n mode : Nat) (held fresh : Bool) (inj : Option Int) (finish : Nat) : LoopRun :=
  let c0 := s.lc n
  let c := if c0.last = 0 then { c0 with xPrev := none } else c0
  let pvS := s.loopIn n 0
  let pv := pvS.val.toInt
  let pid := mode = 2 ∨ mode = 3
  let pt := match s.genOf n with
    | some g => s.bit (genReg Reg.EPH_IGCTL g) 3
    | none => false
  let injV := inj.getD 0
  let injSp := if pid ∧ pt = false then injV else 0
  let injU := if (pid ∨ mode = 1) ∧ pt = true then injV else 0
  let j := if s.ephOn n then s.phase n else none
  let sp := sat32 ((if mode = 3 then (s.loopIn n 1).val.toInt else (s.reg (loopReg Reg.LOOP_SP n)).toInt) + injSp)
  let ffE := match j with
    | some k => if pid ∧ s.ephUe n = false then s.binVal (s.ephBase n + k) else 0
    | none => 0
  let run : LoopRun :=
    { loop := n, finish := finish, mode := mode, held := held, ctx := c0, errTag := 0, fresh := fresh, lim := false, j := j, learn := [], lrn := false
      track := s.bit (loopReg Reg.LOOP_CTL n) 10
      ff := ffE, inj := inj, injOn := inj.isSome, sp := sp, pv := pvS.val, pvTag := pvS.tag, u := c0.y }
  if held then run
  else
    let pvHeld := s.bit (loopReg Reg.LOOP_CTL n) 11 && pvS.trSat
    let pvOk := (mode != 1 && mode != 5) || (pvS.cond == 0 && !pvS.stale && !pvHeld)
    let l := c.law sp pv
    let first := c.last != mode
    let ff : Int := if c.sel.getLsbD 2 then (s.loopIn n 3).val.toInt else 0
    let f := sat32 (ffE + rnd 24 (c.co 3 * ff))
    let acc := if pid then c.integ l first f injU else c.acc
    let u :=
      if pid then sat32 (l.p + rnd 24 acc + l.d + f + injU)
      else if mode = 1 then sat32 ((s.reg (loopReg Reg.LOOP_SP n + 4)).toInt + injU)
      else if mode = 4 then curveAt (s.loopCurve n) pv
      else (s.loopIn n 2).val.toInt
    let snap := (mode = 1 ∨ mode = 5) ∧ first = true ∧ s.bit (loopReg Reg.LOOP_CTL n) (if c.viaFb then 9 else 8) = true
    let m := if snap then (clampI (c.co 7) (c.co 8) u, false) else c.move (s.loopPer n) u
    let c1 := { c with acc := acc, y := m.1, last := mode, viaFb := false }
    let c2 := if pvOk then { c1 with d := l.d, xPrev := some l.x, e := l.e } else c1
    let tag : Byte := if pvOk then 0 else BitVec.ofNat 8 (64 * pvS.cond + (if pvS.stale || pvHeld then 32 else 0))
    let elim := (s.reg (ephReg Reg.EPH_KR n + 4)).toInt
    let quiet := (s.needed n mode).all fun t => !t.stale && !t.trSat
    let learns := pid ∧ first = false ∧ s.bit (ephReg Reg.EPH_LCTL n) 1 = true ∧ s.ephOn n = true ∧ inj.isNone = true ∧ quiet = true ∧
      (elim = 0 ∨ (l.e.natAbs : Int) ≤ elim) ∧ m.2 = false ∧ s.ephUe n = false
    let learn := match j with
      | some k => if learns then s.learnBins n k l.e else []
      | none => []
    { run with ctx := c2, errTag := tag, lim := m.2, learn := learn, lrn := !learn.isEmpty, u := u }

/-- Show the phase reference of an execution: PINV with its episode, J and T_m (12 R247 to R249). -/
def State.showPhase (s : State) (n : Nat) (r : LoopRun) : State :=
  if s.ephOn n then
    let a := ephReg Reg.EPH_STAT n
    let src := s.rf (ephReg Reg.EPH_CFG n) 0 2
    let s1 := s.setReg (ephReg Reg.EPH_PER n) (if src = 1 then w32i ((s.ephTm n).getD 0) else 0)
    match r.j with
    | some j => (s1.setBit a 0 false).setRf a 16 12 j
    | none => (s1.setBit a 0 true).episode 0x0A01 n (by1 n ++ by1 src)
  else s

/-- A generator whose loop has entered a mode without effect for its point is aborted (12 R258). -/
def State.genMode (s : State) (n mode : Nat) : State :=
  match s.genOf n with
  | some g => if s.genAct g ∧ mode ≠ (s.lc n).last ∧ s.genEffective g mode = false then (s.genAbort g 2).showLoop n else s
  | none => s

/-- A pending fallback of an overrun or an SRAM error acts at the start of an execution (R226). -/
def State.pendFall (s : State) (n : Nat) : State :=
  match (s.lc n).fall with
  | some cause => s.fallback n cause
  | none => s

/-- The checks of R224 in a mode: whether the inputs are bad, whether the execution is held, and whether it uses only fresh inputs. -/
def State.inputCheck (s : State) (n mode : Nat) : Bool × Bool × Bool :=
  let ins := s.needed n mode
  let held := s.bit (loopReg Reg.LOOP_CTL n) 11 && ins.any Slot.trSat
  (ins.any fun t => t.cond != 0, held, !held && ins.all fun t => !t.stale)

/-- Whether the count of LOOP_AGE calls for a fallback in an execution that is not fresh (R224). -/
def State.tooOld (s : State) (n : Nat) (fresh : Bool) : Bool :=
  let mx := s.rf (loopReg Reg.LOOP_CTL n) 16 16
  !fresh && mx != 65535 && decide (mx < (s.reg (loopReg Reg.LOOP_OUT n + 16)).toNat)

/-- Begin the execution of loop `n`: fallbacks, the generator's turn, the checks, the computation with its cost and retries, each counted as a correction (R216 to R230; 01 R24). The engine's time is kept in 1/398 of a tick: a CORE cycle is 250 of them. -/
def State.loopBegin (s : State) (n retries : Nat) : State :=
  let s0 := s.setReg Reg.SYS_ECC_CE (w32 (sat 0xFFFFFFFF ((s.reg Reg.SYS_ECC_CE).toNat + retries)))
  let s1 := s0.pendFall n
  let s2 := if s1.loopMode n = 0 then s1 else s1.genMode n (s1.loopMode n)
  let s3 :=
    if s2.loopMode n = 0 then s2
    else
      let k := s2.inputCheck n (s2.loopMode n)
      if k.1 then s2.fallback n 2 else if s2.tooOld n k.2.2 then s2.fallback n 1 else s2
  let mode := s3.loopMode n
  if mode = 0 then s3
  else
    let inj := (s3.genTurn n).1
    let s4 : State := (s3.genTurn n).2
    let k := s4.inputCheck n mode
    let finish := s4.loop.freeAt + 250 * (s4.loopCost n + 12 * retries)
    let r := s4.loopCompute n mode k.2.1 k.2.2 inj finish
    let s5 := s4.showPhase n r
    { s5 with loop := { s5.loop with runs := s5.loop.runs ++ [r], freeAt := finish } }

/-- Whether a due loop is not computed: it is in OFF, with no fallback to override the OFF that software has written (R216, R226). -/
def State.offNow (s : State) (n : Nat) : Bool :=
  s.loopMode n == 0 && ((s.lc n).fall.isNone || (s.lc n).last == 0)

/-- LOOP_EXECUTION: the engine, once free, begins the next due loop that is not in OFF; `retries` counts the ECC retries that lengthen it (R216, R228). -/
def State.loopExec (s : State) (retries : Nat) : State :=
  match s.loop.todo.dropWhile s.offNow with
  | [] => s
  | n :: l =>
    let s1 := s.reachTick (ceilDiv s.loop.freeAt 398)
    ({ s1 with loop := { s1.loop with todo := l } }).loopBegin n retries

/-! ### The output phase (R216, R225, R230, R236) -/

/-- Analog and digital outputs and routed fans whose source is a loop's output slot update with it (R236; 14 R294). -/
def State.loopSinks (s : State) (n : Nat) : State :=
  let on (k : Nat) : Bool := s.route k == some (128 + n)
  let s1 := (List.range 8).foldl (fun x k => if on k then x.aoUpdate k else x) s
  let s2 := (List.range 16).foldl (fun x k => if on (120 + k) then x.doUpdate k else x) s1
  (List.range 16).foldl (fun x k => if on (8 + k) then x.fanSink k else x) s2

/-- Set STALE on a slot, keeping its value. -/
def State.staleSlot (s : State) (n : Nat) : State := s.putSlot n (s.slot n).val ((s.slot n).tag ||| 0x20)

/-- Show y, i, d and e of a loop in its registers. -/
def State.showOut (s : State) (n : Nat) : State :=
  let c := s.lc n
  let a := loopReg Reg.LOOP_OUT n
  (((s.setReg a (w32i c.y)).setReg (a + 4) (w32i (sat32 (rnd 24 c.acc)))).setReg (a + 8) (w32i c.d)).setReg (a + 12) (w32i c.e)

/-- A loop's y goes to LOOP_MANn while MTRK (`on`) is 1 and the loop is not in MANUAL (R222). -/
def State.manTrack (s : State) (n mode : Nat) (on : Bool) : State :=
  if on = true ∧ mode ≠ 1 then s.setReg (loopReg Reg.LOOP_SP n + 4) (w32i (s.lc n).y) else s

/-- Whether generator `g` starts in the present beat: it is armed, its start instant has come, and its loop is still to be computed in it (R255). -/
def State.genStarts (s : State) (g : Nat) : Bool :=
  match (s.gen g).bound with
  | some n => s.bit (genReg Reg.EPH_IGCTL g) 24 && decide ((s.gen g).start ≤ s.beatNs) && decide (n ∈ s.loop.todo) && !s.offNow n
  | none => false

/-- The start instant of a channel, if it is known: for START 2 also the start of its generator later in the present beat (R259). -/
def State.chanStart (s : State) (c : Nat) : Option Int :=
  let a := chanReg Reg.EPH_CCTL c
  match (s.chan c).start with
  | some t => some t
  | none => if s.rf a 2 2 = 2 ∧ s.genStarts (s.rf a 4 2) = true then some s.beatNs else none

/-- A channel's turn on an execution of its loop: every DECth one is captured from the start instant on; an abandoned one (`r` none) is only counted (R259, R260). -/
def State.capTurn (s : State) (n : Nat) (r : Option LoopRun) (learned : Bool) : State :=
  match s.chanOf n with
  | none => s
  | some c =>
    let a := chanReg Reg.EPH_CCTL c
    let due := match s.chanStart c with
      | some t => s.bit a 24 && decide (t ≤ s.beatNs)
      | none => false
    let s1 := if due then ((s.setBit a 24 false).setBit a 25 true).setChan c { s.chan c with seen := 0 } else s
    if s1.bit a 25 ∧ (s1.reg (chanReg Reg.EPH_CCNT c)).toNat < (s1.reg (chanReg Reg.EPH_CBASE c + 4)).toNat then
      let x := s1.chan c
      let s2 := s1.setChan c { x with seen := x.seen + 1 }
      if x.seen % max 1 (s1.rf a 16 8) = 0 then
        let i := (s2.reg (chanReg Reg.EPH_CCNT c)).toNat
        let s3 := match r with
          | some q => s2.capPush c i q learned
          | none => s2.capMiss c
        s3.setReg (chanReg Reg.EPH_CCNT c) (w32 (i + 1))
      else s2
    else s1

/-- What a loop holds after an execution: what the execution computed, with the set in force, the fallback still to act and FBSNAP as they stand now (R217, R226, R227). -/
def LoopCtx.after (now run : LoopCtx) : LoopCtx :=
  { run with coef := now.coef, sel := now.sel, fall := now.fall, viaFb := now.viaFb && run.viaFb }

/-- A completed execution's output is written (R216, R222, R225, R230). -/
def State.loopCommit (s : State) (r : LoopRun) : State :=
  let n := r.loop
  let st := loopReg Reg.LOOP_STAT n
  let s1 := (((s.setLc n ((s.lc n).after r.ctx)).setRf st 0 2 0).setBit st 9 r.held).setBit st 7 false
  let s2 := if r.fresh then s1.setReg (loopReg Reg.LOOP_OUT n + 16) 0 else s1
  let s3 :=
    if r.held then (s2.staleSlot (128 + n)).staleSlot (192 + n)
    else ((s2.putVal (128 + n) r.ctx.y).putSlot (192 + n) (w32i r.ctx.e) r.errTag).showOut n
  let s4 := (s3.manTrack n r.mode r.track).setBit (ephReg Reg.EPH_STAT n) 1 r.lrn
  let s5 := if r.lrn then s4.count (ephReg Reg.EPH_PER n + 4) else s4
  (s5.capTurn n (some r) r.lrn).loopSinks n

/-- An execution that has not finished at its output phase is abandoned (R230). -/
def State.loopOverrun (s : State) (n : Nat) : State :=
  let st := loopReg Reg.LOOP_STAT n
  let run := sat 3 (s.rf st 0 2 + 1)
  let s1 := ((s.setRf st 16 16 (sat 65535 (s.rf st 16 16 + 1))).setRf st 0 2 run).raise 0x0902 (by1 n ++ by1 run ++ by4 s.clk.beat)
  let s2 := if run = 3 then s1.setLc n { s1.lc n with fall := some 0 } else s1
  (((s2.staleSlot (128 + n)).setBit (ephReg Reg.EPH_STAT n) 1 false).capTurn n none false).loopSinks n

/-- A loop in OFF at its output phase: y ramps toward OFF_VAL through slew and clamp (R220, R222, R225). -/
def State.loopOff (s : State) (n : Nat) : State :=
  let s1 := s.genMode n 0
  let c := s1.lc n
  let off := c.co 10
  let y := (c.move (s1.loopPer n) off).1
  let s2 := s1.setLc n { c with y := y, last := 0, viaFb := false }
  let s3 := if c.y = off then s2 else s2.manTrack n 0 (s1.bit (loopReg Reg.LOOP_CTL n) 10)
  let st := loopReg Reg.LOOP_STAT n
  let s4 := ((s3.setBit st 7 (decide (y ≠ off))).setBit st 9 false).showOut n
  ((s4.putVal (128 + n) y).putSlot (192 + n) (s4.slot (192 + n)).val 0xC0).loopSinks n

/-- LOOP_OUTPUT: the next output phase of this beat: the loop's finished execution is written, an unfinished one is abandoned, a loop in OFF ramps (R216, R220, R230). -/
def State.loopOutput (s : State) : State :=
  match s.loop.outs with
  | [] => s
  | n :: l =>
    let s1 := s.reachNt (s.beatNs + 1000 * (s.loopPhase n : Int))
    let s1' := s1.learnSettle n
    let s2 := { s1' with loop := { s1'.loop with outs := l, todo := s1'.loop.todo.erase n, runs := s1'.loop.runs.filter fun r => r.loop != n } }
    match s1.runOf n with
    | some r =>
      if r.finish ≤ 398 * s1.clk.now then s2.loopCommit r
      else (({ s2 with loop := { s2.loop with freeAt := 398 * s2.clk.now } }).binsEnd n).loopOverrun n
    | none => if n ∈ s1.loop.todo ∧ s1.offNow n = false then (s2.genTurn n).2.loopOverrun n else s2.loopOff n

/-! ### Sinks with other sources (R236; 06 R128) -/

/-- IO_UPDATE: 47 µs after the beat start every analog and digital output and routed fan without a loop source updates (R236; 14 R294). -/
def State.ioUpdate (s : State) : State :=
  match s.loop.ioAt with
  | none => s
  | some t =>
    let s1 := s.reachNt t
    let s2 := { s1 with loop := { s1.loop with ioAt := none } }
    let s3 := (List.range 8).foldl (fun x k => if x.loopFed k then x else x.aoUpdate k) s2
    let s4 := (List.range 16).foldl (fun x k => if x.loopFed (120 + k) then x else x.doUpdate k) s3
    (List.range 16).foldl (fun x k => if x.loopFed (8 + k) then x else x.fanSink k) s4

/-- PROP_SET_UPDATE: 46 µs after the beat start every proportional channel reads its source slot (06 R128). -/
def State.propSet (s : State) : State :=
  match s.loop.propAt with
  | none => s
  | some t =>
    let s1 := s.reachNt t
    ({ s1 with loop := { s1.loop with propAt := none } }).propUpdate fun v => s1.route (24 + v)

/-! ### The end of a load (R229, R233, R234) -/

/-- The registers of a loop and what it holds take their values from its entry; MODE stays OFF until it is admitted. -/
def State.loopLoadOne (s : State) (n : Nat) : State :=
  let o := 256 * n
  let f := s.sx 7 o 1
  if f.testBit 0 then
    let slot (i : Nat) : Nat := s.sx 7 (o + 8 + 2 * i) 2
    let num (i : Nat) : Nat := if 1023 < slot i then 0x3FF else slot i
    let ctl := 16 * (s.sx 7 (o + 2) 1 % 4) + 256 * (f / 16 % 16) + 4096 * (f / 2 % 8) + 65536 * s.sx 7 (o + 34) 2
    let coef : List Word := ([16, 20, 24, 28].map fun k => w32 (s.sx 7 (o + k) 4)) ++ [w32 (s.sx 7 (o + 32) 2)]
      ++ ([36, 40, 44, 48, 52, 56].map fun k => w32 (s.sx 7 (o + k) 4))
    let s1 := (s.setReg (loopReg Reg.LOOP_CTL n) (w32 ctl)).setReg (loopReg Reg.LOOP_STAT n) (s.reg (loopReg Reg.LOOP_STAT n) &&& 0xFFFF013C#32)
    let s2 := (((s1.setReg (loopReg Reg.LOOP_SP n) (w32 (s.sx 7 (o + 64) 4))).setReg (loopReg Reg.LOOP_SP n + 4) (w32 (s.sx 7 (o + 68) 4))).setReg
      (loopReg Reg.LOOP_SP n + 8) (w32 (s.sx 7 (o + 60) 4)))
    let s3 := s2.putRegs (loopReg Reg.LOOP_KP n) coef
    let s4 := ((s3.setReg (loopReg Reg.LOOP_CFG n) (w32 (s.sx 7 (o + 4) 2 + 65536 * (s.sx 7 (o + 3) 1 % 64)))).setReg
      (loopReg Reg.LOOP_OFS n) (w32 (s.sx 7 (o + 6) 2)))
    let s5 := (s4.setReg (loopReg Reg.LOOP_SLOT n) (w32 (num 0 + 1024 * num 1 + 1048576 * num 2))).setReg (loopReg Reg.LOOP_FFSLOT n)
      (w32 (num 3 + ((List.range 4).map fun i => if 1023 < slot i then 0 else 2 ^ (10 + i)).sum + 65536 * s.sx 7 (o + 72) 1))
    let off := (coef.getD 10 0).toInt
    let s6 := s5.setLc n { loopNone n with coef := coef, sel := BitVec.ofNat 3 (f / 2 % 8), y := off }
    (((s6.setReg (loopReg Reg.LOOP_OUT n + 16) 0).showOut n).putVal (128 + n) off).putSlot (192 + n) 0 0xC0
  else
    let s1 := [Reg.LOOP_CTL, Reg.LOOP_STAT, Reg.LOOP_SP, Reg.LOOP_SP + 4, Reg.LOOP_SP + 8, Reg.LOOP_CFG, Reg.LOOP_OFS, Reg.LOOP_SLOT, Reg.LOOP_FFSLOT,
      Reg.LOOP_OUT + 16].foldl (fun x a => x.setReg (loopReg a n) (regReset (loopReg a n))) s
    let s2 := s1.putRegs (loopReg Reg.LOOP_KP n) (List.replicate 11 0)
    (((s2.setLc n (loopNone n)).showOut n).putSlot (128 + n) 0 0xC0).putSlot (192 + n) 0 0xC0

/-- A loop enters MODE0 where it is admitted; a refused one stays in OFF (R229). -/
def State.loopAdmitLoad (s : State) (n : Nat) : State :=
  let m := if (s.sx 7 (256 * n) 1).testBit 0 then s.sx 7 (256 * n + 1) 1 % 8 else 0
  if m = 0 then s.showLoop n
  else match s.admitTest n (s.loopCost n) with
    | some t => (s.admitRefuse n t).showLoop n
    | none => (s.setRf (loopReg Reg.LOOP_CTL n) 0 3 m).showLoop n

/-- Every host slot reads 0 with COND 3 (R234). -/
def State.hostSlotsReset (s : State) : State :=
  let s1 := (List.range 256).foldl (fun x m => (x.setReg (Reg.LOOP_HVAL + 4 * m) 0).putSlot (768 + m) 0 0xC0) s
  (List.range 8).foldl (fun x k => x.setReg (Reg.LOOP_HINV + 4 * k) 0xFFFFFFFF) s1

/-- The end of a load for EPH and LOOP: bins and registers, host slots, then admission in ascending loop number. -/
def State.loopLoad (s : State) : State :=
  let s1 := ({ s with loop := { s.loop with todo := [], outs := [], runs := [] } }).ephLoad
  let s2 := ((List.range 64).foldl State.loopLoadOne s1).hostSlotsReset
  (List.range 64).foldl State.loopAdmitLoad s2

/-! ### Meanings -/

/-- BEAT (01 R15). -/
def execBeat : State → Out := actNow State.beat

/-- LOOP_EXECUTION (R219). -/
def execLoopExecution (retries : Nat) : State → Out := actNow fun s => s.loopExec retries

/-- LOOP_OUTPUT (R216). -/
def execLoopOutput : State → Out := actNow State.loopOutput

/-- IO_UPDATE (R236). -/
def execIoUpdate : State → Out := actNow State.ioUpdate

/-- PROP_SET_UPDATE (06 R128). -/
def execPropSetUpdate : State → Out := actNow State.propSet

/-- LOOP_MODE_WRITE (R229). -/
def execLoopModeWrite (n : Fin 64) (w : Word) : State → Out := actNow fun s => (s.writeLoopCtl n w).2

/-- LOOP_APPLY (R227). -/
def execLoopApply (k : Fin 2) (w : Word) : State → Out := actNow fun s => (s.loopApply k w).2

/-- HOST_SLOT_WRITE (R234). -/
def execHostSlotWrite (m : Fin 256) (w : Word) : State → Out := actNow fun s => s.hostSlot m w

/-- HOST_SLOT_INVALIDATE (R234). -/
def execHostSlotInvalidate (k : Fin 8) (w : Word) : State → Out := actNow fun s => s.hostInv k w

/-- Clear every LOOP_STATn.OVERRUN (R230). -/
def State.loopClear (s : State) : State := (List.range 64).foldl (fun x n => x.setRf (loopReg Reg.LOOP_STAT n) 16 16 0) s

/-- LOOP_CCLR (R230). -/
def execLoopCclr : State → Out := actNow State.loopClear

/-- EPH_ENABLE (R229). -/
def execEphEnable (n : Fin 64) (w : Word) : State → Out := actNow fun s => (s.writeEphCtl n w).2

/-- INJ_ARM (R255). -/
def execInjArm (g : Fin 4) : State → Out := actNow fun s => (s.injArm g).2

/-- INJ_ABORT (R258). -/
def execInjAbort (g : Fin 4) : State → Out := actNow fun s => s.injAbort g

/-- EPH_INJ_END (R255). -/
def execEphInjEnd (g : Fin 4) : State → Out := actNow fun s => s.injEnd g

/-- CAP_ARM (R259). -/
def execCapArm (c : Fin 8) : State → Out := actNow fun s => (s.capArm c).2

/-- CAP_STOP (R259). -/
def execCapStop (c : Fin 8) : State → Out := actNow fun s => s.capStop c

/-- EPH_CAP_DONE (R259). -/
def execEphCapDone (c : Fin 8) : State → Out := actNow fun s => s.capDone c

end Sys2Proof.Machine
end

