-- ==== Sys2Proof/Machine/ImageCtl.lean ====
section
/-! DEFINITION. The structure image at work: verification, loading, NOR slots and their directory, the key store, timed swaps (03 R56, R58 to R69). -/

namespace Sys2Proof.Machine

/-! ### Sources (R57, R58, R61) -/

/-- Byte `k` of a source: 0 staging, 1 slot A, 2 slot B, 3 the copy in force. -/
def State.srcByte (s : State) (src k : Nat) : Byte :=
  if src = 0 then s.dramByte (0xFE800000 + k)
  else if src = 3 then s.dramByte (0xFE000000 + k)
  else s.norByte (0x800000 * (src - 1) + k)

/-- The first `n` bytes of a source. -/
def State.srcBytes (s : State) (src n : Nat) : List Byte := (List.range n).map (s.srcByte src)

/-- The length read of a source: its TOTAL_LEN, or as much as check 1 needs where that is out of range (R49, R55). -/
def State.srcLen (s : State) (src : Nat) : Nat :=
  let n := leNat ((List.range 4).map fun k => s.srcByte src (8 + k))
  if 352 ≤ n ∧ n ≤ 8388608 then n else 352

/-- The image a source holds. -/
def State.imageOf (s : State) (src : Nat) : List Byte := s.srcBytes src (s.srcLen src)

/-- The stored key, where SET shows one. -/
def State.imgKey (s : State) : Option (List Byte) := if s.bit Reg.IMG_KEY_CTL 1 then s.img.key else none

/-- Checks 1 … 5 and 6 … 11 on a source; an SRAM error in the verification buffer (`hit`) counts as a failed authentication (R57; 01 R24). -/
def State.checkSrc (s : State) (src : Nat) (hit : Bool) : Verdict :=
  let im := s.imageOf src
  let v := passOne im s.imgKey (s.reg Reg.IMG_KEY_ID)
  if v.err ≠ 0 then v
  else if hit then { err := 5, sect := 16, off := secOff im 16 }
  else passTwo im

/-- Put a result into ERR, ERR_SECT and IMG_ERR_OFF (R57). -/
def State.setVerdict (s : State) (v : Verdict) : State :=
  ((s.setRf Reg.IMG_STATUS 8 4 v.err).setRf Reg.IMG_STATUS 16 5 v.sect).setReg Reg.IMG_ERR_OFF (w32 v.off)

/-- Ticks of a line of R63, (a + b × L) / 6 ms at an image of `len` bytes. -/
def lineTicks (a b len : Nat) : Nat := (a * 1048576 + b * len) * 250000 / (6 * 1048576)

/-- The time R63 allows to verify a source. -/
def State.verifyTicks (s : State) (src : Nat) : Nat :=
  if src = 0 ∨ src = 3 then lineTicks 20 95 (s.srcLen src) else lineTicks 40 145 (s.srcLen src)

/-- The time R63 allows to load a source. -/
def State.loadTicks (s : State) (src : Nat) : Nat :=
  if src = 0 ∨ src = 3 then lineTicks 20 170 (s.srcLen src) else lineTicks 40 145 (s.srcLen src)

/-- IMG_STATUS.BUSY follows the work under way (R61, R66). -/
def State.showImgBusy (s : State) : State := s.setBit Reg.IMG_STATUS 2 (s.img.job != .idle || !s.img.commits.isEmpty || s.img.swapDue.isSome)

/-- Start a job. -/
def State.startJob (s : State) (j : ImgJob) : State :=
  ({ s with img := { s.img with job := j, began := s.clk.now } }).showImgBusy

/-- With no work under way in the verification buffer, its errors are past. -/
def State.ueEnd (s : State) : State :=
  if s.img.job = .idle ∧ s.img.commits = [] then { s with img := { s.img with ue := [] } } else s

/-- The job has ended. -/
def State.endJob (s : State) : State := ({ s with img := { s.img with job := .idle } }).ueEnd.showImgBusy

/-- Whether an SRAM error struck the verification buffer between two ticks (01 R24). -/
def State.ueBetween (s : State) (lo hi : Nat) : Bool := s.img.ue.any fun t => decide (lo ≤ t) && decide (t ≤ hi)

/-- Clear VERIFIED, SWAPOK and IMG_SWAP_SECT (R61). -/
def State.unverify (s : State) : State :=
  ((s.setBit Reg.IMG_STATUS 3 false).setBit Reg.IMG_STATUS 5 false).setReg Reg.IMG_SWAP_SECT 0

/-- STATE of IMG_SWAP_CTL. -/
def State.swapState (s : State) : Nat := s.rf Reg.IMG_SWAP_CTL 2 2

/-- Let `dt` ticks pass, at most up to tick `due`. -/
def State.within (s : State) (dt due : Nat) : State := s.advance (min dt (due - s.clk.now))

/-! ### VERIFY (R61) -/

/-- Whether VERIFY of a source may be performed (R61). -/
def State.mayVerify (s : State) (src : Nat) : Bool :=
  s.sys.dev != .boot && s.sys.dev != .loading && !s.bit Reg.IMG_STATUS 2 && src != 3 && !(src == 0 && s.swapState != 0)

/-- VERIFY starts. -/
def State.startVerify (s : State) (src : Nat) : State :=
  (if src = 0 then s.unverify else s).startJob (.verify src)

/-- VERIFY_END: the results, and for staging the comparison with the image in force (R61, R64). -/
def State.verifyEnd (dt : Nat) (s : State) : State :=
  match s.img.job with
  | .verify src =>
    let s1 := s.within dt (s.img.began + s.verifyTicks src)
    let v := s1.checkSrc src (s1.ueBetween s1.img.began s1.clk.now)
    let s2 := (s1.setVerdict v).endJob
    if src = 0 ∧ v.err = 0 then
      let s3 := s2.setBit Reg.IMG_STATUS 3 true
      if s3.hasImage then
        let st := s3.imageOf 0
        let im := s3.imageOf 3
        (s3.setBit Reg.IMG_STATUS 5 (swapOk st im)).setRf Reg.IMG_SWAP_SECT 0 4 (swapParts st im)
      else s3
    else s2
  | _ => s.advance dt

/-! ### Loading (R58, R62) -/

/-- Cancel a swap whose tick has not come (R68). -/
def State.cancelSwap (s : State) (cause : Nat) : State :=
  if s.swapState ≠ 0 ∧ s.img.swapDue = none then
    (({ s with img := { s.img with standby := [] } }).setRf Reg.IMG_SWAP_CTL 2 2 0 |>.setBit Reg.IMG_SWAP_CTL 6 true).raise 0x0108 (by1 cause)
  else s

/-- Enter LOADING: commands are discarded, shots not yet open are withheld, every channel is released, and loops stop while sinks hold (R62 step 1; 18 R364, R365). -/
def State.enterLoading (s : State) (code : Nat) : State :=
  let s1 := ((s.setDev .loading code).discardAll DevState.loading.num).withholdAll false
  let s2 := (List.range 96).foldl State.cutChannel s1
  { s2 with loop := { s2.loop with todo := [], outs := [], runs := [], propAt := none, ioAt := none } }

/-- Whether COMMIT of a source may be performed (R62). -/
def State.mayCommit (s : State) (src : Nat) : Bool := s.sys.dev == .ready && !s.bit Reg.IMG_STATUS 2 && src != 3

/-- COMMIT starts a load (R62). -/
def State.startCommit (s : State) (src : Nat) (keep : Bool) : State :=
  ((s.cancelSwap 1).enterLoading 8).startJob (.load src false keep)

/-- The default enables of the BANK section take effect, with the roles and VBST_SET; without an image every bank is unused (R62; 06 R109, R111). A channel that is not proportional has no set current (06, BNK_PSET). -/
def State.bankLoad (s : State) : State :=
  let bits (f : Nat → Bool) (n : Nat) : Nat := (List.range n).foldl (fun a k => a + b2n (f k) * 2 ^ k) 0
  let roles := (List.range 12).foldl (fun a b => a + s.bankRole b * 4 ^ b) 0
  let en (v : Nat) : Bool := (s.bankByte (bankOf v) 1 1).testBit (v / 12)
  let s1 := ((s.setReg Reg.BNK_ROLE (w32 roles)).setReg Reg.PRF_VBST_SET (w32 (s.sx 4 0 1))).setReg Reg.BNK_DRY (w32 (bits (fun b => s.bankByte b 3 1 == 1) 12))
  let s2 := [0, 1, 2].foldl (fun x k => x.setReg (Reg.BNK_CHEN + 4 * k) (w32 (bits (fun j => en (32 * k + j)) 32))) s1
  let s3 := (List.range 96).foldl (fun x v => if x.bankRole (bankOf v) = 0 then x.setChSt v 0 else if en v then x.chEnable v else x.chDisable v) s2
  let s3' := (List.range 96).foldl (fun x v => if x.bankRole (bankOf v) = 2 then x else x.setReg (Reg.BNK_PSET + 4 * v) 0) s3
  let s4 := s3'.setReg Reg.BNK_BKEN (w32 (bits (fun b => s.bankByte b 2 1 == 1) 12))
  ((List.range 12).foldl (fun x b => if x.bankRole b = 0 then x.setBkSt b 0 else if s.bankByte b 2 1 = 1 then x.bkEnable b else x.bkDisable b) s4).ditherLoad.refreshHs

/-- Learned delays and the reference table after a load (R62; 07 R149). -/
def State.learnLoad (s : State) (keep : Bool) : State :=
  let s1 := if keep then s else s.setTable Reg.VSN_DELAY s.initL allIdx
  s1.setTable Reg.VSN_REF s1.initL allIdx

/-- Every block takes the working copies that the load filled; outputs follow once every source has (R29, R62; 11 R237). `old` is the FAN section before. -/
def State.blocksLoad (s : State) (old : List Byte) (keep : Bool) : State :=
  ((((((((s.bankLoad).learnLoad keep).timLoad).netLoad).fanLoad old).loopLoad).afeLoad).canLoad).gioLoad

/-- Fill the working copies from an image, or empty them (R29, R58). -/
def State.fillCopies (s : State) (im : List Byte) : State :=
  { s with img := { s.img with sects := if im.isEmpty then [] else secIds.map (secBytes im)
                               jrnSize := leAt im 36 1, capSize := leAt im 37 1, rplSize := leAt im 38 1 } }

/-- Copy a source to the copy in force at 0xFE00_0000 (R62 step 4, R66). -/
def State.copyInForce (s : State) (im : List Byte) : State := s.dramPut 0xFE000000 im

/-- The image of a source comes into force: INFORCE is `inf` (R62 step 4). -/
def State.takeImage (s : State) (src inf : Nat) (keep : Bool) : State :=
  let im := s.imageOf src
  let old := s.sect 10
  let s1 := if src = 3 then s else s.copyInForce im
  let s2 := ((s1.fillCopies im).setRf Reg.IMG_STATUS 0 2 inf).setReg Reg.IMG_SERIAL (w32 (leAt im 20 4))
  s2.blocksLoad old keep

/-- No image is in force (R58). -/
def State.noImage (s : State) : State :=
  let old := s.sect 10
  (((s.fillCopies []).setRf Reg.IMG_STATUS 0 2 0).setReg Reg.IMG_SERIAL 0).blocksLoad old false

/-- A load of a source failed: the result and IMG_LOAD_FAIL (R57, R62 step 5). `evSrc` is the source as events name it. -/
def State.loadFailed (s : State) (evSrc : Nat) (v : Verdict) : State :=
  (s.setVerdict v).raise 0x0102 (by1 evSrc ++ by1 v.err ++ by1 v.sect ++ by4 v.off)

/-- SERIAL of a source. -/
def State.srcSerial (s : State) (src : Nat) : Nat := leNat ((List.range 4).map fun k => s.srcByte src (20 + k))

/-- The copy in force is loaded again after a failed load; the result of that failed load stays unless this one fails too (R62 step 5). -/
def State.reload (s : State) (keep hit : Bool) : State :=
  if s.hasImage then
    let inf := s.rf Reg.IMG_STATUS 0 2
    let v := s.checkSrc 3 hit
    if v.err = 0 then (s.takeImage 3 inf keep).raise 0x0105 (by4 (s.srcSerial 3))
    else ((s.loadFailed inf v).noImage).raise 0x0104
  else s.noImage

/-- The ticks that R63 allows one run through a source: a run that fails in pass one reads the source only once. -/
def State.runTicks (s : State) (src : Nat) : Nat :=
  let v := s.checkSrc src false
  if v.err ≠ 0 ∧ v.err ≤ 5 then s.verifyTicks src else s.loadTicks src

/-- The result of the first run of a load, through `src`; an SRAM error strikes it up to the tick by which it ends (R57, R63; 01 R24). -/
def State.firstRun (s : State) (src : Nat) : Verdict := s.checkSrc src (s.ueBetween s.img.began (s.img.began + s.runTicks src))

/-- Whether an SRAM error struck the run that followed a failed run through `src`. -/
def State.ueLater (s : State) (src : Nat) : Bool := s.img.ue.any fun t => decide (s.img.began + s.runTicks src < t)

/-- The load of a COMMIT, or the reload of SAFECLR (R62 steps 2 … 5). -/
def State.finishLoad (s : State) (src : Nat) (keep : Bool) : State :=
  let evSrc := if src = 0 then 3 else if src = 3 then s.rf Reg.IMG_STATUS 0 2 else src
  let v := s.firstRun src
  if v.err = 0 then ((s.takeImage src evSrc keep).setVerdict passed).raise 0x0101 (by1 evSrc ++ by4 (s.srcSerial src))
  else (s.loadFailed evSrc v).reload keep (s.ueLater src)

/-! ### The slot directory (R59) -/

/-- The bytes of a directory copy. -/
def State.dirCopy (s : State) (k : Nat) : List Byte := (List.range 64).map fun i => s.norByte (0x01100000 + 64 * k + i)

/-- Whether a directory copy has a correct CRC. -/
def State.dirOk (s : State) (k : Nat) : Bool := crc32c ((s.dirCopy k).take 60) == w32 (leAt (s.dirCopy k) 60 4)

/-- The directory copy that rules. -/
def State.dirRules (s : State) : Option Nat :=
  match s.dirOk 0, s.dirOk 1 with
  | true, true => if leAt (s.dirCopy 0) 0 4 < leAt (s.dirCopy 1) 0 4 then some 1 else some 0
  | true, false => some 0
  | false, true => some 1
  | false, false => none

/-- The slot directory as it rules: validity of A and B, preference of B, both serials. -/
structure SlotDir where
  seq : Nat
  valid : Bool × Bool
  prefB : Bool
  serialA : Nat
  serialB : Nat
  deriving DecidableEq, Repr

/-- The ruling directory; where none rules both slots are invalid and A is preferred. -/
def State.slotDir (s : State) : SlotDir :=
  match s.dirRules with
  | some k =>
    let b := s.dirCopy k
    let f := leAt b 4 1
    { seq := leAt b 0 4, valid := (f.testBit 0, f.testBit 1), prefB := f.testBit 2, serialA := leAt b 8 4, serialB := leAt b 12 4 }
  | none => { seq := 0, valid := (false, false), prefB := false, serialA := 0, serialB := 0 }

/-- Whether slot 1 (A) or 2 (B) is valid. -/
def SlotDir.ok (d : SlotDir) (slot : Nat) : Bool := if slot = 1 then d.valid.1 else slot == 2 && d.valid.2

/-- IMG_NOR_STATUS and the slot serials show the directory and the NOR work under way. -/
def State.showNor (s : State) : State :=
  let d := s.slotDir
  let busy := !s.img.erasing.isEmpty || !s.img.norQueue.isEmpty || !s.img.commits.isEmpty
  ((s.setReg Reg.IMG_NOR_STATUS (w32 (b2n busy + 2 * b2n d.valid.1 + 4 * b2n d.valid.2 + 8 * b2n d.prefB))).setReg
    Reg.IMG_SLOTA_SERIAL (w32 (if d.valid.1 then d.serialA else 0))).setReg Reg.IMG_SLOTB_SERIAL (w32 (if d.valid.2 then d.serialB else 0))

/-- Update the directory: the copy that does not rule takes the next sequence number (R59). -/
def State.dirWrite (s : State) (d : SlotDir) : State :=
  let k := match s.dirRules with
    | some 0 => 1
    | _ => 0
  let b := leBytes 4 (d.seq + 1) ++ by1 (b2n d.valid.1 + 2 * b2n d.valid.2 + 4 * b2n d.prefB) ++ [0, 0, 0]
    ++ leBytes 4 (if d.valid.1 then d.serialA else 0) ++ leBytes 4 (if d.valid.2 then d.serialB else 0) ++ List.replicate 44 0
  (s.norPut (0x01100000 + 64 * k) (b ++ leBytes 4 (crc32c b).toNat)).showNor

/-! ### Work on the slots (R59, R60) -/

/-- Whether work on the slots is performed now, on a slot that exists. -/
def State.norReady (s : State) (slot : Nat) : Bool :=
  s.sys.dev != .boot && s.sys.dev != .loading && (slot == 1 || slot == 2)

/-- Program words from the queue into their slot (R60). -/
def State.norDrain (s : State) (n : Nat) : State :=
  let s1 := (s.img.norQueue.take n).foldl (fun x e => x.norPut e.1 (leBytes 4 e.2.toNat)) s
  ({ s1 with img := { s1.img with norQueue := s.img.norQueue.drop n } }).showNor

/-- ERASE: the slot is marked invalid, then its erase starts (R59). Words waiting to be programmed go first. -/
def State.norErase (s : State) (slot : Nat) : State :=
  let s1 := s.norDrain s.img.norQueue.length
  let d := s1.slotDir
  let d' := if slot = 1 then { d with valid := (false, d.valid.2) } else { d with valid := (d.valid.1, false) }
  let s2 := s1.dirWrite d'
  ({ s2 with img := { s2.img with erasing := s2.img.erasing ++ [(slot, s2.clk.now + msTicks 60000)] } }).showNor

/-- NOR_ERASE_END: the oldest erase completes; every byte of the slot reads 0xFF. -/
def State.norEraseEnd (dt : Nat) (s : State) : State :=
  match s.img.erasing with
  | [] => s.advance dt
  | (slot, due) :: es =>
    let s1 := s.within dt due
    let lo := 0x800000 * (slot - 1)
    ({ s1 with nor := storeClear s1.nor lo (lo + 0x800000)
               img := { s1.img with erasing := es, norWritten := s1.img.norWritten.filter fun a => decide (a < lo) || decide (lo + 0x800000 ≤ a) } }).showNor

/-- NOR COMMIT: the checks on the slot start. -/
def State.norCommit (s : State) (slot : Nat) : State :=
  let s1 := s.norDrain s.img.norQueue.length
  (({ s1 with img := { s1.img with commits := s1.img.commits ++ [(slot, s1.clk.now + s1.verifyTicks slot)] } }).showImgBusy).showNor

/-- NOR_COMMIT_END: the slot is marked valid with its SERIAL, or stays invalid (R59). -/
def State.norCommitEnd (dt : Nat) (s : State) : State :=
  match s.img.commits with
  | [] => s.advance dt
  | (slot, due) :: cs =>
    let s1 := s.within dt due
    let v := s1.checkSrc slot (s1.ueBetween (due - s.verifyTicks slot) s1.clk.now)
    let s2 := (({ s1 with img := { s1.img with commits := cs } }).ueEnd).setVerdict v
    let d := s2.slotDir
    if v.err = 0 then
      let n := s2.srcSerial slot
      let d' := if slot = 1 then { d with valid := (true, d.valid.2), serialA := n } else { d with valid := (d.valid.1, true), serialB := n }
      ((s2.dirWrite d').raise 0x0109 (by1 slot ++ by4 n)).showImgBusy
    else
      let d' := if slot = 1 then { d with valid := (false, d.valid.2) } else { d with valid := (d.valid.1, false) }
      ((if d.ok slot then s2.dirWrite d' else s2.showNor).raise 0x010A (by1 slot ++ by1 v.err ++ by1 v.sect ++ by4 v.off)).showImgBusy

/-- PREFER makes a valid slot preferred. -/
def State.norPrefer (s : State) (slot : Nat) : State := s.dirWrite { s.slotDir with prefB := slot == 2 }

/-- A write of IMG_NOR_CTL: its actions on the slot that SLOT names (R59). An action on SLOT 0 or 3, and PREFER together with ERASE, are refused (DESIGN CHOICE, assumption 68). Answers the status. -/
def State.writeNorCtl (s : State) (w ones : Word) : Nat × State :=
  let slot := fld w 4 2
  let any := bitOf ones 0 || bitOf ones 1 || bitOf ones 2
  let prefOk := !bitOf ones 2 || (s.slotDir.ok slot && !bitOf ones 0)
  if any && !(s.norReady slot && prefOk) then (1, s)
  else
    let s1 := s.setRf Reg.IMG_NOR_CTL 4 2 slot
    let s2 := if bitOf ones 0 then s1.norErase slot else s1
    let s3 := if bitOf ones 1 then s2.norCommit slot else s2
    (0, if bitOf ones 2 then s3.norPrefer slot else s3)

/-! ### The end of a load (R58, R62) -/

/-- A standing eject request enters DRAINING with code 20 in a state that transition leaves (18 R370). -/
def State.serveEject (s : State) : State :=
  if s.sys.ejLow && !s.sys.ejServed && (s.sys.dev == .ready || s.live || s.sys.dev == .safe) then
    let s1 := s.raise 0x1103 (by1 s.sys.dev.num)
    ({ s1 with sys := { s1.sys with ejServed := true } }).toDraining 20
  else s

/-- The slot that the directory prefers: 1 A, 2 B (R59). -/
def State.prefSlot (s : State) : Nat := if s.slotDir.prefB then 2 else 1

/-- The load of BOOT: the preferred slot if valid, else the other (R58). -/
def State.bootLoad (s : State) : State :=
  let d := s.slotDir
  let a := s.prefSlot
  let b := 3 - a
  let va := s.firstRun a
  if d.ok a && va.err == 0 then
    ((s.takeImage a a false).setVerdict passed).raise 0x0101 (by1 a ++ by4 (s.srcSerial a))
  else
    let s1 := if d.ok a then s.loadFailed a va else s
    let vb := if d.ok a then s1.checkSrc b (s.ueLater a) else s1.firstRun b
    if d.ok b && vb.err == 0 then
      ((((s1.takeImage b b false).setVerdict passed).setBit Reg.IMG_STATUS 4 true).raise 0x0101 (by1 b ++ by4 (s1.srcSerial b))).raise 0x0103 (by1 b)
    else ((if d.ok b then s1.loadFailed b vb else s1).noImage).raise 0x0104

/-- From LOADING to READY: the watchdog counts from the first load on, LIVE_N is driven low, the boost controller starts (18 R362, R365, R367, R371). -/
def State.loaded (s : State) : State :=
  let s1 := s.endJob.unverify.setDev .ready 9
  let s2 := if s.sys.firstLoad then s1
    else ({ s1 with sys := { s1.sys with firstLoad := true, wdogLast := some s1.clk.now } }).setBit Reg.PWR_STAT 5 true
  (s2.boostStartUp.refreshHs).serveEject

/-- The tick by which a load has ended: its first run, and the run through the other slot or the copy in force that follows a failed one (R58, R62, R63). -/
def State.loadDue (s : State) (src : Nat) (boot : Bool) : Nat :=
  let d := s.slotDir
  let a := s.prefSlot
  let next (first : Nat) (more : Bool) (second : Nat) : Nat :=
    s.runTicks first + if (s.firstRun first).err ≠ 0 ∧ more = true then s.runTicks second else 0
  s.img.began +
    (if boot then (if d.ok a then next a (d.ok (3 - a)) (3 - a) else if d.ok (3 - a) then s.runTicks (3 - a) else 0)
     else next src s.hasImage 3)

/-- LOAD_END (R58, R62). A load that a power failure has overtaken ends without effect (18 R362). -/
def State.loadEnd (dt : Nat) (s : State) : State :=
  match s.img.job with
  | .load src boot keep =>
    let s1 := s.within dt (s.loadDue src boot)
    if s1.sys.dev ≠ .loading then s1.endJob
    else (if boot then s1.bootLoad else s1.finishLoad src keep).loaded
  | _ => s.advance dt

/-- A write of IMG_CTL: VERIFY or COMMIT of the source it names (R61, R62). Answers the status. -/
def State.writeImgCtl (s : State) (w ones : Word) : Nat × State :=
  let src := fld w 4 2
  let v := bitOf ones 0
  let c := bitOf ones 1
  if (v && c) || (v && !s.mayVerify src) || (c && !s.mayCommit src) then (1, s)
  else
    let s1 := s.setReg Reg.IMG_CTL (w &&& 0x34#32)
    (0, if v then s1.startVerify src else if c then s1.startCommit src (bitOf w 2) else s1)

/-! ### The key store (R56) -/

/-- PROG: only in READY and while SET is 0. Answers the status. -/
def State.keyProg (s : State) : Nat × State :=
  if s.sys.dev ≠ .ready ∨ s.bit Reg.IMG_KEY_CTL 1 = true ∨ s.img.keyProg = true then (1, s)
  else (0, { (s.clearRegs Reg.IMG_KEY 8) with img := { s.img with key := some (s.regBytes Reg.IMG_KEY 8), keyProg := true, keyDue := s.clk.now + msTicks 50 } })

/-- KEY_SET: the store is programmed, and IMG_KEY_CHK shows its check value. -/
def State.keySet (dt : Nat) (s : State) : State :=
  if s.img.keyProg then
    let s1 := s.within dt s.img.keyDue
    let s2 := ({ s1 with img := { s1.img with keyProg := false } }).setBit Reg.IMG_KEY_CTL 1 true
    (s2.setReg Reg.IMG_KEY_CHK (w32 (leAt (hmacSha256 (s2.img.key.getD []) (ascii "MN96KEY")) 0 4))).raise 0x010B (by4 (s2.reg Reg.IMG_KEY_ID).toNat)
  else s.advance dt

/-! ### Timed swaps (R64 to R68) -/

/-- The swap instant of the IMG_SWAP_AT registers, ns of NT. -/
def State.swapAt (s : State) : Int :=
  (((s.reg Reg.IMG_SWAP_AT_SEC_HI).toNat * 2 ^ 32 + (s.reg Reg.IMG_SWAP_AT_SEC_LO).toNat) * 1000000000 + (s.reg Reg.IMG_SWAP_AT_NS).toNat : Nat)

/-- ARM of a timed swap (R65). A refusal for the instant names no section and no byte. Answers the status. -/
def State.swapArm (s : State) : Nat × State :=
  let ns := (s.reg Reg.IMG_SWAP_AT_NS).toNat
  if !(s.sys.dev == .ready || s.live) || !s.hasImage || s.swapState != 0 || !s.bit Reg.IMG_STATUS 3 || s.bit Reg.IMG_STATUS 2 then (1, s)
  else if 999999999 < ns ∨ s.swapAt * 2 ^ 32 ≤ (s.clk.nt : Int) ∨ (s.clk.nt : Int) + 10000000000 * 2 ^ 32 < s.swapAt * 2 ^ 32 then
    (1, s.setVerdict { err := 10, sect := 0, off := 0 })
  else if s.bit Reg.IMG_STATUS 5 = false then (1, s.setVerdict (swapVerdict (s.imageOf 0) (s.imageOf 3)))
  else (0, ({ s.setVerdict passed with img := { s.img with prepDue := s.clk.now + msTicks 2 } }).setRf Reg.IMG_SWAP_CTL 2 2 1)

/-- SWAP_LATE: the instant has come while the preparation was incomplete; the swap is never performed later (R65). -/
def State.swapLate (s : State) : State :=
  ((s.setRf Reg.IMG_SWAP_CTL 2 2 0).setBit Reg.IMG_SWAP_CTL 5 true).raise 0x0107 (by4 (s.srcSerial 0))

/-- SWAP_READY: the swappable parts stand in the standby buffers; where the instant comes first, the swap is late (R65). -/
def State.swapReady (dt : Nat) (s : State) : State :=
  if s.swapState = 1 then
    let s1 := s.within dt s.img.prepDue
    if s1.ntAtLeast s1.swapAt then (s.reachNt s.swapAt).swapLate else
    let im := s1.imageOf 0
    ({ s1 with img := { s1.img with standby := secIds.map (secBytes im) } }).setRf Reg.IMG_SWAP_CTL 2 2 2
  else s.advance dt

/-- CANCEL of a swap: it cancels before the swap tick and has no effect from then on (R68). -/
def State.swapCancel (s : State) : State := if s.ntAtLeast s.swapAt then s else s.cancelSwap 0

/-- A write of IMG_SWAP_CTL: W1C bits, ARM, CANCEL (R65, R68). Answers the status. -/
def State.writeSwapCtl (s : State) (ones : Word) : Nat × State :=
  let r := if bitOf ones 0 then s.swapArm else (0, s)
  if r.1 ≠ 0 then r
  else
    let s1 := r.2.setReg Reg.IMG_SWAP_CTL (r.2.reg Reg.IMG_SWAP_CTL &&& ~~~(ones &&& 0x70#32))
    (0, if bitOf ones 1 then s1.swapCancel else s1)

/-- The working copies after a swap: the parts of IMG_SWAP_SECT come from the standby buffers, all at once (R66). -/
def swappedSects (mask : Nat) (cur new : List (List Byte)) : List (List Byte) :=
  secIds.map fun id =>
    let take := (id == 5 && mask.testBit 0) || (id == 6 && mask.testBit 1) || (id == 9 && mask.testBit 2) || (id == 10 && mask.testBit 3)
    (if take then new else cur).getD (id - 1) []

/-- SWAP_TICK: the swap, or SWAP_LATE where preparation is incomplete (R65, R66). -/
def State.swapTick (s : State) : State :=
  if s.swapState = 0 ∨ s.img.swapDue.isSome = true then s
  else
    let s1 := s.reachNt s.swapAt
    if s1.swapState = 1 then s1.swapLate
    else
      ({ s1 with img := { s1.img with sects := swappedSects (s1.rf Reg.IMG_SWAP_SECT 0 4) s1.img.sects s1.img.standby, standby := [], swapDue := some (s1.clk.now + msTicks 20) } }).showImgBusy

/-- SWAP_DONE: the staged image is copied to the copy in force (R66). -/
def State.swapDone (dt : Nat) (s : State) : State :=
  match s.img.swapDue with
  | some due =>
    let s1 := s.within dt due
    let n := s1.srcSerial 0
    let s2 := State.showImgBusy { ((s1.copyInForce (s1.imageOf 0)).setReg Reg.IMG_SERIAL (w32 n)).setRf Reg.IMG_STATUS 0 2 3 with
                                  img := { s1.img with swapDue := none } }
    ((s2.setRf Reg.IMG_SWAP_CTL 2 2 0).setBit Reg.IMG_SWAP_CTL 4 true).raise 0x0106 (by4 n ++ by1 (s2.rf Reg.IMG_SWAP_SECT 0 4))
  | none => s.advance dt

/-! ### Meanings -/

/-- VERIFY (R61): a write of IMG_CTL with VERIFY and this SRC. -/
def execVerify (src : Fin 4) : State → Out :=
  actNow fun s => (s.writeImgCtl (setFld (s.reg Reg.IMG_CTL) 4 2 src) 1).2

/-- VERIFY_END (R61). -/
def execVerifyEnd (dt : Nat) : State → Out := actNow fun s => s.verifyEnd dt

/-- COMMIT (R62): a write of IMG_CTL with COMMIT, this SRC and KEEP_LEARN. -/
def execCommit (src : Fin 4) (keep : Bool) : State → Out :=
  actNow fun s => (s.writeImgCtl (w32 (16 * src + 4 * b2n keep)) 2).2

/-- LOAD_END (R62). -/
def execLoadEnd (dt : Nat) : State → Out := actNow fun s => s.loadEnd dt

/-- NOR_ERASE (R59). -/
def execNorErase (slot : Fin 4) : State → Out := actNow fun s => (s.writeNorCtl (w32 (16 * slot)) 1).2

/-- NOR_ERASE_END (R59). -/
def execNorEraseEnd (dt : Nat) : State → Out := actNow fun s => s.norEraseEnd dt

/-- NOR_COMMIT (R59). -/
def execNorCommit (slot : Fin 4) : State → Out := actNow fun s => (s.writeNorCtl (w32 (16 * slot)) 2).2

/-- NOR_COMMIT_END (R59). -/
def execNorCommitEnd (dt : Nat) : State → Out := actNow fun s => s.norCommitEnd dt

/-- PREFER (R59). -/
def execPrefer (slot : Fin 4) : State → Out := actNow fun s => (s.writeNorCtl (w32 (16 * slot)) 4).2

/-- NOR_PROGRAM_DRAIN (R60): `n` words leave the program queue. -/
def execNorProgramDrain (dt n : Nat) : State → Out := act dt fun s => s.norDrain n

/-- KEY_PROG (R56). -/
def execKeyProg : State → Out := actNow fun s => s.keyProg.2

/-- KEY_SET (R56). -/
def execKeySet (dt : Nat) : State → Out := actNow fun s => s.keySet dt

/-- SWAP_ARM (R65). -/
def execSwapArm : State → Out := actNow fun s => s.swapArm.2

/-- SWAP_READY (R65). -/
def execSwapReady (dt : Nat) : State → Out := actNow fun s => s.swapReady dt

/-- SWAP_CANCEL (R68). -/
def execSwapCancel : State → Out := actNow State.swapCancel

/-- SWAP_TICK (R66). -/
def execSwapTick : State → Out := actNow State.swapTick

/-- SWAP_DONE (R66). -/
def execSwapDone (dt : Nat) : State → Out := actNow fun s => s.swapDone dt

end Sys2Proof.Machine
end

