-- ==== Sys2Proof/Machine/System.lean ====
section
/-! DEFINITION. Power, resets, start-up, arming, the host watchdog, power failure, the last gasp, live removal, SRAM errors (18; 01 R24; 16 R341). -/

namespace Sys2Proof.Machine

/-! ### Supplies (R355 to R357) -/

/-- VSUP and VHLD as their monitors hold them, unit 10 mV: slots 80 and 94, HLDOK at 28.0 V (R357; 01 R17). -/
def State.setSupply (s : State) (vsup vhld : Nat) : State :=
  let a := sat 65535 vsup
  let b := sat 65535 vhld
  let s1 := { s with sys := { s.sys with vsup := a, vhld := b } }
  let s2 := s1.setBit Reg.PWR_STAT 1 (decide (2800 ≤ b))
  (s2.putVal 80 (divRound ((a : Int) * 65536) 100)).putVal 94 (divRound ((b : Int) * 65536) 100)

/-- PF_THR, unit 10 mV. -/
def State.pfThr (s : State) : Nat := 10 * s.rf Reg.PWR_PFCFG 0 9

/-! ### Resets (R359, R360; 00 R6) -/

/-- Registers that keep their contents through a reset: the retention registers and REC_MEDFAIL, and what the two programmed key stores show (R6, R374; 03 R56; 16 R335). -/
def State.kept (s : State) (powerOn : Bool) : List (Nat × Word) :=
  let ret := [Reg.PWR_RET0, Reg.PWR_RET0 + 4, Reg.PWR_RET0 + 8, Reg.PWR_RET0 + 12, Reg.REC_MEDFAIL]
  let img := if s.bit Reg.IMG_KEY_CTL 1 then [Reg.IMG_KEY_CTL, Reg.IMG_KEY_ID, Reg.IMG_KEY_CHK] else []
  let rck := if s.bit Reg.REC_CKEY_CTL 1 then [Reg.REC_CKEY_CTL, Reg.REC_CKEY_ID, Reg.REC_CKEY_CHK] else []
  ((if powerOn then [] else ret) ++ img ++ rck).map fun a => (a, s.reg a)

/-- A reset with its cause: every register at its Reset column, nothing queued, BOOT (R6, R359, R360). NOR, Kennel, key stores and the AON counters survive; DRAM keeps its bytes while the module stays powered (assumption 35); conditions of pins and the sampled straps show at once (10 R197). -/
def State.resetBy (s : State) (cause : Nat) : State :=
  let on := cause == 1
  let r := State.reset
  let base : State := { r with
    pending := s.pending
    clk := { r.clk with now := s.clk.now }
    regs := (s.kept on).foldl (fun l e => storeSet regReset l e.1 e.2) []
    sys := { r.sys with cause := cause, vsup := s.sys.vsup, vhld := s.sys.vhld, ejLow := s.sys.ejLow, ejRise := s.sys.ejRise, drvEnLow := s.sys.drvEnLow
                        strap := s.sys.strap, gaspUsed := !on && s.sys.gaspUsed, devTick := s.clk.now }
    img := { r.img with norWritten := s.img.norWritten.filter fun a => !(s.img.norQueue.any fun e => e.1 == a)
                        key := if s.bit Reg.IMG_KEY_CTL 1 then s.img.key else none }
    rcd := { r.rcd with opsec := s.rcd.opsec, opsecTick := if on then s.clk.now else s.rcd.opsecTick, pcyc := s.rcd.pcyc, clean := s.rcd.clean
                        key := if s.bit Reg.REC_CKEY_CTL 1 then s.rcd.key else none, chalNo := s.rcd.chalNo
                        lastRec := if on || s.rcd.lastMirror then none else s.rcd.lastRec, lastSlot := s.rcd.lastSlot }
    gio := { r.gio with di := s.gio.di, diWait := s.gio.diWait, encAb := s.gio.encAb, encWait := s.gio.encWait }
    nor := s.nor
    kennel := s.kennel
    dram := if on then [] else s.dram
    tap := s.tap
    free := s.free }
  let ret1 := base.setBit (Reg.PWR_RET0 + 4) (cause - 1) true
  let s1 := (ret1.setBit Reg.PWR_STAT 4 s.sys.ejLow).setBit Reg.BNK_DIEFLT 12 s.sys.drvEnLow
  let s2 := (s1.setBit Reg.PWR_STAT 0 (!on && s.bit Reg.PWR_STAT 0)).setBit Reg.PWR_STAT 3 (!on && s.bit Reg.PWR_STAT 3)
  (s2.setBit Reg.PWR_STAT 1 (decide (2800 ≤ s.sys.vhld))).setRf Reg.NET_STAT 16 6 s.sys.strap

/-- POWER_ON: VSUP rises above 8.7 V with the AON domain unpowered (R355, R359). -/
def State.powerOn (s : State) (dt vsup vhld strap : Nat) : State :=
  if s.sys.powered then s
  else if vsup ≤ 870 then s.advance dt
  else
    let s1 := s.advance dt
    ({ s1 with sys := { s1.sys with strap := strap, vsup := vsup, vhld := vhld } }).resetBy 1

/-- RESET_PIN: RESET_N low beyond RST_FILT; the straps are sampled as it rises (R359, R360). -/
def State.resetPin (s : State) (strap : Nat) : State := ({ s with sys := { s.sys with strap := strap } }).resetBy 2

/-- BROWN_OUT: VSUP back at PF_THR + 0.5 V for 100 ms after a power-failure notice (R359, R368). -/
def State.brownOut (s : State) (vsup : Nat) : State :=
  let s1 := s.setSupply vsup s.sys.vhld
  if s.sys.gaspFail ∧ s.pfThr + 50 ≤ vsup then s1.resetBy 5 else s1

/-- REINSERTION: EJECT_REQ_N high for 1 s, counted from the later of NET_RELEASE and its last rising edge (R359). -/
def State.reinsertion (s : State) : State :=
  match s.sys.released with
  | some t => if s.sys.ejLow then s else (s.reachTick (max t s.sys.ejRise + msTicks 1000)).resetBy 6
  | none => s

/-! ### Start-up (R361) -/

/-- BOOT_COMPLETE: the calibration has been read (`calBad`: its CRC failed), the recorder runs, the slot directory shows, LOADING is entered (R361, R362; 03 R58). `vhld` is VHLD as measured. -/
def State.bootComplete (s : State) (calBad : Bool) (vhld : Nat) : State :=
  if s.sys.dev ≠ .boot then s
  else
    let s1 := (((s.recorderStart).setBit Reg.SYS_STATUS 4 calBad).setBit Reg.PWR_STAT 0 true).setSupply s.sys.vsup vhld
    ((s1.showNor).setDev .loading 7).startJob (.load 0 true false)

/-! ### Arming and SYS_CTL (R362, R363, R366) -/

/-- The refusal code of the second arming word, the lowest that holds; 0 where none does. -/
def State.armRefusal (s : State) (target : Bool) : Nat :=
  let outranked := s.sys.devTick == s.clk.now && s.sys.prev == 3 && (s.sys.cause == 15 || s.sys.cause == 17 || s.sys.cause == 20 || s.sys.cause == 22)
  let paired := match s.sys.armStep with
    | some (t, x) => decide (s.clk.now ≤ t + msTicks 10) && x == target
    | none => false
  if s.sys.dev ≠ .ready then (if outranked then 11 else 1)
  else if !s.hasImage then 2
  else if !s.locked then 3
  else if s.bit Reg.NET_STAT 7 then 4
  else if s.sys.drvEnLow then 5
  else if s.bit Reg.PRF_VFLT 1 ∨ s.rf Reg.BNK_DIEFLT 8 3 ≠ 0 then 6
  else if !s.bit Reg.PWR_STAT 1 then 7
  else if s.sys.ejLow then 8
  else if s.bit Reg.SYS_STATUS 4 then 9
  else if !paired then 10
  else 0

/-- Set or clear the first arming word; ARMSTEP shows it. -/
def State.setArmStep (s : State) (a : Option (Nat × Bool)) : State :=
  ({ s with sys := { s.sys with armStep := a } }).setBit Reg.SYS_STATUS 3 a.isSome

/-- A write of SYS_ARM: first word, second word, or any other (R366). While DUPADDR is set no write is performed; a second word is refused with its code (10 R199). Answers the status. -/
def State.writeArm (s : State) (w : Word) : Nat × State :=
  let key := fld w 0 16
  let target := bitOf w 16
  if s.bit Reg.NET_STAT 7 ∧ key ≠ 0x5A3C then (1, s)
  else if key = 0xA5C3 then (0, s.setArmStep (some (s.clk.now, target)))
  else if key = 0x5A3C then
    let code := s.armRefusal target
    let s1 := s.setArmStep none
    if code = 0 then (0, if target then (s1.setDev .dry 11).dryOpen else s1.setDev .armed 10)
    else (1, (s1.setRf Reg.SYS_STATUS 8 8 code).raise 0x0002 (by1 code ++ by1 (b2n target)))
  else (0, s.setArmStep none)

/-- Whether SAFECLR may be performed (R362); on the tick on which SAFE is entered the entry outranks it (R363). -/
def State.maySafeclr (s : State) : Bool :=
  s.sys.dev == .safe && decide (s.sys.devTick < s.clk.now) && !s.sys.drvEnLow && !s.bit Reg.PRF_VFLT 1 && s.rf Reg.BNK_DIEFLT 8 3 == 0

/-- SAFECLR: code 18 to READY, or after code 17 code 19 and a reload of the copy in force with KEEP_LEARN 0 (R362). -/
def State.safeclr (s : State) : State :=
  if s.sys.safeUe then (s.enterLoading 19).startJob (.load 3 false false)
  else ((s.setDev .ready 18).boostStartUp).refreshHs

/-- Whether DRAIN may be performed (R362). -/
def State.mayDrain (s : State) : Bool := s.sys.dev == .ready || s.live || s.sys.dev == .safe

/-- A write of SYS_CTL (R359, R362). Of several transitions in one write all but the first in the order of R363 are not performed, so the write as a whole is not (R363; 00 R406). Answers the status. -/
def State.writeSysCtl (s : State) (w : Word) : Nat × State :=
  let rst := bitOf w 3
  let n := b2n (bitOf w 0) + b2n (bitOf w 1) + b2n (bitOf w 2) + b2n rst
  if decide (1 < n) || (rst && fld w 16 16 != 0xC0DE) || (bitOf w 0 && !s.live) || (bitOf w 1 && !s.maySafeclr) || (bitOf w 2 && !s.mayDrain) then (1, s)
  else
    (0, if rst then s.resetBy 3
        else if bitOf w 2 then s.toDraining 21
        else if bitOf w 0 then s.toReady 12
        else if bitOf w 1 then s.safeclr
        else s)

/-! ### The host watchdog (R367) -/

/-- TIMEOUT in ticks. -/
def State.wdogTicks (s : State) : Nat := msTicks (100 * s.rf Reg.SYS_WDOG 0 16)

/-- A frame restarts the watchdog, and ends an expiry. -/
def State.wdogRestart (s : State) : State :=
  if s.sys.firstLoad then
    let s1 := { s with sys := { s.sys with wdogLast := some s.clk.now } }
    if s.bit Reg.SYS_STATUS 1 then
      ((s1.setBit Reg.SYS_STATUS 1 false).raise 0x0003 (by1 0 ++ by2 (s.rf Reg.SYS_WDOG 0 16))).fanWdog false
    else s1
  else s

/-- WDOG_EXPIRE: the count reaches TIMEOUT while EN is 1. -/
def State.wdogExpire (s : State) : State :=
  match s.sys.wdogLast with
  | some t =>
    if s.bit Reg.SYS_WDOG 16 ∧ s.bit Reg.SYS_STATUS 1 = false then
      let s1 := s.reachTick (t + s.wdogTicks)
      ((s1.setBit Reg.SYS_STATUS 1 true).raise 0x0003 (by1 1 ++ by2 (s.rf Reg.SYS_WDOG 0 16))).fanWdog true
    else s
  | none => s

/-- SYS_WDOG_WRITE: TIMEOUT outside 1 … 600 is not performed; the new values act on the running count. Answers the status. -/
def State.writeWdog (s : State) (w : Word) : Nat × State :=
  if fld w 0 16 = 0 ∨ 600 < fld w 0 16 then (1, s) else (0, s.setReg Reg.SYS_WDOG (w &&& 0x1FFFF#32))

/-! ### The last gasp (16 R341; R365) -/

/-- Every output takes its last-gasp value (R365): channels open, boost stopped, loops stopped, analog outputs released, digital outputs and excitation off, fans off, CAN in CONFIG. -/
def State.gaspOutputs (s : State) : State :=
  let s1 := (s.withholdAll false).openAll
  let s2 := (s1.trn.shots.foldl (fun x h => x.cutShot h false) s1).boostStop
  let s3 := { s2 with loop := { s2.loop with todo := [], outs := [], runs := [], propAt := none, ioAt := none, encAt := none }
                      gio := { s2.gio with doWant := 0 }, fan := { s2.fan with zoneAt := none } }
  let s4 := (List.range 8).foldl (fun x k => x.setRf (Reg.GIO_AO + 4 * k) 0 16 0) s3.showDo
  let s5 := (List.range 16).foldl (fun x k => x.putDuty k 0 false false) s4
  ((((s5.excAllOff).canStop 0).canStop 1).refreshHs)

/-- The last gasp starts: cause, SYS_STATE and VHLD at its start are kept for its record (16 R341, R344). -/
def State.gaspStart (s : State) (cause : Nat) : State :=
  let st := s.sys.dev.num
  State.gaspOutputs { s with sys := { s.sys with gaspUsed := true, gaspDone := true, gaspRun := some (cause, st, s.sys.vhld) } }

/-- Steps 1 … 5 of the last gasp, then NET_RELEASE (16 R341; 10 R212). `f` are failing Kennel writes; `erased` is how far an erase had come. -/
def State.gaspSteps (s0 : State) (f : KenFault) (erased : Nat) : State :=
  match s0.sys.gaspRun with
  | none => s0
  | some (cause, st, vhld) =>
    let s := s0.recorderStart
    let s1 := (s.thaw 2).stopErase f erased
    let wr := (s1.reg (Reg.REC_LOST_CNT + 8)).toNat
    let s2 := (State.closeAllEps { s1 with rcd := { s1.rcd with gaspLost := 0 } }).settle
    let s3 := s2.drainRecords f (s2.rcd.queue.length + s2.rcd.own.length + 256)
    let n := (s3.reg (Reg.REC_LOST_CNT + 8)).toNat - wr
    let r := s3.ownEvent 0x0F01 (by1 cause ++ by1 st ++ by2 (vhld / 10) ++ by2 n ++ by2 s3.rcd.gaspLost)
    let s4 := r.2.append f r.1
    let s5 := State.persist { s4 with rcd := { s4.rcd with clean := true } } f.pos
    State.netRelease { s5 with sys := { s5.sys with gaspRun := none } }

/-- Whether DRAINING has come to its last gasp: no shot runs or is still to fire, or 20 ms have passed (R364, R370). -/
def State.drainDone (s : State) : Bool :=
  match s.sys.drainTick with
  | some t => (s.trn.shots.all fun h => h.phase == .done || h.phase == .withheld) || decide (t + msTicks 20 ≤ s.clk.now)
  | none => false

/-- LAST_GASP: it starts where DRAINING has come to it, and completes; at most one in a power cycle (16 R341). -/
def State.lastGasp (s : State) (f : KenFault) (erased : Nat) : State :=
  if s.sys.gaspRun.isSome then s.gaspSteps f erased
  else if s.sys.dev == .draining && !s.sys.gaspUsed && s.drainDone then (s.gaspStart 1).gaspSteps f erased
  else s

/-! ### Power failure, overvoltage, power-off (R355 to R357, R368) -/

/-- PWR_FAIL: the notice (R368). Open episodes close on its detection (04 R85). In BOOT it changes no state and starts no last gasp (R362). -/
def State.pwrFail (s : State) (vsup vhld : Nat) : State :=
  let s1 := s.setSupply vsup vhld
  if s.pfThr ≤ vsup then s1
  else
    let s2 := ((s1.setBit Reg.PWR_STAT 2 true).raise 0x1101 (by2 vsup ++ by2 vhld)).closeAllEps
    if s.sys.dev = .boot then s2
    else
      let s3 := { s2 with sys := { s2.sys with gaspFail := true } }
      let st := s3.sys.dev.num
      let s4 := if s3.sys.dev = .draining then s3 else s3.toDraining 22
      if s4.sys.gaspUsed then s4
      else
        let s5 := s4.gaspStart 0
        { s5 with sys := { s5.sys with gaspRun := some (0, st, s5.sys.vhld) } }

/-- PWR_VSUP_OV: VSUP above 62.0 V for 10 µs (R356). -/
def State.vsupOv (s : State) (vsup : Nat) : State :=
  let s1 := s.setSupply vsup s.sys.vhld
  if vsup ≤ 6200 ∨ s.bit Reg.PWR_STAT 3 = true then s1
  else ((s1.setBit Reg.PWR_STAT 3 true).boostStop).raise 0x1102 (by2 vsup)

/-- VSUP_OV_END: VSUP below 60.0 V restarts the boost controller (R356). -/
def State.vsupOvEnd (s : State) (vsup : Nat) : State :=
  let s1 := s.setSupply vsup s.sys.vhld
  if vsup < 6000 ∧ s.bit Reg.PWR_STAT 3 = true then (s1.setBit Reg.PWR_STAT 3 false).boostStartUp else s1

/-- POWER_OFF: VHLD below 10.0 V with VSUP absent; the AON domain is lost with everything volatile (R357). -/
def State.powerOff (s : State) (vhld : Nat) : State :=
  if vhld < 1000 ∧ s.sys.vsup < s.pfThr then { s with sys := { s.sys with powered := false, vsup := 0, vhld := vhld }, bus := [], episodes := [] } else s.setSupply s.sys.vsup vhld

/-! ### Live removal (R364, R370) -/

/-- PWR_EJECT: EJECT_REQ_N, filtered, is low (a standing request) or high again (R370). -/
def State.pwrEject (s : State) (low : Bool) : State :=
  let s1 := { s with sys := { s.sys with ejLow := low, ejServed := if low then s.sys.ejServed else false
                                         ejRise := if low then s.sys.ejRise else s.clk.now } }
  (s1.setBit Reg.PWR_STAT 4 low).serveEject

/-- DRAIN_TIMEOUT: 20 ms after entry with code 20 or 21 an open shot begins its release, with TRUNC (R364). -/
def State.drainTimeout (s : State) : State :=
  match s.sys.drainTick with
  | some t =>
    if s.sys.dev = .draining ∧ s.sys.drainCode ≠ 22 then
      let s1 := s.reachTick (t + msTicks 20)
      s1.trn.shots.foldl (fun x h =>
        if h.phase = .boost ∨ h.phase = .peak ∨ h.phase = .hold then
          x.beginRelease { h with relAt := some (max h.openAt (x.ntNs : Int)), pflags := orIf h.pflags pTRUNC true }
        else x) s1
    else s
  | none => s

/-! ### SRAM errors (01 R24) -/

/-- Region 0: the oldest entry is read for a take, when the error is found, and dropped under cause 11; the read counts as the take. With an empty queue no entry is read (04 R78). -/
def State.ueQueue (s : State) : State :=
  match s.cmd.queue with
  | [] => s
  | c :: q =>
    let s1 := s.reachTick s.takeTick
    ((({ s1 with cmd := { s1.cmd with lastTake := some s1.clk.now } }).setQueue q).raise 0x0011 (by1 0)).refuseCmd 11 c

/-- Region 7: a front-end channel restarts, a fan output is LOCKED, a digital output latches its fault, an analog output drives 0 (assumption 36). -/
def State.ueWorking (s : State) (u : Nat) : State :=
  if u < 16 then s.afeRestart u
  else if u < 32 then s.fanEnter (u - 16) 5
  else if u < 48 then (s.setBit Reg.GIO_DOFLT (u - 32) true).showDo
  else s.setRf (Reg.GIO_AO + 4 * (u % 8)) 0 16 0

/-- Region 8: the frame at the head of a FIFO, of the queue or of the encoded frames is dropped and counted (assumption 36). -/
def State.ueCan (s : State) (u : Nat) : State :=
  let x := u / 4 % 2
  let c := s.can x
  match u % 4 with
  | 0 => if c.fifo0.isEmpty then s else ((s.setCan x { c with fifo0 := c.fifo0.drop 1 }).count (Reg.CAN_RXOK_CNT x + 8)).showCan x
  | 1 => if c.fifo1.isEmpty then s else ((s.setCan x { c with fifo1 := c.fifo1.drop 1 }).count (Reg.CAN_RXOK_CNT x + 12)).showCan x
  | 2 => if c.q.isEmpty then s else ((s.setCan x { c with q := c.q.drop 1 }).canRemoved x).showCan x
  | _ => if c.enc.isEmpty then s else ((s.setCan x { c with enc := c.enc.drop 1 }).canRemoved x).showCan x

/-- Region 9: the head of an egress queue is dropped and counted. -/
def State.uePort (s : State) (u : Nat) : State :=
  let p := u % 2
  let q := u / 2 % 4
  let x := s.port p
  match x.queues.getD q [] with
  | [] => s
  | _ :: fs => (s.setPort p { x with queues := x.queues.set q fs }).count (portCnt p + 0x18 + 4 * q)

/-- Region 10: the oldest waiting event entry is omitted and counted, or the oldest Shamel frame that waits to be processed is dropped and counted (assumption 36). -/
def State.ueFrames (s : State) (u : Nat) : State :=
  if u % 2 = 0 then
    match s.net.evq with
    | [] => s
    | e :: es => ((({ s with net := { s.net with evq := es, evOmit := true } }).count (Reg.NET_DUP_CNT + 0x34))).episode 0x0804 0 (by4 e.eseq)
  else
    match s.shm.waiting with
    | [] => s
    | _ :: fs => ({ s with shm := { s.shm with waiting := fs } }).count (Reg.NET_DUP_CNT + 0x1C)

/-- Region 11: the oldest journal record, capture record or recorder entry is dropped and counted. -/
def State.ueRecords (s : State) (u : Nat) : State :=
  match u % 3 with
  | 0 => s.journalWrite ⟨true, none⟩
  | 1 => match s.eph.capq with
    | [] => s
    | e :: q => (({ s with eph := { s.eph with capq := q } }).capMiss e.1).count Reg.EPH_CDROP_CNT
  | _ => match s.rcd.queue with
    | [] => s
    | e :: q =>
      let s1 := ({ s with rcd := { s.rcd with queue := q, lostRun := s.rcd.lostRun + 1, lostEseq := if s.rcd.lostRun = 0 then e.eseq else s.rcd.lostEseq
                                              gaspLost := s.rcd.gaspLost + 1 } }).count Reg.REC_LOST_CNT
      s1.setBit Reg.REC_STAT 6 true

/-- What a double-bit error does by region, region 0 apart; `u` names the unit of the region it lies in (01 R24). -/
def State.ueAct (s : State) (region u : Nat) : State :=
  match region with
  | 0 => s
  | 1 => s.faultSafe 17 false true
  | 2 => s.faultSafe 17 false true
  | 3 => s.faultSafe 17 false true
  | 4 => s.setLc (u % 64) { s.lc (u % 64) with fall := some 3 }
  | 5 => s.setUe (u % 64) true
  | 6 => s.setCond (u % 1024) 3
  | 7 => s.ueWorking u
  | 8 => s.ueCan u
  | 9 => s.uePort u
  | 10 => s.ueFrames u
  | 11 => s.ueRecords u
  | 12 => s.setBit Reg.SHT_STAT 1 false
  | _ => if s.img.job = .idle ∧ s.img.commits = [] then s else { s with img := { s.img with ue := s.clk.now :: s.img.ue } }

/-- SRAM_UE: the event, and the action of its region; in region 0 both come with the read that finds the error (01 R24; 04 R78). -/
def State.sramUe (s : State) (region u : Nat) : State := if region = 0 then s.ueQueue else (s.raise 0x0011 (by1 region)).ueAct region u

/-! ### Meanings -/

/-- POWER_ON (R359): the one command an unpowered module answers. -/
def execPowerOn (dt vsup vhld : Nat) (strap : Fin 64) (s : State) : Out := .next (s.powerOn dt vsup vhld strap).flush

/-- RESET_PIN (R359). -/
def execResetPin (dt : Nat) (strap : Fin 64) : State → Out := act dt fun s => s.resetPin strap

/-- SWRST (R359): a write of SYS_CTL with SWRST and this KEY. -/
def execSwrst (key : BitVec 16) : State → Out := actNow fun s => (s.writeSysCtl (w32 (8 + 65536 * key.toNat))).2

/-- CLOCK_LOSS (R359). -/
def execClockLoss (dt : Nat) : State → Out := act dt fun s => s.resetBy 4

/-- BROWN_OUT (R359). -/
def execBrownOut (dt vsup : Nat) : State → Out := act dt fun s => s.brownOut vsup

/-- REINSERTION (R359). -/
def execReinsertion : State → Out := actNow State.reinsertion

/-- The ticks until BOOT is complete: within 80 ms of its start once the rails are good (R361). -/
def State.bootWait (s : State) (dt : Nat) : Nat := if s.bit Reg.PWR_STAT 0 then min dt (s.sys.devTick + msTicks 80 - s.clk.now) else dt

/-- BOOT_COMPLETE (R361). -/
def execBootComplete (dt : Nat) (calBad : Bool) (vhld : Nat) : State → Out := fun s => act (s.bootWait dt) (fun x => x.bootComplete calBad vhld) s

/-- ARM_FIRST (R366). -/
def execArmFirst (target : Bool) : State → Out := actNow fun s => (s.writeArm (w32 (0xA5C3 + 65536 * b2n target))).2

/-- ARM_SECOND (R366). -/
def execArmSecond (target : Bool) : State → Out := actNow fun s => (s.writeArm (w32 (0x5A3C + 65536 * b2n target))).2

/-- DISARM (R362). -/
def execDisarm : State → Out := actNow fun s => (s.writeSysCtl 1).2

/-- SAFECLR (R362). -/
def execSafeclr : State → Out := actNow fun s => (s.writeSysCtl 2).2

/-- DRAIN (R362). -/
def execDrain : State → Out := actNow fun s => (s.writeSysCtl 4).2

/-- SRAM_UE (01 R24). -/
def execSramUe (dt : Nat) (region : Fin 14) (u : Nat) : State → Out := act dt fun s => s.sramUe region u

/-- WDOG_EXPIRE (R367). -/
def execWdogExpire : State → Out := actNow State.wdogExpire

/-- SYS_WDOG_WRITE (R367). -/
def execSysWdogWrite (w : Word) : State → Out := actNow fun s => (s.writeWdog w).2

/-- PWR_FAIL (R368). -/
def execPwrFail (dt vsup vhld : Nat) : State → Out := act dt fun s => s.pwrFail vsup vhld

/-- PWR_VSUP_OV (R356). -/
def execPwrVsupOv (dt vsup : Nat) : State → Out := act dt fun s => s.vsupOv vsup

/-- VSUP_OV_END (R356). -/
def execVsupOvEnd (dt vsup : Nat) : State → Out := act dt fun s => s.vsupOvEnd vsup

/-- POWER_OFF (R357). -/
def execPowerOff (dt vhld : Nat) : State → Out := act dt fun s => s.powerOff vhld

/-- PWR_EJECT (R370). -/
def execPwrEject (dt : Nat) (low : Bool) : State → Out := act dt fun s => s.pwrEject low

/-- DRAIN_TIMEOUT (R364). -/
def execDrainTimeout : State → Out := actNow State.drainTimeout

/-- LAST_GASP (16 R341). -/
def execLastGasp (dt : Nat) (f : KenFault) (erased : Nat) : State → Out := act dt fun s => s.lastGasp f erased

end Sys2Proof.Machine
end

