-- ==== Sys2Proof/Machine/Registers.lean ====
section
/-! DEFINITION. Register accesses: reading with its latches, writing with every rule that refuses a write, writes in flight and their effect, the window (00 R3 to R7, R406; 01 R22 to R27; 02 R30 to R38; 10 R202, R203, R207).

A status is that of 10 R203: 0 OK, 1 ERROR, 2 BUSY. -/

namespace Sys2Proof.Machine

/-! ### Committing and crossing (00 R5; 01 R22, R23) -/

/-- The word a register holds after a write: RW bits take `w`, a 1 of `ones` clears a W1C bit and sets a W1S bit (R5). -/
def writtenWord (r : RegRow) (old w ones : Word) : Word :=
  let rw : Word := BitVec.ofNat 32 r.rw
  ((((old &&& ~~~rw) ||| (w &&& rw)) &&& ~~~(ones &&& BitVec.ofNat 32 r.w1c)) ||| (ones &&& BitVec.ofNat 32 r.w1s))

/-- Put a write into the register at `a` by the access types of its bits; an address without a register ignores it (R4). -/
def State.commit (s : State) (a : Nat) (w ones : Word) : State :=
  match regRow a with
  | some r => s.setReg a (writtenWord r (s.reg a) w ones)
  | none => s

/-- A write waits for its effect in another domain. -/
def State.launch (s : State) (dom : Dom) (a : Nat) (before data mask : Word) : State :=
  { s with flights := s.flights ++ [{ dom := dom, addr := a, before := before, data := data, mask := mask, issued := s.clk.now }] }

/-- A write is performed, and is in effect later (02 R30). -/
def State.fly (s : State) (dom : Dom) (a : Nat) (w ones mask : Word) : State :=
  (s.commit a w ones).launch dom a (s.reg a) w mask

/-- Answer ERROR and change nothing where a rule refuses the write (R406). -/
def refuseIf (bad : Bool) (s : State) (k : Nat × State) : Nat × State := if bad then (1, s) else k

/-! ### Window writes (01 R25 to R27; 03 R60, R61) -/

/-- Whether a job or a swap preparation reads the staging area (03 R61, R68). -/
def State.stagingBusy (s : State) : Bool :=
  s.img.job == .verify 0 || (match s.img.job with | .load 0 false _ => true | _ => false) || s.swapState != 0 || s.img.swapDue.isSome

/-- Write one window word to DRAM (R25). -/
def State.dramWrite (s : State) (a : Nat) (w : Word) : Nat × State :=
  match s.dramRegion a with
  | some r => (0, if 0xC0000000 ≤ a ∧ a < r.1 + r.2 then s.dramPut a (leBytes 4 w.toNat) else s)
  | none =>
    if 0xFE800000 ≤ a ∧ a < 0xFF000000 then
      if s.stagingBusy then (2, s) else (0, (s.dramPut a (leBytes 4 w.toNat)).setBit Reg.IMG_STATUS 3 false)
    else (1, s)

/-- The NOR slot an image job loads from: 0 none, 1 slot A, 2 slot B. At boot that is the preferred slot if it is valid, and the other one once the preferred one's load has failed (03 R58, R60). -/
def State.loadingSlot (s : State) : Nat :=
  match s.img.job with
  | .load _ true _ =>
    let d := s.slotDir
    let a := s.prefSlot
    if d.ok a && decide (s.clk.now ≤ s.img.began + s.runTicks a) then a else if d.ok (3 - a) then 3 - a else 0
  | .load src false _ => if src = 1 ∨ src = 2 then src else 0
  | _ => 0

/-- Write one window word to the NOR flash: into the program queue of a slot, once since its erase (R26; 03 R60). -/
def State.norWrite (s : State) (a : Nat) (w : Word) : Nat × State :=
  if 0x01000000 ≤ a ∨ s.img.norWritten.contains a ∨ s.loadingSlot = a / 0x800000 + 1 then (1, s)
  else if 1024 ≤ s.img.norQueue.length ∨ s.img.erasing.isEmpty = false ∨ s.img.commits.isEmpty = false then (2, s)
  else (0, ({ s with img := { s.img with norQueue := s.img.norQueue ++ [(a, w)], norWritten := a :: s.img.norWritten } }).showNor)

/-- Write one word at SYS_WIN_ADDR of the selected target; a word that is performed advances the address by 4 (R207). -/
def State.winWrite (s : State) (w : Word) : Nat × State :=
  let a := (s.reg Reg.SYS_WIN_ADDR).toNat
  let r :=
    match s.rf Reg.SYS_WIN_SEL 0 2 with
    | 0 => s.dramWrite a w
    | 1 => s.norWrite a w
    | _ => (1, s)
  if r.1 = 0 then (0, r.2.setReg Reg.SYS_WIN_ADDR (w32 (a + 4))) else (r.1, s)

/-- Whether a WRITE_WIN of `n` words is refused as a whole with BUSY (03 R60). -/
def State.winRefused (s : State) (n : Nat) : Bool :=
  s.rf Reg.SYS_WIN_SEL 0 2 == 1 && decide ((s.reg Reg.SYS_WIN_ADDR).toNat < 0x01000000)
    && (decide (1024 < s.img.norQueue.length + n) || !s.img.erasing.isEmpty || !s.img.commits.isEmpty)

/-- Read one word at SYS_WIN_ADDR; the address advances by 4 (R207). -/
def State.winRead (s : State) : Word × State :=
  (s.winHere, s.setReg Reg.SYS_WIN_ADDR (s.reg Reg.SYS_WIN_ADDR + 4))

/-! ### Reading (00 R3, R4, R7; 09 R170; 16 R334; 17 R351) -/

/-- Low words of the quantities that span two adjacent registers (R7), and LOOP_RDVAL with its tag (01 R16). -/
def pairLow : List Nat :=
  [0x8, 0x10024, 0x20020, 0x2010C, 0x30020, 0x70024, 0x70030, 0x70058, 0x70080, 0x70088, 0x8000C, 0x90014, 0xD0024, 0xE0024, 0xF0018, 0x100014, 0x100038]
    ++ regRun 0xA011C 4 0x40 ++ regRun 0xA0210 8 0x40 ++ regRun 0xD0408 4 0x80 ++ regRun 0xE0408 4 0x80

/-- The registers that a read of `a` latches (R7, R170). -/
def latchedBy (a : Nat) : List Nat :=
  if a = Reg.TIM_NT_FRAC then [Reg.TIM_NT_NS, Reg.TIM_NT_SEC_LO, Reg.TIM_NT_SEC_HI] else if pairLow.contains a then [a + 4] else []

/-- The word latched for `a` in this frame, if any. -/
def latchOf : List (Nat × Word) → Nat → Option Word
  | [], _ => none
  | (b, w) :: l, a => if b = a then some w else latchOf l a

/-- Latch the registers that a read of `a` latches, anew. -/
def State.latch (s : State) (a : Nat) : State :=
  match latchedBy a with
  | [] => s
  | bs => { s with shm := { s.shm with latches := bs.map (fun b => (b, s.peek b)) ++ s.shm.latches.filter fun p => !(bs.contains p.1) } }

/-- Read the register at `a`: status, word, and what the read leaves. -/
def State.readWord (s : State) (a : Nat) : Nat × Word × State :=
  if a % 4 ≠ 0 ∨ 0x130000 ≤ a then (1, 0, s)
  else
    match latchOf s.shm.latches a with
    | some w => (0, w, s)
    | none =>
      if a = Reg.SYS_WIN_DATA then (0, s.winRead.1, s.winRead.2)
      else if Reg.REC_DATA ≤ a ∧ a < Reg.REC_DATA + 32 then
        (0, (s.readRecData ((a - Reg.REC_DATA) / 4)).1, (s.readRecData ((a - Reg.REC_DATA) / 4)).2)
      else if a = Reg.SHT_RDDATA then (0, s.readSht.1, s.readSht.2)
      else (0, s.peek a, s.latch a)

/-! ### Writing, block by block: `w` is the word with RW bits outside the mask kept, `ones` the bits written with 1 -/

/-- SYS (18). -/
def State.wrSys (s : State) (a : Nat) (w ones mask : Word) : Nat × State :=
  match a with
  | 0x18 => s.writeArm ones
  | 0x1C => s.writeSysCtl ones
  | 0x20 => s.writeWdog w
  | 0x28 => refuseIf (decide (5 < fld w 0 3)) s (0, s.commit a w ones)
  | 0x40 => refuseIf (fld w 0 2 == 3) s (0, s.commit a w ones)
  | 0x44 => refuseIf (fld w 0 2 != 0) s (0, s.commit a w ones)
  | 0x48 => if s.winRefused 1 then (2, s) else s.winWrite ((s.winHere &&& ~~~mask) ||| ones)
  | _ => (0, s.commit a w ones)

/-- A key store register that ignores writes once it is programmed (03 R56; 16 R335). -/
def State.wrKeyId (s : State) (a : Nat) (w ones : Word) (locked : Bool) : Nat × State := (0, if locked then s else s.commit a w ones)

/-- IMG (03). -/
def State.wrImg (s : State) (a : Nat) (w ones : Word) : Nat × State :=
  match a with
  | 0x10000 => s.writeImgCtl w ones
  | 0x10020 => s.writeSwapCtl ones
  | 0x10024 => refuseIf (s.swapState != 0) s (0, s.commit a w ones)
  | 0x10028 => refuseIf (s.swapState != 0) s (0, s.commit a w ones)
  | 0x1002C => refuseIf (s.swapState != 0) s (0, s.commit a w ones)
  | 0x10040 => s.writeNorCtl w ones
  | 0x10060 => if bitOf ones 0 then s.keyProg else (0, s)
  | 0x10064 => s.wrKeyId a w ones (s.bit Reg.IMG_KEY_CTL 1 || s.img.keyProg)
  | _ => (0, if Reg.IMG_KEY ≤ a ∧ a < Reg.IMG_KEY + 32 then s.setReg a w else s.commit a w ones)

/-- CMD_RPL_CTL (02 R47, R48): PLAY only in ARMED or DRY, PLAY and REC never beside one another, be it in one write or with what runs. Clearing PLAY stops the playback. -/
def State.writeRpl (s : State) (w ones : Word) : Nat × State :=
  let rec0 := s.bit Reg.CMD_RPL_CTL 0
  let play0 := s.bit Reg.CMD_RPL_CTL 1
  let rec1 := bitOf w 0
  let play1 := bitOf w 1
  if (play1 && (rec1 || rec0)) || (rec1 && play0) || (play1 && !s.live) then (1, s)
  else
    let s0 := s.setBit Reg.CMD_RPL_CTL 2 (bitOf w 2)
    let s1 := s0.setReg Reg.CMD_RPL_CTL (s0.reg Reg.CMD_RPL_CTL &&& ~~~(ones &&& 0x100#32))
    let s2 := if rec1 && !rec0 then s1.rplRecStart else if !rec1 && rec0 then s1.setBit Reg.CMD_RPL_CTL 0 false else s1
    (0, if play1 && !play0 then s2.rplPlay
        else if !play1 && play0 then (s2.setBit Reg.CMD_RPL_CTL 1 false).setBit Reg.CMD_RPL_CTL 9 false else s2)

/-- Whether the planning registers accept writes (02 R38). -/
def State.planOpen (s : State) : Bool := s.sys.dev == .ready

/-- CMD (04). -/
def State.wrCmd (s : State) (a : Nat) (w ones : Word) : Nat × State :=
  match a with
  | 0x20000 =>
    let s1 := if bitOf ones 0 then s.laneClear else s
    (0, if bitOf ones 1 then s1.cmdClear else s1)
  | 0x20004 => refuseIf (!s.planOpen || decide (fld w 0 10 < 100) || decide (1000 < fld w 0 10) || decide (fld w 0 10 < s.rf Reg.TRN_FREEZE 0 8 + 10)) s
      (0, s.commit a w ones)
  | 0x20008 => refuseIf (!s.planOpen || decide (500 < fld w 0 9)) s (0, s.commit a w ones)
  | 0x2000C => s.writeShed w
  | 0x20010 => (0, if bitOf ones 31 then s.qPeakClear else s)
  | 0x20100 => s.writeRpl w ones
  | _ => (0, s.commit a w ones)

/-- TRN (05). -/
def State.wrTrn (s : State) (a : Nat) (w ones mask : Word) : Nat × State :=
  match a with
  | 0x30000 => (0, if bitOf ones 0 then s.trnClear else s)
  | 0x30004 => refuseIf (!s.planOpen || decide (fld w 0 8 < 20) || decide (200 < fld w 0 8) || decide (s.rf Reg.CMD_MIN_LEAD 0 10 < fld w 0 8 + 10)) s
      (0, s.fly .time a w ones mask)
  | 0x30014 => (0, if bitOf ones 31 then s.calPeakClear else s)
  | 0x3004C => (0, if bitOf ones 31 then s.waitClear else s)
  | _ => (0, s.commit a w ones)

/-- BNK (06, 08): enables and settings cross to the dies; a fault bit clears under 08 R166. -/
def State.wrBnk (s : State) (a : Nat) (w ones mask : Word) : Nat × State :=
  let o := a % 0x10000
  if o = 0 then (0, if bitOf ones 0 then s.bnkClear else s)
  else if 0x08 ≤ o ∧ o ≤ 0x18 then (0, s.fly .drv a w ones mask)
  else if o = 0x100 then refuseIf (fld w 0 4 == 0 || fld w 4 4 == 0 || decide (fld w 8 8 < 20)) s (0, s.fly .drv a w ones mask)
  else if o = 0x104 ∨ (0x200 ≤ o ∧ o < 0x230) ∨ (0x600 ≤ o ∧ o < 0x780) then (0, s.faultClear a ones.toNat)
  else (0, s.commit a w ones)

/-- PRF (06, 08). Its settings are in effect as soon as they are performed (DESIGN CHOICE, assumption 53). -/
def State.wrPrf (s : State) (a : Nat) (w ones : Word) : Nat × State :=
  match a with
  | 0x50000 =>
    let s1 := if bitOf ones 0 then s.prfClear else s
    (0, if bitOf ones 1 then s1.vmClear else s1)
  | 0x50014 => (0, s.faultClear a ones.toNat)
  | 0x50020 => refuseIf (fld w 0 5 == 0) s (0, s.commit a w ones)
  | _ => (0, s.commit a w ones)

/-- VSN_LD_CTL: FREEZE and VALVE, then the operations of R149. -/
def State.writeLd (s : State) (w ones : Word) : Nat × State :=
  if 95 < fld w 8 7 then (1, s)
  else
    let s1 := (s.setRf Reg.VSN_LD_CTL 5 1 (fld w 5 1)).setRf Reg.VSN_LD_CTL 8 7 (fld w 8 7)
    let r := s1.ldOps ⟨bitOf ones 0, bitOf ones 1, bitOf ones 2, bitOf ones 3, bitOf ones 4⟩ (fld w 8 7)
    if r.1 = 0 then r else (r.1, s)

/-- VSN (07). VSN_ARR_CFG, which the detectors in the dies read, crosses to them; the capture settings act in the hub and are in effect at once, as PRF's are (DESIGN CHOICE, assumption 53). -/
def State.wrVsn (s : State) (a : Nat) (w ones mask : Word) : Nat × State :=
  let o := a % 0x10000
  if o = 0x00 then (0, if bitOf ones 0 then s.vsnClear else s)
  else if o = 0x04 then s.writeLd w ones
  else if o = 0x10 then refuseIf (fld w 16 3 == 0) s (0, s.fly .drv a w ones mask)
  else if o = 0x14 then refuseIf (fld w 12 4 == 0) s (0, s.commit a w ones)
  else if o = 0x20 then refuseIf (bitOf ones 1 && s.journalRestart.1 != 0) s (0, (if bitOf ones 1 then s.journalRestart.2 else s).commit a w ones)
  else if o = 0x28 then refuseIf (decide (s.jrnLen ≤ fld w 0 25)) s (0, s.commit a w ones)
  else if o = 0x50 then refuseIf (decide (4 < fld w 16 3) || decide (64 < fld w 20 7 * 2 ^ fld w 16 3)) s (0, s.commit a w ones)
  else if o = 0x54 then refuseIf (!s.planOpen || decide (8192 < fld w 0 14) || decide (s.capStore < 2048 * fld w 0 14)) s (0, s.commit a w ones)
  else if 0x100 ≤ o ∧ o < 0x10C then (0, s.writeFailed ((o - 0x100) / 4) w)
  else if 0x110 ≤ o ∧ o < 0x11C then (0, s.writeSFailed ((o - 0x110) / 4) w)
  else if 0x1000 ≤ o ∧ o < 0x3E80 then s.writeDelay ((o - 0x1000) / 4) w
  else if 0x4000 ≤ o ∧ o < 0x6E80 then s.writeSaved ((o - 0x4000) / 4) w
  else if 0x7000 ≤ o ∧ o < 0x9E80 then s.writeRef ((o - 0x7000) / 4) w
  else (0, s.commit a w ones)

/-- TIM (09). SET and SWITCH are refused where their rule refuses them, and act when the write takes effect. -/
def State.wrTim (s : State) (a : Nat) (w ones mask : Word) : Nat × State :=
  match a with
  | 0x70000 => refuseIf ((bitOf ones 0 && s.timSet.1 != 0) || (bitOf ones 1 && s.timSwitch.1 != 0)) s (0, s.fly .time a w ones mask)
  | 0x70020 => (0, s.fly .time a w ones mask)
  | 0x70024 => (0, s.fly .time a w ones mask)
  | 0x70028 => (0, s.fly .time a w ones mask)
  | 0x70040 => refuseIf (s.live || fld w 0 9 == 0 || decide (500 < fld w 0 9)) s (0, s.fly .time a w ones mask)
  | 0x70044 => refuseIf (decide (10000 < fld w 0 14)) s (0, s.fly .time a w ones mask)
  | _ => (0, s.commit a w ones)

/-- NET (10). -/
def State.wrNet (s : State) (a : Nat) (w ones : Word) : Nat × State :=
  match a with
  | 0x80000 =>
    let s1 := if bitOf ones 0 then s.netClear else s
    (0, if bitOf ones 1 then s1.garp else s1)
  | _ => (0, s.commit a w ones)

/-- LOOP (11). -/
def State.wrLoop (s : State) (a : Nat) (w ones : Word) : Nat × State :=
  let o := a % 0x10000
  let n := (o - 0x1000) / 0x80
  let f := (o - 0x1000) % 0x80
  if o = 0 then (0, if bitOf ones 0 then s.loopClear else s)
  else if o = 4 ∨ o = 8 then s.loopApply ((o - 4) / 4) ones
  else if 0x20 ≤ o ∧ o < 0x40 then (0, s.hostInv ((o - 0x20) / 4) w)
  else if 0x400 ≤ o ∧ o < 0x800 then (0, s.hostSlot ((o - 0x400) / 4) w)
  else if o < 0x1000 ∨ 0x3000 ≤ o then (0, s.commit a w ones)
  else if f = 0 then s.writeLoopCtl n w
  else if f = 0x44 ∧ bitOf w 31 = true then (1, s)
  else if 0x20 ≤ f ∧ f < 0x4C then (0, (s.commit a w ones).showLoop n)
  else (0, s.commit a w ones)

/-- A control register with an ARM that may be refused: the fields are taken, then ARM is tried; a refusal leaves the register as it was, with what the admission shows (11 R229; 12 R255, R259). -/
def State.armWrite (s : State) (a : Nat) (w ones : Word) (arm : State → Nat × State) (stop : State → State) : Nat × State :=
  let s1 := s.commit a w ones
  let r := if bitOf ones 0 then arm s1 else (0, s1)
  if r.1 = 0 then (0, if bitOf ones 1 then stop r.2 else r.2) else (r.1, r.2.setReg a (s.reg a))

/-- EPH (12). -/
def State.wrEph (s : State) (a : Nat) (w ones : Word) : Nat × State :=
  let o := a % 0x10000
  if o = 0 then (0, if bitOf ones 0 then s.ephClearCnt else s)
  else if 0x100 ≤ o ∧ o < 0x200 then
    let g := (o - 0x100) / 0x40
    match (o - 0x100) % 0x40 with
    | 0x00 => refuseIf (decide (5 < fld w 6 3)) s (s.armWrite a w ones (·.injArm g) (·.injAbort g))
    | 0x08 => refuseIf (w.toNat == 0 || decide (16777215 < w.toNat)) s (0, s.commit a w ones)
    | 0x0C => refuseIf (fld w 0 8 == 0) s (0, s.commit a w ones)
    | _ => (0, s.commit a w ones)
  else if 0x200 ≤ o ∧ o < 0x400 then
    let c := (o - 0x200) / 0x40
    if (o - 0x200) % 0x40 = 0 then refuseIf (fld w 16 8 == 0) s (s.armWrite a w ones (·.capArm c) (·.capStop c))
    else (0, s.commit a w ones)
  else if 0x1000 ≤ o ∧ o < 0x2000 then
    let n := (o - 0x1000) / 0x40
    match (o - 0x1000) % 0x40 with
    | 0x00 => s.writeEphCtl n w
    | 0x14 => refuseIf (bitOf w 31) s (0, s.commit a w ones)
    | 0x18 => refuseIf (decide (w.toInt ≤ 0)) s (0, s.commit a w ones)
    | 0x1C => refuseIf (decide (s.ephN n ≤ fld w 0 12) || decide (24 < fld w 16 5)) s (0, s.commit a w ones)
    | _ => (0, s.commit a w ones)
  else if 0x8000 ≤ o then (0, s.writeBin (8192 * s.rf Reg.EPH_BPAGE 0 3 + (o - 0x8000) / 4) w)
  else (0, s.commit a w ones)

/-- AFE (13) and FAN (14). -/
def State.wrAfe (s : State) (a : Nat) (w ones : Word) : Nat × State :=
  let o := a % 0x10000
  if o = 0 then (0, if bitOf ones 0 then s.afeClear else s)
  else if o = 4 then (0, s.writeChenAfe w)
  else if 0x20 ≤ o ∧ o < 0x40 then s.writeExc ((o - 0x20) / 4) w
  else (0, s.commit a w ones)

/-- FAN (14). -/
def State.wrFan (s : State) (a : Nat) (w ones : Word) : Nat × State :=
  match a with
  | 0xC0000 => (0, if bitOf ones 0 then s.fanClear else s)
  | 0xC0004 => (0, s.writeFanEn w)
  | 0xC0008 => (0, s.writeFanLock ones)
  | _ => (0, s.commit a w ones)

/-- A write of CANx_TXQ_CTL (15 R311). -/
def State.writeTxq (s : State) (x : Nat) (ones : Word) : Nat × State :=
  let r := if bitOf ones 0 then s.canPush x else (0, s)
  if r.1 ≠ 0 then (r.1, s)
  else
    let s1 := if bitOf ones 1 then r.2.canAbortHead x else r.2
    (0, if bitOf ones 2 then s1.canFlush x else s1)

/-- A write of CANx_TTb_CTL (15 R313). -/
def State.writeTt (s : State) (x b : Nat) (a : Nat) (w ones : Word) : Nat × State :=
  let r := if bitOf ones 0 then s.canTtArm x b else (0, s)
  if r.1 ≠ 0 then (r.1, s)
  else
    let s1 := r.2.commit a w ones
    (0, if bitOf ones 1 then s1.canTtCancel x b else s1)

/-- CAN0 and CAN1 (15). -/
def State.wrCan (s : State) (x : Nat) (a : Nat) (w ones : Word) : Nat × State :=
  let o := a % 0x10000
  let cfg := (s.can x).mode == 0
  if o = 0 then s.writeCanCtl x w
  else if o = 0x08 then refuseIf (!cfg || !nbtOk w) s (0, s.commit a w ones)
  else if o = 0x0C then refuseIf (!cfg || !dbtOk w) s (0, s.commit a w ones)
  else if o = 0x10 then refuseIf (!cfg) s (0, s.commit a w ones)
  else if o = 0x1C then refuseIf (fld w 0 8 == 0) s (0, s.writeTsdiv x w)
  else if o = 0x104 ∨ o = 0x204 then s.canRelease x (o / 0x100 - 1) (fld ones 0 7)
  else if o = 0x300 then s.writeTxq x ones
  else if 0x400 ≤ o ∧ o < 0x600 then
    let b := (o - 0x400) / 0x80
    if (o - 0x400) % 0x80 = 0 then s.writeTt x b a w ones else refuseIf (s.ttState x b != 0) s (0, s.commit a w ones)
  else (0, s.commit a w ones)

/-- REC_FREEZE: FREEZE, then THAW (16 R329). -/
def State.writeFreeze (s : State) (ones : Word) : Nat × State :=
  let r := if bitOf ones 0 then s.freeze else (0, s)
  if r.1 ≠ 0 then (r.1, s) else (0, if bitOf ones 1 then r.2.thaw 0 else r.2)

/-- REC_CLEAR: CHAL, then CLEAR; where one of them is not performed, neither is (16 R336; 00 R406). -/
def State.writeRecClear (s : State) (ones : Word) : Nat × State :=
  let r := if bitOf ones 0 then s.recChal else (0, s)
  if r.1 ≠ 0 then (r.1, s) else if bitOf ones 1 then refuseIf r.2.clearRefused s r.2.recClear else r

/-- REC (16). -/
def State.wrRec (s : State) (a : Nat) (w ones : Word) : Nat × State :=
  let o := a % 0x10000
  if o = 0x00 then (0, if bitOf ones 0 then s.recCounters else s)
  else if o = 0x40 then s.writeCursor w
  else if o = 0x50 then s.writeFreeze ones
  else if o = 0x80 then s.writeRecClear ones
  else if 0x94 ≤ o ∧ o < 0xA4 then (0, s.setReg a w)
  else if o = 0xC0 then if bitOf ones 0 then s.ckeyProg else (0, s)
  else if o = 0xC4 then s.wrKeyId a w ones (s.bit Reg.REC_CKEY_CTL 1 || s.rcd.keyProg)
  else if 0xE0 ≤ o ∧ o < 0x100 then (0, s.setReg a w)
  else (0, s.commit a w ones)

/-- SHT (17). -/
def State.wrSht (s : State) (a : Nat) (w ones mask : Word) : Nat × State :=
  let o := a % 0x10000
  if o = 0x00 then refuseIf (bitOf ones 1 && s.atRefused) s (0, s.fly .time a w ones mask)
  else if 0x10 ≤ o ∧ o ≤ 0x18 then refuseIf (s.bit Reg.SHT_STAT 2) s (0, s.fly .time a w ones mask)
  else if o = 0x20 then refuseIf (decide (5 < fld w 0 3)) s (0, s.fly .time a w ones mask)
  else if o = 0x24 then refuseIf (fld w 0 2 == 3) s (0, s.fly .time a w ones mask)
  else if 0x40 ≤ o ∧ o < 0x60 then (0, s.fly .time a w ones mask)
  else (0, s.commit a w ones)

/-- PWR (18): a write of a retention register is performed when it is in effect (02 R33); spreading changes at a turn of the triangle (R372). -/
def State.wrPwr (s : State) (a : Nat) (w ones mask : Word) : Nat × State :=
  let thr := fld w 0 9
  let ej := fld w 16 8
  let rst := fld w 24 8
  match a with
  | 0x110000 => refuseIf (!s.planOpen) s (0, s.fly .spread a w ones mask)
  | 0x110008 => refuseIf (decide (thr < 80) || decide (500 < thr) || decide (s.sys.vsup ≤ 10 * thr) || ej == 0 || decide (100 < ej) || rst == 0 || decide (100 < rst)) s
      (0, s.commit a w ones)
  | 0x110014 => (0, s.launch .aon a (s.reg a) ones mask)
  | 0x110018 => (0, s.launch .aon a (s.reg a) ones mask)
  | 0x11001C => (0, s.launch .aon a (s.reg a) ones mask)
  | _ => (0, s.commit a w ones)

/-- GIO (11). -/
def State.wrGio (s : State) (a : Nat) (w ones : Word) : Nat × State :=
  match a with
  | 0x120000 => (0, if bitOf ones 0 then s.gioClear else s)
  | 0x12000C => (0, s.doClear ones)
  | _ => (0, s.commit a w ones)

/-- Perform a write of the bits of `mask`; the other bits keep what a read of the register finds (R202, R406): a misaligned address or one beyond the register space is not performed (R3, R403). Answers the status. -/
def State.writeWord (s : State) (a : Nat) (data mask : Word) : Nat × State :=
  let ones := data &&& mask
  let w := (s.peek a &&& ~~~mask) ||| ones
  if a % 4 ≠ 0 ∨ 0x130000 ≤ a then (1, s)
  else if regRow a = none then (0, s)
  else
    match a / 0x10000 with
    | 0 => s.wrSys a w ones mask
    | 1 => s.wrImg a w ones
    | 2 => s.wrCmd a w ones
    | 3 => s.wrTrn a w ones mask
    | 4 => s.wrBnk a w ones mask
    | 5 => s.wrPrf a w ones
    | 6 => s.wrVsn a w ones mask
    | 7 => s.wrTim a w ones mask
    | 8 => s.wrNet a w ones
    | 9 => s.wrLoop a w ones
    | 10 => s.wrEph a w ones
    | 11 => s.wrAfe a w ones
    | 12 => s.wrFan a w ones
    | 13 => s.wrCan 0 a w ones
    | 14 => s.wrCan 1 a w ones
    | 15 => s.wrRec a w ones
    | 16 => s.wrSht a w ones mask
    | 17 => s.wrPwr a w ones mask
    | _ => s.wrGio a w ones

/-! ### Effect (01 R22, R23; 02 R32; 18 R372) -/

/-- The first write of a domain still in flight, with the others (R32). -/
def takeFlight (d : Dom) : List Flight → Option (Flight × List Flight)
  | [] => none
  | f :: fs =>
    if f.dom = d then some (f, fs)
    else match takeFlight d fs with
      | some (g, gs) => some (g, f :: gs)
      | none => none

/-- The tick by which a write is in effect: 20 ns, 1.6 µs, 122 µs after it was issued, or the next turn of the 31.25 kHz triangle (R22, R23, R372). -/
def Flight.bound (f : Flight) : Nat :=
  match f.dom with
  | .time => f.issued + 5
  | .drv => f.issued + 400
  | .aon => f.issued + 30500
  | .spread => (f.issued / 4000 + 1) * 4000

/-- Run an action that compares a register's old and new value, with the value in effect before as the old one, and leave the performed value. -/
def State.swapIn (s : State) (f : Flight) (act : State → Word → State) : State :=
  (act (s.setReg f.addr f.before) ((f.before &&& ~~~f.mask) ||| (f.data &&& f.mask))).setReg f.addr (s.reg f.addr)

/-- What a write does in its domain when it takes effect; `s0` is the state in which it was still in flight. -/
def State.applyFlight (s0 s : State) (f : Flight) : State :=
  let ones := f.data &&& f.mask
  if f.addr = Reg.BNK_BKEN then s.swapIn f State.writeBken
  else if f.addr = Reg.BNK_DRY then s.swapIn f State.writeDry
  else if Reg.BNK_CHEN ≤ f.addr ∧ f.addr ≤ Reg.BNK_CHEN + 8 then s.swapIn f fun x w => x.writeChen ((f.addr - Reg.BNK_CHEN) / 4) w
  else if f.addr = Reg.TIM_CTL then
    let s1 := if bitOf ones 0 then s.timSet.2 else s
    let s2 := if bitOf ones 1 then s1.timSwitch.2 else s1
    (if bitOf ones 3 then s2.timClear else s2).activate
  else if f.addr = Reg.TIM_SLEW_MAX then s0.slewChanged s
  else if f.addr = Reg.SHT_CTL then s.shtActs ones
  else if isFltReg f.addr then s.clearArrives f
  else if f.dom = .aon then s.commit f.addr ((s.reg f.addr &&& ~~~f.mask) ||| ones) ones
  else s

/-- Whether a write stands behind a fault clear of its block that was performed before it and waits at the dies for a current (R32; 08 R166). -/
def State.behindClear (s : State) (f : Flight) : Bool :=
  !isFltReg f.addr && s.drv.clears.any fun c => c.addr / 0x10000 == f.addr / 0x10000 && decide (c.issued ≤ f.issued)

/-- REGISTER_EFFECT: after `dt` ticks, but no later than its bound, the oldest write in flight to a domain takes effect (R22, R23, R32). One behind a fault clear waits for it as long as its own bound allows (DEDUCED, assumption 19). -/
def State.effect (dt : Nat) (s : State) (d : Dom) : State :=
  match takeFlight d s.flights with
  | none => s.advance dt
  | some (f, fs) =>
    let s1 := s.advance (if s.behindClear f then f.bound - s.clk.now else min dt (f.bound - s.clk.now))
    s1.applyFlight { s1 with flights := fs } f

/-! ### Meanings -/

/-- Show the answer of one register write. -/
def wrote (r : Nat × State) : State := r.2.answer r.1 (if r.1 = 0 then 1 else 0) []

/-- REGISTER_WRITE (R406): a write of one register, answered with its status. -/
def execRegisterWrite (a : Nat) (w : Word) : State → Out := actNow fun s => wrote (s.writeWord a w (BitVec.allOnes 32))

/-- REGISTER_EFFECT (02 R32). -/
def execRegisterEffect (dt : Nat) (d : Dom) : State → Out := actNow fun s => s.effect dt d

/-- SPREAD_WRITE (18 R372): a write of PWR_CTL, whose effect comes at the next turn of the triangle. -/
def execSpreadWrite (w : Word) : State → Out := actNow fun s => wrote (s.writeWord Reg.PWR_CTL w (BitVec.allOnes 32))

end Sys2Proof.Machine
end

