-- ==== Sys2Proof/Machine/Shamel.lean ====
section
/-! DEFINITION. Shamel frames: the ops and their order, the Leash fences, retries, responses (10 R200 to R207; 02 R30 to R36). -/

namespace Sys2Proof.Machine

/-! ### One op (10 R201 to R203, R207) -/

/-- Read words one after the other; the first that is not performed stops the op. Answers status, words performed, words read. -/
def State.readRun (s : State) (a : Nat) : Nat → OpResult × State
  | 0 => ({ status := 0, done := 0, data := [] }, s)
  | n + 1 =>
    let r := s.readWord a
    if r.1 ≠ 0 then ({ status := r.1, done := 0, data := [] }, s)
    else
      let q := r.2.2.readRun (a + 4) n
      ({ q.1 with done := q.1.done + 1, data := r.2.1 :: q.1.data }, q.2)

/-- Write words one after the other; the first that is not performed stops the op. -/
def State.writeRun (s : State) (a : Nat) : List Word → OpResult × State
  | [] => ({ status := 0, done := 0, data := [] }, s)
  | w :: ws =>
    let r := s.writeWord a w (BitVec.allOnes 32)
    if r.1 ≠ 0 then ({ status := r.1, done := 0, data := [] }, r.2)
    else
      let q := r.2.writeRun (a + 4) ws
      ({ q.1 with done := q.1.done + 1 }, q.2)

/-- Read window words (R207). -/
def State.winReadRun (s : State) : Nat → List Word × State
  | 0 => ([], s)
  | n + 1 =>
    let r := s.winRead
    let q := r.2.winReadRun n
    (r.1 :: q.1, q.2)

/-- Write window words; the first that is not performed stops the op and leaves the address where it failed (R207). -/
def State.winWriteRun (s : State) : List Word → OpResult × State
  | [] => ({ status := 0, done := 0, data := [] }, s)
  | w :: ws =>
    let r := s.winWrite w
    if r.1 ≠ 0 then ({ status := r.1, done := 0, data := [] }, r.2)
    else
      let q := r.2.winWriteRun ws
      ({ q.1 with done := q.1.done + 1 }, q.2)

/-- An op that answers without data. -/
def plain (status done : Nat) : OpResult := { status := status, done := done, data := [] }

/-- The instant a FENCE_AT names, ns of NT. -/
def fenceInst (sec ns : Nat) : Int := (sec * 1000000000 + ns : Nat)

/-- Frames held by FENCE_AT. -/
def State.heldCount (s : State) : Nat := (s.shm.held.filter fun h => match h.wait with | .instant _ => true | _ => false).length

/-- What FENCE_AT answers where it is reached (02 R36): ERROR, PAST, FAR, BUSY, else OK. -/
def State.fenceAtStatus (s : State) (sec ns : Nat) : Nat :=
  if 999999999 < ns then 1
  else if s.ntAtLeast (fenceInst sec ns) then 4
  else if (s.clk.nt : Int) + 10000000000 * 2 ^ 32 < fenceInst sec ns * 2 ^ 32 then 5
  else if 16 ≤ s.heldCount then 2
  else 0

/-- Whether an address belongs to a block that a fence's mask selects: bit b selects block b, 0 every block, bits [31:19] nothing (02 R34). -/
def selects (mask : Nat) (addr : Nat) : Bool := mask % 2 ^ 19 == 0 || (addr / 0x10000 < 19 && mask.testBit (addr / 0x10000))

/-- Whether every write that a fence waits for, performed by tick `since`, is in effect; a fault clear that waits at the dies for a current is one of them, as long as the fence may take (R34; DEDUCED, assumption 19). -/
def State.fenceOpen (s : State) (mask since : Nat) : Bool :=
  !(s.flights.any fun f => selects mask f.addr && decide (f.issued ≤ since))
    && (decide (since + 30500 ≤ s.clk.now) || !(s.drv.clears.any fun c => selects mask c.addr && decide (c.issued ≤ since)))

/-- Whether no write to an AON register waits for its effect. -/
def State.aonDone (s : State) : Bool := !(s.flights.any fun f => f.dom == .aon)

/-- Perform one op; the wait it leaves its frame in, if any (02 R30 to R36; 10 R201 to R207). -/
def State.perform (s : State) : Op → OpResult × State × Option Wait
  | .read a n =>
    let r := s.readRun a n
    ({ r.1 with data := r.1.data ++ List.replicate (n - r.1.data.length) 0 }, r.2, none)
  | .write a ws =>
    let r := s.writeRun a ws
    (r.1, r.2, if r.2.aonDone then none else some .aon)
  | .readWin a n =>
    if a ≠ 0 then ({ status := 1, done := 0, data := List.replicate n 0 }, s, none)
    else
      let r := s.winReadRun n
      ({ status := 0, done := n, data := r.1 }, r.2, none)
  | .writeWin a ws =>
    if a ≠ 0 then (plain 1 0, s, none)
    else if s.winRefused ws.length then (plain 2 0, s, none)
    else
      let r := s.winWriteRun ws
      (r.1, r.2, none)
  | .modify a mask value =>
    let r := s.writeWord a value mask
    (plain r.1 (if r.1 = 0 then 2 else 0), r.2, if r.2.aonDone then none else some .aon)
  | .fence mask => (plain 0 0, s, if s.fenceOpen mask s.clk.now then none else some (.fence mask s.clk.now none))
  | .fenceAt a sec ns =>
    let st := if a ≠ 0 then 1 else s.fenceAtStatus sec ns
    if st ≠ 0 then (plain st 0, s, none)
    else (plain 0 3, s, some (if s.fenceOpen 0 s.clk.now then .instant (fenceInst sec ns) else .fence 0 s.clk.now (some (fenceInst sec ns))))
  | .shutterNow a =>
    if a ≠ 0 then (plain 1 0, s, none)
    else
      let r := s.writeWord Reg.SHT_CTL 1 1
      (plain r.1 0, r.2, none)

/-- What an op not attempted answers: its read words as 0 (R201, R203). -/
def skipped : Op → OpResult
  | .read _ n => { status := 3, done := 0, data := List.replicate n 0 }
  | .readWin _ n => { status := 3, done := 0, data := List.replicate n 0 }
  | _ => plain 3 0

/-- Whether an op is a FENCE_AT. -/
def isFenceAt : Op → Bool
  | .fenceAt _ _ _ => true
  | _ => false

/-! ### One frame (02 R30, R31, R33) -/

/-- Perform the ops of a frame until it waits, ends, or a reset ends it. `f` carries the results; while ops run, the state's latches are the frame's. A FENCE_AT that answers ERROR for its address field skips the ops behind it as one refused under R36 does (DESIGN CHOICE, assumption 54). -/
def State.runOps (s : State) (f : Frame) : List Op → State × Frame × Option Wait
  | [] => (s, { f with ops := [] }, none)
  | op :: ops =>
    if f.skip then s.runOps { f with results := f.results ++ [(op, skipped op)] } ops
    else
      let r := s.perform op
      let s1 := r.2.1.answer r.1.status r.1.done r.1.data
      let f1 := { f with results := f.results ++ [(op, r.1)], skip := decide (r.1.status ≠ 0) && (f.stop || isFenceAt op) }
      if r.2.1.shm.running = false then (r.2.1, { f1 with ops := [] }, none)
      else match r.2.2 with
        | some w => (s1, { f1 with ops := ops }, some w)
        | none => s1.runOps f1 ops

/-- A result as the response carries it (R201). -/
def opBytes (e : Op × OpResult) : List Byte :=
  let head : Nat × Nat × Nat :=
    match e.1 with
    | .read a n => (1, n, a)
    | .write a ws => (2, ws.length, a)
    | .readWin a n => (3, n, a)
    | .writeWin a ws => (4, ws.length, a)
    | .modify a _ _ => (5, 2, a)
    | .fence m => (16, 0, m)
    | .fenceAt a _ _ => (17, 3, a)
    | .shutterNow a => (32, 0, a)
  by1 head.1 ++ by1 head.2.1 ++ by1 e.2.status ++ by1 e.2.done ++ leBytes 4 head.2.2 ++ e.2.data.flatMap fun w => leBytes 4 w.toNat

/-- The bytes of a response: header with its CRC, then the ops (R200, R201). -/
def State.respBytes (s : State) (seq flags : Nat) (rs : List (Op × OpResult)) : List Byte :=
  let body := rs.flatMap opBytes
  leBytes 2 0x534D ++ by1 1 ++ by1 (s.rf Reg.NET_STAT 8 6) ++ leBytes 4 seq ++ leBytes 2 rs.length ++ leBytes 2 flags
    ++ leBytes 4 (crc32c body).toNat ++ body

/-- Send a response as a unicast datagram to its sender, from the Shamel port to the MAC address its frame came from (R198, R206). -/
def State.sendResp (s : State) (r : Response) : State :=
  ({ s with shm := { s.shm with sent := some r } }).originate s.pcpResp (datagram .shamel r.mac r.ip 50960 r.port r.bytes)

/-- Whether a frame came from no sender: a command that performs an op by itself. -/
def Frame.ownOp (f : Frame) : Bool := f.port == 65536

/-- Keep a performed frame's response with its sender's pair (R205). -/
def State.keepResp (s : State) (f : Frame) (bs : List Byte) : State :=
  { s with shm := { s.shm with senders := s.shm.senders.map fun x =>
      if x.ip = f.ip ∧ x.port = f.port ∧ x.seq = f.seq then { x with resp := some bs } else x } }

/-- A frame has performed its last op: its response is ready, unless it asked for none (R33, R206). -/
def State.endFrame (s : State) (f : Frame) : State :=
  if f.ownOp then s
  else if f.noResp then s.keepResp f []
  else
    let r : Response := { ip := f.ip, mac := f.mac, port := f.port, bytes := s.respBytes f.seq (1 + 32 * b2n f.stop) f.results }
    { s with shm := { s.shm with ready := s.shm.ready ++ [(f, r)] } }

/-- Run a frame to its next wait; the state, and the wait it is left in with the frame. -/
def State.runFrame (s : State) (f : Frame) : State × Option Held :=
  let s1 := { s with shm := { s.shm with running := true, latches := f.latches } }
  let r := s1.runOps f f.ops
  if r.1.shm.running = false then (r.1, none)
  else
    let s2 := { r.1 with shm := { r.1.shm with running := false, latches := [] } }
    match r.2.2 with
    | some w => (s2, some { frame := { r.2.1 with latches := r.1.shm.latches }, wait := w })
    | none => (s2.endFrame r.2.1, none)

/-- Whether a waiting frame holds every later one: it waits, but not at the instant of a FENCE_AT (R31, R34). -/
def Held.blocks (h : Held) : Bool :=
  match h.wait with
  | .instant _ => false
  | _ => true

/-- Whether a frame may begin: none in front of it waits but at an instant (R31, R34). -/
def State.frontFree (s : State) : Bool := s.shm.cur.isNone && !s.shm.held.any Held.blocks

/-- Put a waiting frame where it waits: at an instant among the held ones, else in front of every later frame (R31, R34, R35). -/
def State.park (s : State) (h : Held) : State :=
  if h.blocks then { s with shm := { s.shm with cur := some h } } else { s with shm := { s.shm with held := s.shm.held ++ [h] } }

/-- Put a frame that was held at an instant back into its place among the held ones, which stand in the order of their frames. -/
def State.holdAt (s : State) (i : Nat) (x : Option Held) : State :=
  { s with shm := { s.shm with held := s.shm.held.take i ++ x.toList ++ s.shm.held.drop i } }

/-- Begin the frames that wait behind, one at a time, until one waits before them. -/
def State.runWaiting (s : State) : List Frame → State
  | [] => { s with shm := { s.shm with waiting := [] } }
  | f :: fs =>
    let r := s.runFrame f
    let s1 := match r.2 with
      | some h => r.1.park h
      | none => r.1
    if s1.frontFree then s1.runWaiting fs else { s1 with shm := { s1.shm with waiting := fs } }

/-- Frames are processed one at a time in their order (R31). -/
def State.startFrame (s : State) (f : Frame) : State :=
  if s.frontFree then s.runWaiting [f] else { s with shm := { s.shm with waiting := s.shm.waiting ++ [f] } }

/-! ### Fences that end (02 R34, R35) -/

/-- Whether the wait of a frame is over, where it is not for an instant. -/
def State.waitOver (s : State) : Wait → Bool
  | .fence m t _ => s.fenceOpen m t
  | .aon => s.aonDone
  | .instant _ => false

/-- Go on with a frame whose wait is over: to the instant of its FENCE_AT, or with its ops. -/
def State.goOn (s : State) (h : Held) : State × Option Held :=
  match h.wait with
  | .fence _ _ (some t) => (s, some { h with wait := .instant t })
  | _ => s.runFrame h.frame

/-- The frames behind begin, unless one before them still waits. -/
def State.nextFrames (s : State) : State := if s.frontFree then s.runWaiting s.shm.waiting else s

/-- A frame among the held ones goes on, and keeps its place if it waits again. -/
def State.goOnHeld (s : State) (i : Nat) (h : Held) : State :=
  let r := ({ s with shm := { s.shm with held := s.shm.held.eraseIdx i } }).goOn h
  (r.1.holdAt i r.2).nextFrames

/-- The frame in front goes on. -/
def State.goOnFront (s : State) (h : Held) : State :=
  let r := ({ s with shm := { s.shm with cur := none } }).goOn h
  (match r.2 with
    | some x => r.1.park x
    | none => r.1).nextFrames

/-- FENCE_COMPLETE: the first frame that holds the others proceeds when its selected earlier writes are in effect; once none waits before them, the frames behind begin. A frame released from FENCE_AT that waits again stands before every frame that began after it (R31, R34). -/
def State.fenceComplete (s : State) : State :=
  match s.shm.held.findIdx? Held.blocks with
  | some i =>
    match s.shm.held[i]? with
    | some h => if s.waitOver h.wait then s.goOnHeld i h else s
    | none => s
  | none =>
    match s.shm.cur with
    | some h => if s.waitOver h.wait then s.goOnFront h else s
    | none => s

/-- The place of the held frame with the earliest instant, the first frame among equals, and the instant. -/
def firstInst : List Held → Option (Nat × Int)
  | [] => none
  | h :: hs =>
    match h.wait, firstInst hs with
    | .instant t, some (i, u) => some (if u < t then (i + 1, u) else (0, t))
    | .instant t, none => some (0, t)
    | _, r => r.map fun p => (p.1 + 1, p.2)

/-- FENCE_AT_RELEASE: on the tick on which the earliest instant takes effect its frame's ops are released (R35), whatever another frame waits for (DEDUCED, assumption 42). -/
def State.fenceRelease (s : State) : State :=
  match firstInst s.shm.held with
  | some (i, t) =>
    let s1 := s.reachNt t
    match s1.shm.held[i]? with
    | some h =>
      let r := ({ s1 with shm := { s1.shm with held := s1.shm.held.eraseIdx i } }).runFrame h.frame
      r.1.holdAt i r.2
    | none => s1
  | none => s

/-! ### Frames as they arrive (10 R204 to R206) -/

/-- Read one op of a request at the front of its bytes (R201): none where an op code is unknown, a count is outside the table, the reserved halfword is not 0, or the data are cut short. -/
def parseOp (bs : List Byte) : Option (Op × List Byte) :=
  let n := leAt bs 1 1
  let a := leAt bs 4 4
  let rest := bs.drop 8
  let words (k : Nat) : List Word := (List.range k).map fun i => w32 (leAt rest (4 * i) 4)
  if bs.length < 8 ∨ leAt bs 2 2 ≠ 0 then none
  else
    match leAt bs 0 1 with
    | 0x01 => if n = 0 then none else some (.read a n, rest)
    | 0x02 => if n = 0 ∨ rest.length < 4 * n then none else some (.write a (words n), rest.drop (4 * n))
    | 0x03 => if n = 0 then none else some (.readWin a n, rest)
    | 0x04 => if n = 0 ∨ rest.length < 4 * n then none else some (.writeWin a (words n), rest.drop (4 * n))
    | 0x05 => if n ≠ 2 ∨ rest.length < 8 then none else some (.modify a (w32 (leAt rest 0 4)) (w32 (leAt rest 4 4)), rest.drop 8)
    | 0x10 => if n ≠ 0 then none else some (.fence a, rest)
    | 0x11 => if n ≠ 3 ∨ rest.length < 12 then none else some (.fenceAt a (leAt rest 0 8) (leAt rest 8 4), rest.drop 12)
    | 0x20 => if n ≠ 0 then none else some (.shutterNow a, rest)
    | _ => none

/-- Read the ops of a request, `n` of them to the last byte. -/
def parseOps : Nat → List Byte → Option (List Op)
  | 0, bs => if bs.isEmpty then some [] else none
  | n + 1, bs =>
    match parseOp bs with
    | none => none
    | some (op, rest) => (parseOps n rest).map (op :: ·)

/-- Bytes of an op in the response (R201). -/
def Op.respLen : Op → Nat
  | .read _ n => 8 + 4 * n
  | .readWin _ n => 8 + 4 * n
  | _ => 8

/-- A frame discarded under a check of R204: counted, in the episode of its cause. -/
def State.shmDiscard (s : State) (check : Nat) (ip : Word) : State :=
  (s.count (Reg.NET_DUP_CNT + 0x1C)).episode 0x0805 check (by1 check ++ leBytes 4 ip.toNat)

/-- A response without ops that names why nothing was performed: bit 2 FORMAT, bit 3 TOOBIG (R204). -/
def State.shmRefuse (s : State) (src : Peer) (port seq flags bit : Nat) : State :=
  let s1 := s.count (Reg.NET_DUP_CNT + (if bit = 2 then 0x20 else 0x24))
  if flags.testBit 1 then s1
  else s1.sendResp { ip := src.ip, mac := src.mac, port := port, bytes := s1.respBytes seq (1 + 2 ^ bit + 32 * b2n (flags.testBit 5)) [] }

/-- Set RESENT in a stored response; its CRC covers only the bytes behind the header (R205). -/
def resentBytes (bs : List Byte) : List Byte := bs.set 10 (bs.getD 10 0 ||| 0x10)

/-- The pair kept for a sender, if any. -/
def State.senderOf (s : State) (ip : Word) (port : Nat) : Option Sender := s.shm.senders.find? fun x => x.ip == ip && x.port == port

/-- Make a pair the one used most recently, of at most eight. -/
def State.keepSender (s : State) (x : Sender) : State :=
  { s with shm := { s.shm with senders := (x :: s.shm.senders.filter fun y => !(y.ip == x.ip && y.port == x.port)).take 8 } }

/-- A frame that passes checks 1 … 6: a retry is answered from the stored pair, any other is performed (R205). -/
def State.acceptFrame (s : State) (f : Frame) : State :=
  match (s.senderOf f.ip f.port).filter fun x => x.seq == f.seq with
  | some x =>
    let s1 := s.keepSender x
    match x.resp with
    | none => s1.count (Reg.NET_DUP_CNT + 0x2C)
    | some [] => s1
    | some bs => (s1.count (Reg.NET_DUP_CNT + 0x28)).sendResp { ip := f.ip, mac := f.mac, port := f.port, bytes := resentBytes bs }
  | none => ((s.keepSender { ip := f.ip, port := f.port, seq := f.seq, resp := none }).count (Reg.NET_DUP_CNT + 0x18)).startFrame f

/-- SHAMEL_FRAME: the checks of R204 in their order, then R205 and R30 … R33. -/
def State.shamelFrame (s0 : State) (src : Peer) (port : Nat) (p : List Byte) : State :=
  let s := s0.takeOffer (.shamel src port p)
  let flags := leAt p 10 2
  let seq := leAt p 4 4
  if p.length < 16 ∨ leAt p 0 2 ≠ 0x534D ∨ leAt p 2 1 ≠ 1 then s.shmDiscard 1 src.ip
  else if leAt p 3 1 ≠ 0xFF ∧ leAt p 3 1 ≠ s.rf Reg.NET_STAT 8 6 then s.shmDiscard 2 src.ip
  else if leAt p 12 4 ≠ (crc32c (p.drop 16)).toNat then s.shmDiscard 3 src.ip
  else if 524288 < s.region10 + p.length then s.shmDiscard 4 src.ip
  else
    let s1 := s.wdogRestart
    match if flags &&& 0xFFDD = 0 then parseOps (leAt p 8 2) (p.drop 16) else none with
    | none => s1.shmRefuse src port seq flags 2
    | some ops =>
      if s.maxUdp < 16 + (ops.map Op.respLen).sum then s1.shmRefuse src port seq flags 3
      else s1.acceptFrame { ip := src.ip, mac := src.mac, port := port, seq := seq, noResp := flags.testBit 1, stop := flags.testBit 5, ops := ops, results := [], skip := false, latches := [] }

/-- SHAMEL_RESPONSE: the oldest finished frame's response is sent and kept with its sender's pair (R33, R205, R206). -/
def State.shamelResponse (s : State) : State :=
  match s.shm.ready with
  | [] => s
  | (f, r) :: rs => (({ s with shm := { s.shm with ready := rs } }).keepResp f r.bytes).sendResp r

/-- A frame of one op that no sender sent: a command of the table performs it by itself. -/
def localFrame (op : Op) : Frame :=
  { ip := 0, mac := 0, port := 65536, seq := 0, noResp := true, stop := false, ops := [op], results := [], skip := false, latches := [] }

/-- Perform one op as a frame of its own; a count outside the table of R201 performs nothing. -/
def State.oneOp (s : State) (op : Op) : State :=
  let n : Nat :=
    match op with
    | .read _ n => n
    | .write _ ws => ws.length
    | .readWin _ n => n
    | .writeWin _ ws => ws.length
    | _ => 1
  if n = 0 ∨ 255 < n then s else s.startFrame (localFrame op)

/-! ### Meanings -/

/-- SHAMEL_FRAME (R204). -/
def execShamelFrame (dt : Nat) (src : Peer) (port : BitVec 16) (payload : List Byte) : State → Out := act dt fun s => s.shamelFrame src port.toNat payload

/-- SHAMEL_RESPONSE (02 R33). -/
def execShamelResponse : State → Out := actNow State.shamelResponse

/-- READ (R201). -/
def execRead (a : Word) (n : Nat) : State → Out := actNow fun s => s.oneOp (.read a.toNat n)

/-- WRITE (R201). -/
def execWrite (a : Word) (ws : List Word) : State → Out := actNow fun s => s.oneOp (.write a.toNat ws)

/-- READ_WIN (R207). -/
def execReadWin (n : Nat) : State → Out := actNow fun s => s.oneOp (.readWin 0 n)

/-- WRITE_WIN (R207). -/
def execWriteWin (ws : List Word) : State → Out := actNow fun s => s.oneOp (.writeWin 0 ws)

/-- MODIFY (R202). -/
def execModify (a mask value : Word) : State → Out := actNow fun s => s.oneOp (.modify a.toNat mask value)

/-- FENCE (02 R34). -/
def execFence (mask : Word) : State → Out := actNow fun s => s.oneOp (.fence mask.toNat)

/-- FENCE_COMPLETE (02 R34). -/
def execFenceComplete : State → Out := actNow State.fenceComplete

/-- FENCE_AT (02 R35, R36). -/
def execFenceAt (sec : BitVec 64) (ns : Word) : State → Out := actNow fun s => s.oneOp (.fenceAt 0 sec.toNat ns.toNat)

/-- FENCE_AT_RELEASE (02 R35). -/
def execFenceAtRelease : State → Out := actNow State.fenceRelease

/-- SHUTTER_NOW (R201): acts as a write of SHT_CTL.NOW. -/
def execShutterNow : State → Out := actNow fun s => s.oneOp (.shutterNow 0)

/-- TWO_WORD_LATCH (00 R7): a frame that reads a two-register quantity, the less significant word first. -/
def execTwoWordLatch (a : Word) : State → Out := actNow fun s => s.oneOp (.read a.toNat 2)

/-- NT_LATCH_READ (09 R170): a frame that reads TIM_NT_FRAC and the three NT registers it latches. -/
def execNtLatchRead : State → Out := actNow fun s => s.oneOp (.read Reg.TIM_NT_FRAC 4)

end Sys2Proof.Machine
end

