-- ==== Sys2Proof/Machine/TestPort.lean ====
section
/-! DEFINITION. The IEEE 1149.1 test port (19 R400). -/

namespace Sys2Proof.Machine

/-- Whether an instruction is performed only while DRV_EN is low (R400). -/
def testDrives : TestInstr → Bool
  | .extest => true
  | .clamp => true
  | .highz => true
  | _ => false

/-- The instruction as it acts: EXTEST, CLAMP and HIGHZ act as BYPASS while DRV_EN is high; none while the test logic is in reset (R400). -/
def State.testActs (s : State) : Option TestInstr :=
  s.tap.map fun i => if testDrives i && !s.sys.drvEnLow then .bypass else i

/-- What IDCODE returns: version 1, part 0x0960, manufacturer field 0x635 (R400). -/
def idcode : Word := 0x10960C6B#32

/-- The word the selected data register returns where the rule gives one (R400). -/
def State.testData (s : State) : Option Word := if s.testActs = some .idcode then some idcode else none

/-- TEST_PORT_INSTRUCTION: the instruction register takes an instruction. -/
def State.testLoad (s : State) (i : TestInstr) : State := { s with tap := some i }

/-- TEST_PORT_INSTRUCTION (R400). -/
def execTestPortInstruction (i : TestInstr) : State → Out := actNow fun s => s.testLoad i

end Sys2Proof.Machine
end

