-- ==== Sys2Proof/Machine/Dispatch.lean ====
section
/-! DEFINITION. One arm per command: the call of its meaning. -/

namespace Sys2Proof.Machine

open Sys2Proof

/-- The effect of a command on everything but the queue. -/
def exec (i : Instr) (s : State) : Host.Outcome State Fault Refusal :=
  match i with
  | .registerWrite a w => Sys2Proof.Machine.execRegisterWrite a w s
  | .registerEffect dt d => Sys2Proof.Machine.execRegisterEffect dt d s
  | .twoWordLatch a => Sys2Proof.Machine.execTwoWordLatch a s
  | .ntLatchRead => Sys2Proof.Machine.execNtLatchRead s
  | .shamelFrame dt ip port payload => Sys2Proof.Machine.execShamelFrame dt ip port payload s
  | .shamelResponse => Sys2Proof.Machine.execShamelResponse s
  | .read a n => Sys2Proof.Machine.execRead a n s
  | .write a ws => Sys2Proof.Machine.execWrite a ws s
  | .readWin n => Sys2Proof.Machine.execReadWin n s
  | .writeWin ws => Sys2Proof.Machine.execWriteWin ws s
  | .modify a mask value => Sys2Proof.Machine.execModify a mask value s
  | .fence mask => Sys2Proof.Machine.execFence mask s
  | .fenceComplete => Sys2Proof.Machine.execFenceComplete s
  | .fenceAt sec ns => Sys2Proof.Machine.execFenceAt sec ns s
  | .fenceAtRelease => Sys2Proof.Machine.execFenceAtRelease s
  | .shutterNow => Sys2Proof.Machine.execShutterNow s
  | .commandFrame dt payload => Sys2Proof.Machine.execCommandFrame dt payload s
  | .take => Sys2Proof.Machine.execTake s
  | .shedHold => Sys2Proof.Machine.execShedHold s
  | .shedMinWrite w => Sys2Proof.Machine.execShedMinWrite w s
  | .episodeClose => Sys2Proof.Machine.execEpisodeClose s
  | .closePoint => Sys2Proof.Machine.execClosePoint s
  | .freezePoint => Sys2Proof.Machine.execFreezePoint s
  | .handover dt => Sys2Proof.Machine.execHandover dt s
  | .cancelExpire => Sys2Proof.Machine.execCancelExpire s
  | .marker => Sys2Proof.Machine.execMarker s
  | .hbLead => Sys2Proof.Machine.execHbLead s
  | .openInstant => Sys2Proof.Machine.execOpenInstant s
  | .boostEnd dt v => Sys2Proof.Machine.execBoostEnd dt v s
  | .peakEnd v => Sys2Proof.Machine.execPeakEnd v s
  | .chopThreshold dt v lower => Sys2Proof.Machine.execChopThreshold dt v lower s
  | .releaseStart v => Sys2Proof.Machine.execReleaseStart v s
  | .releaseEnd dt v => Sys2Proof.Machine.execReleaseEnd dt v s
  | .relx v => Sys2Proof.Machine.execRelx v s
  | .absorb dt vbst => Sys2Proof.Machine.execAbsorb dt vbst s
  | .absorbEnd dt vbst => Sys2Proof.Machine.execAbsorbEnd dt vbst s
  | .arrival v samples => Sys2Proof.Machine.execArrival v samples s
  | .learnUpdate dt v => Sys2Proof.Machine.execLearnUpdate dt v s
  | .journalWrite dt queueFull => Sys2Proof.Machine.execJournalWrite dt queueFull s
  | .captureDone dt engine samples => Sys2Proof.Machine.execCaptureDone dt engine samples s
  | .delayWrite mark n w => Sys2Proof.Machine.execDelayWrite mark n w s
  | .savedWrite mark n w => Sys2Proof.Machine.execSavedWrite mark n w s
  | .resetAll => Sys2Proof.Machine.execResetAll s
  | .resetV v => Sys2Proof.Machine.execResetV v s
  | .save => Sys2Proof.Machine.execSave s
  | .restore => Sys2Proof.Machine.execRestore s
  | .refset => Sys2Proof.Machine.execRefset s
  | .journalRestart => Sys2Proof.Machine.execJournalRestart s
  | .captureArm v => Sys2Proof.Machine.execCaptureArm v s
  | .channelEnableWrite k w => Sys2Proof.Machine.execChannelEnableWrite k w s
  | .bankEnableWrite w => Sys2Proof.Machine.execBankEnableWrite w s
  | .bankDryWrite w => Sys2Proof.Machine.execBankDryWrite w s
  | .propSetUpdate => Sys2Proof.Machine.execPropSetUpdate s
  | .ntSecond => Sys2Proof.Machine.execNtSecond s
  | .prfVmclr => Sys2Proof.Machine.execPrfVmclr s
  | .overcurrent dt v early imax => Sys2Proof.Machine.execOvercurrent dt v early imax s
  | .openLoad v below => Sys2Proof.Machine.execOpenLoad v below s
  | .stuckon dt v imax => Sys2Proof.Machine.execStuckon dt v imax s
  | .boostTimeoutFault v imax => Sys2Proof.Machine.execBoostTimeoutFault v imax s
  | .releaseOverrunFault v imax => Sys2Proof.Machine.execReleaseOverrunFault v imax s
  | .hbFault dt b => Sys2Proof.Machine.execHbFault dt b s
  | .hsFault dt b => Sys2Proof.Machine.execHsFault dt b s
  | .vlsUndervoltage dt b vls => Sys2Proof.Machine.execVlsUndervoltage dt b vls s
  | .vlsRecover dt b vls => Sys2Proof.Machine.execVlsRecover dt b vls s
  | .ov1 dt vbst => Sys2Proof.Machine.execOv1 dt vbst s
  | .ov1End dt vbst => Sys2Proof.Machine.execOv1End dt vbst s
  | .ov2 dt vbst => Sys2Proof.Machine.execOv2 dt vbst s
  | .vbstUv dt vbst start => Sys2Proof.Machine.execVbstUv dt vbst start s
  | .vbstUvEnd dt vbst => Sys2Proof.Machine.execVbstUvEnd dt vbst s
  | .dieTempWarning dt d t => Sys2Proof.Machine.execDieTempWarning dt d t s
  | .dieTempWarningEnd dt d t => Sys2Proof.Machine.execDieTempWarningEnd dt d t s
  | .dieTempShutdown dt d t => Sys2Proof.Machine.execDieTempShutdown dt d t s
  | .dieLinkLoss dt d hub => Sys2Proof.Machine.execDieLinkLoss dt d hub s
  | .drvEnLow dt => Sys2Proof.Machine.execDrvEnLow dt s
  | .drvEnHigh dt => Sys2Proof.Machine.execDrvEnHigh dt s
  | .faultClear addr w => Sys2Proof.Machine.execFaultClear addr w s
  | .faultClearEffect dt still => Sys2Proof.Machine.execFaultClearEffect dt still s
  | .sync dt p num src seq logInt twoStep fcsOk origin corr q resid => Sys2Proof.Machine.execSync dt p num src seq logInt twoStep fcsOk origin corr q resid s
  | .syncOffset dt => Sys2Proof.Machine.execSyncOffset dt s
  | .announce dt num src gm rank logInt seq steps => Sys2Proof.Machine.execAnnounce dt num src gm rank logInt seq steps s
  | .announceTimeout d => Sys2Proof.Machine.execAnnounceTimeout d s
  | .pdelaySend p => Sys2Proof.Machine.execPdelaySend p s
  | .pdelayReq dt p seq turn => Sys2Proof.Machine.execPdelayReq dt p seq turn s
  | .pdelayResp dt p seq turn ratio q => Sys2Proof.Machine.execPdelayResp dt p seq turn ratio q s
  | .pdelayTimeout dt p => Sys2Proof.Machine.execPdelayTimeout dt p s
  | .domainLoss d => Sys2Proof.Machine.execDomainLoss d s
  | .holdoverExpire => Sys2Proof.Machine.execHoldoverExpire s
  | .timSwitch => Sys2Proof.Machine.execTimSwitch s
  | .switchTick => Sys2Proof.Machine.execSwitchTick s
  | .timSwDone => Sys2Proof.Machine.execTimSwDone s
  | .timSet => Sys2Proof.Machine.execTimSet s
  | .timCclr => Sys2Proof.Machine.execTimCclr s
  | .frameReceive dt p f => Sys2Proof.Machine.execFrameReceive dt p f s
  | .frameTransmit dt p => Sys2Proof.Machine.execFrameTransmit dt p s
  | .linkUp dt p speed => Sys2Proof.Machine.execLinkUp dt p speed s
  | .linkDown dt p => Sys2Proof.Machine.execLinkDown dt p s
  | .modeAlternate p => Sys2Proof.Machine.execModeAlternate p s
  | .supervisionSend => Sys2Proof.Machine.execSupervisionSend s
  | .nodeTableAge => Sys2Proof.Machine.execNodeTableAge s
  | .arpRequest dt sha spa tpa request => Sys2Proof.Machine.execArpRequest dt sha spa tpa request s
  | .icmpEcho dt mac ip data => Sys2Proof.Machine.execIcmpEcho dt mac ip data s
  | .eventFrame => Sys2Proof.Machine.execEventFrame s
  | .eventHeartbeat => Sys2Proof.Machine.execEventHeartbeat s
  | .netGarp => Sys2Proof.Machine.execNetGarp s
  | .ringRelease => Sys2Proof.Machine.execRingRelease s
  | .beat => Sys2Proof.Machine.execBeat s
  | .loopExecution retries => Sys2Proof.Machine.execLoopExecution retries s
  | .loopOutput => Sys2Proof.Machine.execLoopOutput s
  | .ioUpdate => Sys2Proof.Machine.execIoUpdate s
  | .loopModeWrite n w => Sys2Proof.Machine.execLoopModeWrite n w s
  | .loopApply k w => Sys2Proof.Machine.execLoopApply k w s
  | .hostSlotWrite m w => Sys2Proof.Machine.execHostSlotWrite m w s
  | .hostSlotInvalidate k w => Sys2Proof.Machine.execHostSlotInvalidate k w s
  | .diChange dt k => Sys2Proof.Machine.execDiChange dt k s
  | .encEdge dt k a b => Sys2Proof.Machine.execEncEdge dt k a b s
  | .encIndex dt k => Sys2Proof.Machine.execEncIndex dt k s
  | .gioDoOverload dt k => Sys2Proof.Machine.execGioDoOverload dt k s
  | .gioAoFault dt k => Sys2Proof.Machine.execGioAoFault dt k s
  | .aoFaultEnd dt k => Sys2Proof.Machine.execAoFaultEnd dt k s
  | .ephEnable n w => Sys2Proof.Machine.execEphEnable n w s
  | .ephClear n => Sys2Proof.Machine.execEphClear n s
  | .ephRestore n => Sys2Proof.Machine.execEphRestore n s
  | .ephBinWrite k w => Sys2Proof.Machine.execEphBinWrite k w s
  | .ephCclr => Sys2Proof.Machine.execEphCclr s
  | .injArm g => Sys2Proof.Machine.execInjArm g s
  | .injAbort g => Sys2Proof.Machine.execInjAbort g s
  | .ephInjEnd g => Sys2Proof.Machine.execEphInjEnd g s
  | .capArm c => Sys2Proof.Machine.execCapArm c s
  | .capStop c => Sys2Proof.Machine.execCapStop c s
  | .ephCapDone c => Sys2Proof.Machine.execEphCapDone c s
  | .captureQueueWrite => Sys2Proof.Machine.execCaptureQueueWrite s
  | .outputSample dt k low => Sys2Proof.Machine.execOutputSample dt k low s
  | .excLevelWrite j w => Sys2Proof.Machine.execExcLevelWrite j w s
  | .suppressionEnd k => Sys2Proof.Machine.execSuppressionEnd k s
  | .afeExcFault dt j q => Sys2Proof.Machine.execAfeExcFault dt j q s
  | .excRestart j => Sys2Proof.Machine.execExcRestart j s
  | .excFaultClear j => Sys2Proof.Machine.execExcFaultClear j s
  | .afeChenWrite w => Sys2Proof.Machine.execAfeChenWrite w s
  | .zoneUpdate milli => Sys2Proof.Machine.execZoneUpdate milli s
  | .tachEdge dt k near => Sys2Proof.Machine.execTachEdge dt k near s
  | .tachTimeout k => Sys2Proof.Machine.execTachTimeout k s
  | .switchTrip dt sw milli => Sys2Proof.Machine.execSwitchTrip dt sw milli s
  | .fanLockedRotor dt k milli => Sys2Proof.Machine.execFanLockedRotor dt k milli s
  | .fanEnableWrite w => Sys2Proof.Machine.execFanEnableWrite w s
  | .fanRestart w => Sys2Proof.Machine.execFanRestart w s
  | .canRxFrame dt x f => Sys2Proof.Machine.execCanRxFrame dt x f s
  | .canRxRelease x k n => Sys2Proof.Machine.execCanRxRelease x k n s
  | .canDecTmo x e => Sys2Proof.Machine.execCanDecTmo x e s
  | .canTxPush x => Sys2Proof.Machine.execCanTxPush x s
  | .canAbortHead x => Sys2Proof.Machine.execCanAbortHead x s
  | .canFlush x => Sys2Proof.Machine.execCanFlush x s
  | .canTxAttempt dt x => Sys2Proof.Machine.execCanTxAttempt dt x s
  | .canTxEnd dt x e => Sys2Proof.Machine.execCanTxEnd dt x e s
  | .canTtArm x b => Sys2Proof.Machine.execCanTtArm x b s
  | .canTtCancel x b => Sys2Proof.Machine.execCanTtCancel x b s
  | .canTtInstant x b => Sys2Proof.Machine.execCanTtInstant x b s
  | .canEncode => Sys2Proof.Machine.execCanEncode s
  | .canModeWrite x w => Sys2Proof.Machine.execCanModeWrite x w s
  | .canModeEffect dt x => Sys2Proof.Machine.execCanModeEffect dt x s
  | .canRecover x => Sys2Proof.Machine.execCanRecover x s
  | .canRecovered dt x => Sys2Proof.Machine.execCanRecovered dt x s
  | .canCclr x => Sys2Proof.Machine.execCanCclr x s
  | .recordWrite dt f => Sys2Proof.Machine.execRecordWrite dt f s
  | .logMediumFailed dt maps => Sys2Proof.Machine.execLogMediumFailed dt maps s
  | .recLost => Sys2Proof.Machine.execRecLost s
  | .opsecTick => Sys2Proof.Machine.execOpsecTick s
  | .positionPersist fail => Sys2Proof.Machine.execPositionPersist fail s
  | .recFreeze => Sys2Proof.Machine.execRecFreeze s
  | .recThaw => Sys2Proof.Machine.execRecThaw s
  | .freezeExpire => Sys2Proof.Machine.execFreezeExpire s
  | .recDataRead k => Sys2Proof.Machine.execRecDataRead k s
  | .recChal => Sys2Proof.Machine.execRecChal s
  | .chalExpire => Sys2Proof.Machine.execChalExpire s
  | .chalLockoutEnd => Sys2Proof.Machine.execChalLockoutEnd s
  | .recClear => Sys2Proof.Machine.execRecClear s
  | .recCleared dt f => Sys2Proof.Machine.execRecCleared dt f s
  | .ckeyProg => Sys2Proof.Machine.execCkeyProg s
  | .recKeySet dt => Sys2Proof.Machine.execRecKeySet dt s
  | .shtNow => Sys2Proof.Machine.execShtNow s
  | .shtAtarm => Sys2Proof.Machine.execShtAtarm s
  | .shtAt => Sys2Proof.Machine.execShtAt s
  | .shtAtcancel => Sys2Proof.Machine.execShtAtcancel s
  | .shtEvent dt => Sys2Proof.Machine.execShtEvent dt s
  | .shtIoEdge dt level => Sys2Proof.Machine.execShtIoEdge dt level s
  | .shtRearm => Sys2Proof.Machine.execShtRearm s
  | .shtRddataRead => Sys2Proof.Machine.execShtRddataRead s
  | .rplRecStart => Sys2Proof.Machine.execRplRecStart s
  | .rplPlay => Sys2Proof.Machine.execRplPlay s
  | .rplEntry => Sys2Proof.Machine.execRplEntry s
  | .verify src => Sys2Proof.Machine.execVerify src s
  | .verifyEnd dt => Sys2Proof.Machine.execVerifyEnd dt s
  | .commit src keep => Sys2Proof.Machine.execCommit src keep s
  | .loadEnd dt => Sys2Proof.Machine.execLoadEnd dt s
  | .norErase slot => Sys2Proof.Machine.execNorErase slot s
  | .norEraseEnd dt => Sys2Proof.Machine.execNorEraseEnd dt s
  | .norCommit slot => Sys2Proof.Machine.execNorCommit slot s
  | .norCommitEnd dt => Sys2Proof.Machine.execNorCommitEnd dt s
  | .prefer slot => Sys2Proof.Machine.execPrefer slot s
  | .keyProg => Sys2Proof.Machine.execKeyProg s
  | .keySet dt => Sys2Proof.Machine.execKeySet dt s
  | .swapArm => Sys2Proof.Machine.execSwapArm s
  | .swapReady dt => Sys2Proof.Machine.execSwapReady dt s
  | .swapCancel => Sys2Proof.Machine.execSwapCancel s
  | .swapTick => Sys2Proof.Machine.execSwapTick s
  | .swapDone dt => Sys2Proof.Machine.execSwapDone dt s
  | .powerOn dt vsup vhld strap => Sys2Proof.Machine.execPowerOn dt vsup vhld strap s
  | .resetPin dt strap => Sys2Proof.Machine.execResetPin dt strap s
  | .swrst key => Sys2Proof.Machine.execSwrst key s
  | .clockLoss dt => Sys2Proof.Machine.execClockLoss dt s
  | .brownOut dt vsup => Sys2Proof.Machine.execBrownOut dt vsup s
  | .reinsertion => Sys2Proof.Machine.execReinsertion s
  | .bootComplete dt calBad vhld => Sys2Proof.Machine.execBootComplete dt calBad vhld s
  | .armFirst target => Sys2Proof.Machine.execArmFirst target s
  | .armSecond target => Sys2Proof.Machine.execArmSecond target s
  | .disarm => Sys2Proof.Machine.execDisarm s
  | .safeclr => Sys2Proof.Machine.execSafeclr s
  | .drain => Sys2Proof.Machine.execDrain s
  | .sramUe dt region u => Sys2Proof.Machine.execSramUe dt region u s
  | .wdogExpire => Sys2Proof.Machine.execWdogExpire s
  | .sysWdogWrite w => Sys2Proof.Machine.execSysWdogWrite w s
  | .spreadWrite w => Sys2Proof.Machine.execSpreadWrite w s
  | .pwrFail dt vsup vhld => Sys2Proof.Machine.execPwrFail dt vsup vhld s
  | .pwrVsupOv dt vsup => Sys2Proof.Machine.execPwrVsupOv dt vsup s
  | .vsupOvEnd dt vsup => Sys2Proof.Machine.execVsupOvEnd dt vsup s
  | .powerOff dt vhld => Sys2Proof.Machine.execPowerOff dt vhld s
  | .pwrEject dt low => Sys2Proof.Machine.execPwrEject dt low s
  | .drainTimeout => Sys2Proof.Machine.execDrainTimeout s
  | .lastGasp dt f erased => Sys2Proof.Machine.execLastGasp dt f erased s
  | .rangeSample dt xs => Sys2Proof.Machine.execRangeSample dt xs s
  | .norProgramDrain dt n => Sys2Proof.Machine.execNorProgramDrain dt n s
  | .dieLinkResync dt d => Sys2Proof.Machine.execDieLinkResync dt d s
  | .canProtoError dt x code eights => Sys2Proof.Machine.execCanProtoError dt x code eights s
  | .ditherEdge v => Sys2Proof.Machine.execDitherEdge v s
  | .testPortInstruction instr => Sys2Proof.Machine.execTestPortInstruction instr s
  | .cmdLclr => Sys2Proof.Machine.execCmdLclr s
  | .cmdCclr => Sys2Proof.Machine.execCmdCclr s
  | .cmdPclr => Sys2Proof.Machine.execCmdPclr s
  | .trnCclr => Sys2Proof.Machine.execTrnCclr s
  | .trnPclr => Sys2Proof.Machine.execTrnPclr s
  | .trnWclr => Sys2Proof.Machine.execTrnWclr s
  | .shtCclr => Sys2Proof.Machine.execShtCclr s
  | .recCclr => Sys2Proof.Machine.execRecCclr s
  | .afeCclr => Sys2Proof.Machine.execAfeCclr s
  | .fanCclr => Sys2Proof.Machine.execFanCclr s
  | .bnkCclr => Sys2Proof.Machine.execBnkCclr s
  | .prfCclr => Sys2Proof.Machine.execPrfCclr s
  | .vsnCclr => Sys2Proof.Machine.execVsnCclr s
  | .netCclr => Sys2Proof.Machine.execNetCclr s
  | .gioCclr => Sys2Proof.Machine.execGioCclr s
  | .loopCclr => Sys2Proof.Machine.execLoopCclr s

end Sys2Proof.Machine
end

