-- ==== Sys2Proof/Machine/SelfTimed.lean ====
section
/-! DEFINITION. What the module does by itself while no command waits: the commands of the table that its own schedules bring about (assumption 1). -/

namespace Sys2Proof.Machine

/-- A length of time beyond every bound: a command that ends within a bound then ends on it (assumption 1). -/
def lateTicks : Nat := 2 ^ 64

/-- The command that takes what local delivery offers to its block (10 R198). -/
def offered : Delivered → Instr
  | .command p => .commandFrame 0 p
  | .shamel src port p => .shamelFrame 0 src (BitVec.ofNat 16 port) p
  | .arp a spa tpa q => .arpRequest 0 a spa tpa q
  | .icmp mac ip p => .icmpEcho 0 mac ip p

/-- The numbers of a kind of unit. -/
def eachOf (n : Nat) [NeZero n] (f : Fin n → List Instr) : List Instr := (List.range n).flatMap fun i => f (Fin.ofNat n i)

/-- What software's frames and the detectors change on a tick, before a freeze point of that tick reads it (01 R13): delivery, frames whose wait is over, learned-delay updates. -/
def State.updates (s : State) : List Instr :=
  s.net.rxq.map (fun e => offered e.2) ++ [.fenceComplete] ++ s.trn.shots.map fun h => .learnUpdate 0 (Fin.ofNat 96 h.req.valve)

/-- Actions set for an instant of NT or due with it, in the order of R28 and R96: domain switch, swaps, fences, snapshots, writes reaching their domain, updates, close points, freeze points, then the rest of Transit, timed CAN frames and the beat. -/
def State.timed (s : State) : List Instr :=
  [.switchTick, .swapTick, .fenceAtRelease, .shtAt, .faultClearEffect lateTicks ⟨0, 0⟩, .registerEffect lateTicks .time, .registerEffect lateTicks .drv,
   .registerEffect lateTicks .aon, .registerEffect lateTicks .spread]
  ++ s.updates ++ [.closePoint, .freezePoint, .marker, .cancelExpire]
  ++ eachOf 2 (fun x => eachOf 4 fun b => [.canTtInstant x b])
  ++ [.ntSecond, .beat]

/-- The channels whose run of boost timeouts or release overruns has reached its limit (08 R164). -/
def State.faultRuns (s : State) : List Instr :=
  (List.range 96).flatMap fun v =>
    let w := s.reg (Reg.BNK_CHFLT + 4 * v)
    if w = 0 then [] else [.boostTimeoutFault (Fin.ofNat 96 v) none, .releaseOverrunFault (Fin.ofNat 96 v) none]

/-- Shots and channels: hand-over, the phases that end at a planned time or at their limit, learning and the journal (05 to 07). -/
def State.driven (s : State) : List Instr :=
  [.handover 0, .hbLead, .openInstant]
  ++ s.trn.shots.flatMap (fun h =>
      let v := Fin.ofNat 96 h.req.valve
      [.boostEnd lateTicks ⟨v, none⟩, .peakEnd ⟨v, none⟩, .releaseStart v, .relx v])
  ++ s.drv.relFrom.map (fun e => .relx (Fin.ofNat 96 e.1)) ++ s.faultRuns ++ s.drv.dithNext.map (fun d => .ditherEdge (Fin.ofNat 96 d.1))
  ++ [.journalWrite 0 ⟨false, none⟩]

/-- Intake and the responses (04, 10). -/
def State.traffic (_ : State) : List Instr := [.take, .shedHold, .rplEntry, .shamelResponse]

/-- The control engine, Ephemeris and their outputs (11, 12). -/
def State.engine (s : State) : List Instr :=
  [.loopExecution 0, .loopOutput, .propSetUpdate, .ioUpdate, .canEncode]
  ++ s.eph.gens.map (fun g => .ephInjEnd (Fin.ofNat 4 g.1)) ++ s.eph.chans.map (fun c => .ephCapDone (Fin.ofNat 8 c.1)) ++ [.captureQueueWrite]

/-- Front end, general I/O, fans and CAN (11, 13 to 15): a finished window is written in time, and an input's level that has stood for its filter time counts. -/
def State.ports (s : State) : List Instr :=
  s.afe.chans.flatMap (fun c => [.outputSample lateTicks (Fin.ofNat 16 c.1) false, .suppressionEnd (Fin.ofNat 16 c.1)])
  ++ s.gio.diWait.map (fun e => .diChange 0 ⟨Fin.ofNat 32 e.1, false⟩) ++ s.gio.encWait.map (fun e => .encEdge 0 ⟨Fin.ofNat 4 (e.1 / 2), false⟩ false false) ++ eachOf 8 (fun j => [.excRestart j, .excFaultClear j])
  ++ [.zoneUpdate []] ++ s.fan.fans.map (fun f => .tachTimeout (Fin.ofNat 16 f.1))
  ++ s.can0.decAt.map (fun e => .canDecTmo 0 (Fin.ofNat 256 e.1)) ++ s.can1.decAt.map (fun e => .canDecTmo 1 (Fin.ofNat 256 e.1))

/-- A Pdelay exchange that is still unanswered when the next one is due has ended without response (09 R182). -/
def State.pdelayOver (s : State) (p : Fin 2) : List Instr :=
  if (s.pd p).asked && decide ((s.pd p).sentTick + pow2Ticks 1 s.logPdelay ≤ s.clk.now) then [.pdelayTimeout 0 p] else []

/-- The timebase and the ring link (09, 10). -/
def State.links (s : State) : List Instr :=
  [.syncOffset 0] ++ eachOf 2 (fun d => [.announceTimeout d, .domainLoss d]) ++ [.holdoverExpire, .timSwDone]
  ++ eachOf 2 (fun p => s.pdelayOver p ++ [.pdelaySend p, .modeAlternate p])
  ++ [.supervisionSend, .nodeTableAge, .eventFrame, .eventHeartbeat] ++ eachOf 2 (fun p => [.frameTransmit 0 p])

/-- Recorder, Shutter, image logic and the device (03, 16 to 18). -/
def State.upkeep (_ : State) : List Instr :=
  [.shtEvent lateTicks, .episodeClose, .recLost, .opsecTick, .recordWrite 0 ⟨[], 0, false⟩, .positionPersist false, .freezeExpire, .chalExpire, .chalLockoutEnd,
   .recCleared lateTicks ⟨[], 0, false⟩, .recKeySet lateTicks, .wdogExpire, .drainTimeout, .lastGasp 0 ⟨[], 0, false⟩ 0, .ringRelease, .reinsertion, .norProgramDrain 0 1, .verifyEnd lateTicks, .loadEnd lateTicks, .norEraseEnd lateTicks, .norCommitEnd lateTicks, .keySet lateTicks,
   .swapReady lateTicks, .swapDone lateTicks]

/-- Every command the module's own schedules can bring about in a state. -/
def State.selfTimed (s : State) : List Instr :=
  s.timed ++ s.driven ++ s.traffic ++ s.engine ++ s.ports ++ s.links ++ s.upkeep

/-- Whether a command acts on the very tick the state stands at: it changes the state and does not let time pass. -/
def dueNow (c : Instr) (s : State) : Bool :=
  match exec c s with
  | .next t => decide (t.clk.now = s.clk.now) && !decide (t = s)
  | _ => false

/-- The first command that is due on the present tick. -/
def State.firstDue (s : State) : Option Instr := s.selfTimed.find? fun c => dueNow c s

/-- With no command waiting: what is due on this tick happens, one command a step; when nothing is due a powered module lets one TIME tick pass (assumption 1). -/
def idle (s : State) : Out :=
  match s.firstDue with
  | some c => exec c s
  | none => act 1 (fun x => x) s

end Sys2Proof.Machine
end

