-- ==== Sys2Proof/Safety.lean ====
section
/-! DEFINITION. The terms in which claims speak of a command: that it completes with an effect, and what it leaves alone. -/

namespace Sys2Proof.Machine

/-- The command answers a next state, and what holds of that state. -/
def Answers (c : Sys2Proof.Instr) (s : State) (P : State → Prop) : Prop := ∃ t, exec c s = .next t ∧ P t

/-- An event of this code has been raised on this tick: it stands on the event bus, which it leaves when the tick is over (01 R19). -/
def Raised (t : State) (code : Nat) : Prop := ∃ e ∈ t.bus, e.code = code ∧ e.tick = t.clk.now

/-- Every register keeps its value but those of a list and those that the delivery of an event writes. -/
def KeepsRegs (s t : State) (as : List Nat) : Prop := ∀ a, a ∉ as → a ∉ busRegs → t.reg a = s.reg a

/-- Every memory, and what the signal fabric and its input copy hold, is the same. -/
def SameMem (s t : State) : Prop :=
  (∀ a, t.dramByte a = s.dramByte a) ∧ (∀ a, t.norByte a = s.norByte a) ∧ (∀ a, t.kenByte a = s.kenByte a) ∧ (∀ n, t.slot n = s.slot n) ∧ (∀ n, t.inp n = s.inp n)

/-- Nothing differs but registers, and what the delivery of an event changes: the recorder's and the Shutter's waiting events, the event frames, the bus and the episodes. -/
def OnlyRegs (s t : State) : Prop :=
  t = { s with regs := t.regs, rcd := t.rcd, sht := t.sht, net := t.net, bus := t.bus, episodes := t.episodes }

/-- Registers that a reset does not put to their Reset column: retention, REC_MEDFAIL, the two key stores where programmed, and the levels, causes and straps shown at once (00 R6; 10 R197; 18 R359, R360, R374). -/
def resetKeeps : List Nat :=
  [Reg.PWR_RET0, Reg.PWR_RET0 + 4, Reg.PWR_RET0 + 8, Reg.PWR_RET0 + 12, Reg.REC_MEDFAIL, Reg.IMG_KEY_CTL, Reg.IMG_KEY_ID, Reg.IMG_KEY_CHK, Reg.REC_CKEY_CTL,
   Reg.REC_CKEY_ID, Reg.REC_CKEY_CHK, Reg.PWR_STAT, Reg.BNK_DIEFLT, Reg.NET_STAT]

/-- What every reset leaves, by its cause: BOOT, nothing queued, every switch open, the cause noted in the retention registers, every other register at its Reset column; NOR and Kennel as they were. -/
def AfterReset (cause : Nat) (s t : State) : Prop :=
  t.sys.powered = true ∧ t.sys.dev = .boot ∧ t.sys.cause = cause ∧ t.cmd.queue = [] ∧ t.trn.cal = [] ∧ t.trn.shots = [] ∧ t.drv.ls = 0 ∧ t.drv.fw = 0 ∧ t.drv.hb = 0 ∧
    t.flights = [] ∧ t.bit (Reg.PWR_RET0 + 4) (cause - 1) = true ∧ (∀ a, a ∉ resetKeeps → t.reg a = regReset a) ∧
    (∀ a, t.norByte a = s.norByte a) ∧ (∀ a, t.kenByte a = s.kenByte a) ∧ t.pending = s.pending

/-- What every step keeps: LS and FW of a channel are never closed together (06 R107), and the memories stand in their canonical form. -/
def Sound (s : State) : Prop := s.drv.ls &&& s.drv.fw = 0 ∧ s.memWf = true

/-- A Shamel payload that passes checks 1 to 4 of 10 R204. -/
abbrev ShamelOk (s : State) (p : List Byte) : Prop :=
  16 ≤ p.length ∧ leAt p 0 2 = 0x534D ∧ leAt p 2 1 = 1 ∧ (leAt p 3 1 = 0xFF ∨ leAt p 3 1 = s.rf Reg.NET_STAT 8 6) ∧ leAt p 12 4 = (crc32c (p.drop 16)).toNat ∧
    s.region10 + p.length ≤ 524288

/-- A Shamel payload that passes every check of 10 R204 and carries these ops. -/
abbrev ShamelOps (s : State) (p : List Byte) (ops : List Op) : Prop :=
  ShamelOk s p ∧ leAt p 10 2 &&& 0xFFDD = 0 ∧ parseOps (leAt p 8 2) (p.drop 16) = some ops ∧ 16 + (ops.map Op.respLen).sum ≤ s.maxUdp

/-- Addresses of a run of `n` registers from `a` up. -/
def run (a n : Nat) : List Nat := (List.range n).map fun k => a + 4 * k

/-- The commands that clear counters, each with every register it clears (R79, R120, R133, R195, R242, R261, R271, R296, R312, R328, R345; TIM_CTL.CCLR). -/
def counterClears : List (Sys2Proof.Instr × List Nat) :=
  [(.cmdLclr, run Reg.CMD_LANE_DROP 128),
   (.cmdCclr, run Reg.CMD_REJ_CNT 14 ++ run Reg.CMD_DROP_CNT 4 ++ run Reg.CMD_ACC_LO 4),
   (.bnkCclr, run Reg.BNK_INH_CNT 3),
   (.prfCclr, run Reg.PRF_VLOW_CNT 12 ++ run Reg.PRF_BSTTO_CNT 4),
   (.timCclr, run Reg.TIM_SYNC_A_CNT 7),
   (.netCclr, run Reg.NET_PA_RX 10 ++ run Reg.NET_PB_RX 10 ++ run Reg.NET_DUP_CNT 14),
   (.gioCclr, run Reg.GIO_ENCERR 4),
   (.afeCclr, run Reg.AFE_RCNT 16 ++ run Reg.AFE_SATCNT 16),
   (.fanCclr, run Reg.FAN_ATT_CNT 1),
   (.canCclr 0, run (Reg.CAN_RXOK_CNT 0) 9),
   (.canCclr 1, run (Reg.CAN_RXOK_CNT 1) 9),
   (.recCclr, run Reg.REC_LOST_CNT 3),
   (.shtCclr, run Reg.SHT_MISS_CNT 1),
   (.ephCclr, run Reg.EPH_CDROP_CNT 2 ++ (List.range 64).map fun n => ephReg Reg.EPH_PER n + 4)]

end Sys2Proof.Machine
end

