-- ==== Sys2Proof/WellFormed.lean ====
section
/-! DEFINITION. Which commands can occur: the bounds of operands that the types of the syntax do not express. `exec` is total on every command; this check says which ones the interfaces of the module can bring. -/

namespace Sys2Proof

/-- A word-aligned address of the register space (00 R3; 20 R403). -/
def regAddr (a : Nat) : Bool := decide (a < 0x130000) && decide (a % 4 = 0)

/-- A count of words of an op, 1 … 255 (10 R201). -/
def opCount (n : Nat) : Bool := decide (1 ≤ n) && decide (n ≤ 255)

/-- A MAC address. -/
def macAddr (a : Nat) : Bool := decide (a < 2 ^ 48)

/-- A sequence number of a message or frame tag. -/
def seqNo (n : Nat) : Bool := decide (n < 65536)

/-- Die temperatures the die can report, °C (08 R164). -/
def dieTemp (t : Int) : Bool := decide (-128 ≤ t) && decide (t ≤ 255)

/-- The quarter ns of a tick at which a timestamp point passes the lands (09 R179). -/
def subTick (q : Nat) : Bool := decide (q < 16)

/-- A received ring frame: addresses, EtherType, tag fields, a length from 64 bytes up and no more octets behind the EtherType than it leaves room for (10 R191, R195). -/
def rxOk (f : RxFrame) : Bool :=
  macAddr f.dst && macAddr f.src && decide (f.etype < 65536) && (f.hsr.all fun n => seqNo n) && decide (f.path < 16) && (f.pcp.all fun p => decide (p < 8))
    && decide (f.vid < 4096) && decide (64 ≤ f.len) && decide (f.payload.length + 18 ≤ f.len) && subTick f.q

/-- A PTP frame that carries a Sync with these fields (09 R169, R180). -/
def syncOk (f : RxFrame) (num src seq : Nat) (logInt : Int) (twoStep fcsOk : Bool) (origin corr : Int) (q : Nat) : Bool :=
  rxOk f && Machine.isPtpFrame f && Machine.ptpType f.payload == 0 && Machine.ptpNum f.payload == num && Machine.ptpSrc f.payload == src && Machine.ptpSeq f.payload == seq
    && Machine.ptpLog f.payload == logInt && Machine.ptpTwoStep f.payload == twoStep && f.fcsOk == fcsOk && Machine.ptpOrigin f.payload == origin
    && Machine.ptpCorr f.payload == corr && f.q == q

/-- A received CAN frame: an identifier of 11 or 29 bits, a DLC of 4 bits, at most 64 data bytes, no remote frame in FD format (15 R308, R310). -/
def canOk (f : CanRx) : Bool :=
  decide (f.id < (if f.ide then 2 ^ 29 else 2 ^ 11)) && decide (f.dlc < 16) && decide (f.data.length ≤ 64) && !(f.fdf && f.rtr) && (f.fdf || !f.brs)

/-- A reading of the boost rail, in the 10 bits of PRF_VBST (06). -/
def railOk (r : Rail) : Bool := decide (r.vbst < 1024)

/-- Slots by map bit (16 R325, R326). -/
def kenOk (f : KenFault) : Bool := f.slots.all fun n => decide (n < 67584)

/-- A command an interface of the module can bring. -/
def Instr.wf : Instr → Bool
  | .registerWrite a _ => regAddr a
  | .faultClear a _ => regAddr a
  | .shamelFrame _ src _ p => macAddr src.mac && decide (p.length ≤ 8972)
  | .commandFrame _ p => decide (p.length ≤ 8972)
  | .icmpEcho _ mac _ d => macAddr mac && decide (d.length ≤ 8972)
  | .arpRequest _ a _ _ _ => macAddr a.mac && macAddr a.sha
  | .read _ n => opCount n
  | .write _ ws => opCount ws.length
  | .readWin n => opCount n
  | .writeWin ws => opCount ws.length
  | .delayWrite mark n _ => decide (n < (if mark then 3 else 2976))
  | .savedWrite mark n _ => decide (n < (if mark then 3 else 2976))
  | .overcurrent _ _ _ i => decide (i < 4096)
  | .stuckon _ _ i => decide (i < 4096)
  | .boostTimeoutFault .. | .releaseOverrunFault .. => true
  | .dieTempWarning _ _ t => dieTemp t
  | .dieTempWarningEnd _ _ t => dieTemp t
  | .dieTempShutdown _ _ t => dieTemp t
  | .sync _ _ num src seq logInt twoStep fcsOk origin corr q f => syncOk f num src seq logInt twoStep fcsOk origin corr q
  | .announce _ num src gm _ _ seq _ => decide (num < 256) && decide (src < 2 ^ 80) && decide (gm < 2 ^ 64) && seqNo seq
  | .pdelayReq _ _ seq ask => seqNo seq && decide (ask.spi < 2 ^ 80) && subTick ask.q
  | .pdelayResp _ _ seq _ _ q => seqNo seq && subTick q
  | .frameReceive _ _ f => rxOk f
  | .absorb _ r | .absorbEnd _ r | .ov1 _ r | .ov1End _ r | .ov2 _ r | .vbstUvEnd _ r => railOk r
  | .vbstUv _ r _ => railOk r
  | .linkUp _ _ speed => [10, 100, 1000, 2500].contains speed
  | .zoneUpdate xs => decide (xs.length ≤ 8)
  | .rangeSample _ xs => decide (xs.length ≤ 16)
  | .faultClearEffect _ still => decide (still.bits < 2 ^ 32) && decide (still.code < 4096)
  | .canRxFrame _ _ f => canOk f
  | .recordWrite _ f => kenOk f
  | .recCleared _ f => kenOk f
  | .lastGasp _ f _ => kenOk f
  | .registerEffect .. | .twoWordLatch .. | .ntLatchRead | .shamelResponse | .modify .. | .fence .. | .fenceComplete | .fenceAt .. | .fenceAtRelease | .shutterNow | .take
  | .shedHold | .shedMinWrite .. | .episodeClose | .closePoint | .freezePoint | .handover .. | .cancelExpire | .marker | .hbLead | .openInstant | .boostEnd .. | .peakEnd ..
  | .chopThreshold .. | .releaseStart .. | .releaseEnd .. | .relx .. | .arrival .. | .learnUpdate .. | .journalWrite .. | .captureDone ..
  | .resetAll | .resetV .. | .save | .restore | .refset | .journalRestart | .captureArm .. | .channelEnableWrite .. | .bankEnableWrite .. | .bankDryWrite .. | .propSetUpdate
  | .ntSecond | .prfVmclr | .openLoad .. | .hbFault .. | .hsFault .. | .vlsUndervoltage .. | .vlsRecover ..
  | .dieLinkLoss .. | .drvEnLow .. | .drvEnHigh .. | .syncOffset .. | .announceTimeout .. | .pdelaySend .. | .pdelayTimeout .. | .domainLoss ..
  | .holdoverExpire | .timSwitch | .switchTick | .timSwDone | .timSet | .timCclr | .frameTransmit .. | .linkDown .. | .modeAlternate .. | .supervisionSend | .nodeTableAge
  | .eventFrame | .eventHeartbeat | .netGarp | .ringRelease | .beat | .loopExecution .. | .loopOutput | .ioUpdate | .loopModeWrite .. | .loopApply .. | .hostSlotWrite ..
  | .hostSlotInvalidate .. | .diChange .. | .encEdge .. | .encIndex .. | .gioDoOverload .. | .gioAoFault .. | .aoFaultEnd .. | .ephEnable .. | .ephClear .. | .ephRestore ..
  | .ephBinWrite .. | .ephCclr | .injArm .. | .injAbort .. | .ephInjEnd .. | .capArm .. | .capStop .. | .ephCapDone .. | .captureQueueWrite | .outputSample ..
  | .excLevelWrite .. | .suppressionEnd .. | .afeExcFault .. | .excRestart .. | .excFaultClear .. | .afeChenWrite .. | .tachEdge .. | .tachTimeout .. | .switchTrip ..
  | .fanLockedRotor .. | .fanEnableWrite .. | .fanRestart .. | .canRxRelease .. | .canDecTmo .. | .canTxPush .. | .canAbortHead .. | .canFlush .. | .canTxAttempt ..
  | .canTxEnd .. | .canTtArm .. | .canTtCancel .. | .canTtInstant .. | .canEncode | .canModeWrite .. | .canModeEffect .. | .canRecover .. | .canRecovered .. | .canCclr ..
  | .logMediumFailed .. | .recLost | .opsecTick | .positionPersist .. | .recFreeze | .recThaw | .freezeExpire | .recDataRead .. | .recChal | .chalExpire | .chalLockoutEnd
  | .recClear | .ckeyProg | .recKeySet .. | .shtNow | .shtAtarm | .shtAt | .shtAtcancel | .shtEvent .. | .shtIoEdge .. | .shtRearm | .shtRddataRead | .rplRecStart | .rplPlay
  | .rplEntry | .verify .. | .verifyEnd .. | .commit .. | .loadEnd .. | .norErase .. | .norEraseEnd .. | .norCommit .. | .norCommitEnd .. | .prefer .. | .keyProg | .keySet ..
  | .swapArm | .swapReady .. | .swapCancel | .swapTick | .swapDone .. | .powerOn .. | .resetPin .. | .swrst .. | .clockLoss .. | .brownOut .. | .reinsertion
  | .bootComplete .. | .armFirst .. | .armSecond .. | .disarm | .safeclr | .drain | .sramUe .. | .wdogExpire | .sysWdogWrite .. | .spreadWrite .. | .pwrFail ..
  | .pwrVsupOv .. | .vsupOvEnd .. | .powerOff .. | .pwrEject .. | .drainTimeout | .norProgramDrain .. | .dieLinkResync .. | .canProtoError .. | .ditherEdge ..
  | .testPortInstruction .. | .cmdLclr | .cmdCclr | .cmdPclr | .trnCclr | .trnPclr | .trnWclr | .shtCclr | .recCclr | .afeCclr | .fanCclr | .bnkCclr | .prfCclr | .vsnCclr
  | .netCclr | .gioCclr | .loopCclr => true

end Sys2Proof
end

