-- ==== Sys2Proof/Certificates/Slice0/Obligations.lean ====
section
/-! DEFINITION. The statements for the provers, each from rules of the spec. -/

open Sys2Proof Sys2Proof.Machine

/-! ### The block as a whole -/

/-- A step takes the command at the front of the queue and does what the command does to everything else. -/
def Obligations.StepRunsFrontCommand : Prop :=
  ∀ (c : Instr) (cs : List Instr) (s : State), s.pending = c :: cs → step s = exec c { s with pending := cs }

/-- No command stops the block: every command answers a next state in every state. -/
def Obligations.EveryCommandCompletes : Prop :=
  ∀ (c : Instr) (s : State), ∃ t, exec c s = .next t

/-- Counter clears (R79, R120, R133, R195, R242, R261, R271, R296, R312, R328, R345): each sets its registers to 0 and leaves every other register and all other state alone. Clears of single marks: the queue's and the calendar's peak take the present fill (R82, R93), the longest wait and the TRN counts go to 0 (R100, R104), the lowest VBST takes the present one (R123), the shot statistics and overrun counts go to 0 (R154, R230). Other fields of those registers stay. -/
def Obligations.CountersAndMarksClear : Prop :=
  (∀ (c : Instr) (as : List Nat) (s : State), (c, as) ∈ counterClears → s.sys.powered = true →
     Answers c s fun t => OnlyRegs s t ∧ (∀ a, a ∉ busRegs → t.reg a = if a ∈ as then 0 else s.reg a) ∧
       (s.bus = [] → ∀ a, t.reg a = if a ∈ as then 0 else s.reg a)) ∧
  (∀ s : State, s.sys.powered = true →
     Answers .cmdPclr s (fun t => OnlyRegs s t ∧ t.rf Reg.CMD_QFILL 16 15 = s.cmd.queue.length % 2 ^ 15 ∧ t.rf Reg.CMD_QFILL 0 16 = s.rf Reg.CMD_QFILL 0 16 ∧
       KeepsRegs s t [Reg.CMD_QFILL]) ∧
     Answers .trnPclr s (fun t => OnlyRegs s t ∧ t.rf Reg.TRN_CAL_PEAK 0 19 = s.trn.cal.length % 2 ^ 19 ∧ KeepsRegs s t [Reg.TRN_CAL_PEAK]) ∧
     Answers .trnWclr s (fun t => OnlyRegs s t ∧ t.rf Reg.TRN_WAIT_MAX 0 9 = 0 ∧ KeepsRegs s t [Reg.TRN_WAIT_MAX]) ∧
     Answers .trnCclr s (fun t => OnlyRegs s t ∧ (∀ a ∈ run Reg.TRN_SHOT_LO 11 ++ run Reg.TRN_BK_FB 12, t.reg a = 0) ∧ t.rf Reg.TRN_WAIT_MAX 0 9 = 0 ∧
       KeepsRegs s t (run Reg.TRN_SHOT_LO 11 ++ run Reg.TRN_BK_FB 12 ++ [Reg.TRN_WAIT_MAX])) ∧
     Answers .prfVmclr s (fun t => OnlyRegs s t ∧ (t.reg Reg.PRF_VBST_LOWEST).toNat = s.rf Reg.PRF_VBST 0 10 ∧ KeepsRegs s t [Reg.PRF_VBST_LOWEST]) ∧
     Answers .vsnCclr s (fun t => OnlyRegs s t ∧ (∀ a ∈ run Reg.VSN_JDROP 7 ++ run Reg.VSN_CAP_MISS 1 ++ run Reg.VSN_VSHOT 96, t.reg a = 0) ∧
       (∀ v < 96, t.rf (Reg.VSN_VSTAT + 4 * v) 8 8 = 0 ∧ t.rf (Reg.VSN_VSTAT + 4 * v) 0 8 = s.rf (Reg.VSN_VSTAT + 4 * v) 0 8) ∧
       KeepsRegs s t (run Reg.VSN_JDROP 7 ++ run Reg.VSN_CAP_MISS 1 ++ run Reg.VSN_VSHOT 96 ++ run Reg.VSN_VSTAT 96)) ∧
     Answers .loopCclr s (fun t => OnlyRegs s t ∧ ∀ n < 64, t.rf (loopReg Reg.LOOP_STAT n) 16 16 = 0 ∧ t.rf (loopReg Reg.LOOP_STAT n) 0 16 = s.rf (loopReg Reg.LOOP_STAT n) 0 16))

/-! ### Intake (04) and REPLAY (02) -/

/-- A command frame (R71, R78, R79). On its check tick a frame that passes its checks puts its first command behind the queue where that is admissible, and each further command reaches the queue one tick after the one before it, judged then: admissible, it enters; else it is refused with its cause. A frame that fails a check is refused whole with the cause of R78: no command enters, the cause is counted and shown. -/
def Obligations.CommandFrameTakenOrRefusedWhole : Prop :=
  (∀ (s0 : State) (dt : Nat) (p : List Byte), s0.sys.powered = true →
     let s := s0.pass (s0.checkWait p dt)
     s.bit Reg.CMD_RPL_CTL 0 = false → s.cmd.coming = [] →
     (s.frameCause p = 0 → leAt p 6 2 = 0 → Answers (.commandFrame dt p) s0 fun t => t.cmd = s.cmd ∧ t.clk.now = s.clk.now ∧
       t.reg Reg.CMD_FRM_CNT = satInc (s.reg Reg.CMD_FRM_CNT) ∧ KeepsRegs s t [Reg.CMD_FRM_CNT] ∧ SameMem s t ∧ t.trn = s.trn) ∧
     (∀ c cs, s.frameCause p = 0 → frameCmds p (s.stampOffset (leAt p 3 1)) 0 = c :: cs →
       (s.cmdCause true c = 0 → s.cmd.queue.length < 12288 → Answers (.commandFrame dt p) s0 fun t =>
         t.cmd.queue = s.cmd.queue ++ [c] ∧ t.cmd.coming = comingFrom true (s.clk.now + 1) cs ∧ t.clk.now = s.clk.now ∧
         t.reg Reg.CMD_FRM_CNT = satInc (s.reg Reg.CMD_FRM_CNT) ∧ KeepsRegs s t [Reg.CMD_FRM_CNT, Reg.CMD_ACC_LO, Reg.CMD_ACC_LO + 4, Reg.CMD_QFILL] ∧
         SameMem s t ∧ t.trn = s.trn) ∧
       (s.cmdCause true c ≠ 0 → Answers (.commandFrame dt p) s0 fun t =>
         t.cmd.queue = s.cmd.queue ∧ t.cmd.coming = comingFrom true (s.clk.now + 1) cs ∧ t.rf Reg.CMD_LAST_REJ 0 8 = s.cmdCause true c ∧
         t.reg (Reg.CMD_REJ_CNT + 4 * (s.cmdCause true c - 1)) = satInc (s.reg (Reg.CMD_REJ_CNT + 4 * (s.cmdCause true c - 1))) ∧
         t.reg Reg.CMD_FRM_CNT = satInc (s.reg Reg.CMD_FRM_CNT) ∧ SameMem s t ∧ t.trn = s.trn)) ∧
     (∀ k, s.frameCause p = k → k ≠ 0 → 1 ≤ k ∧ k ≤ 4 ∧ (leAt p 0 2 ≠ 0x434D → k = 1) ∧
       Answers (.commandFrame dt p) s0 fun t =>
         t.cmd = s.cmd ∧ t.reg (Reg.CMD_REJ_CNT + 4 * (k - 1)) = satInc (s.reg (Reg.CMD_REJ_CNT + 4 * (k - 1))) ∧
         t.reg Reg.CMD_FRM_CNT = satInc (s.reg Reg.CMD_FRM_CNT) ∧ t.rf Reg.CMD_LAST_REJ 0 8 = k ∧
         KeepsRegs s t [Reg.CMD_FRM_CNT, Reg.CMD_REJ_CNT + 4 * (k - 1), Reg.CMD_LAST_REJ] ∧ SameMem s t ∧ t.trn = s.trn)) ∧
  (∀ (s : State) (ring : Bool) (c : Cmd) es, s.cmd.coming = (s.clk.now + 1, ring, c) :: es → (∀ e ∈ es, s.clk.now + 1 < e.1) →
     (s.pass 1).cmd.coming = es ∧ (s.pass 1).clk.now = s.clk.now + 1 ∧ (s.pass 1).trn = s.trn ∧
     (s.cmdCause ring c = 0 → s.cmd.queue.length < 12288 → (s.pass 1).cmd.queue = s.cmd.queue ++ [c]) ∧
     (s.cmdCause ring c ≠ 0 → (s.pass 1).cmd.queue = s.cmd.queue ∧
       (s.pass 1).reg (Reg.CMD_REJ_CNT + 4 * (s.cmdCause ring c - 1)) = satInc (s.reg (Reg.CMD_REJ_CNT + 4 * (s.cmdCause ring c - 1)))))

/-- TAKE of a timed or detected command within its lead and horizon (R11, R76, R90, R93): it leaves the queue no sooner than 232 ticks after the previous take, and not on the tick on which it entered an empty queue; its requests enter the calendar, one per covered lane, with the shift that lateness asks for. An empty queue gives nothing to take. -/
def Obligations.TakeEntersCalendar : Prop :=
  ∀ (s : State), s.sys.powered = true → s.cmd.coming = [] →
    (s.cmd.queue = [] → Answers .take s fun t => t.cmd = s.cmd ∧ t.clk = s.clk ∧ OnlyRegs s t ∧ KeepsRegs s t []) ∧
    (∀ (c : Cmd) (q : List Cmd), s.cmd.queue = c :: q → c.kind ≤ 1 →
      let s1 := s.reachTick s.takeTick
      let late : Int := s1.ntGrid + s1.minLead - s1.earliestOpen c
      late ≤ s.lateTol → s1.earliestOpen c - s1.ntGrid ≤ 2000000000 → s.trn.cal.length < 262144 →
      Answers .take s fun t =>
        t.cmd.queue = q ∧ t.trn.cal = s.trn.cal ++ [{ cmd := c, reqs := c.lanes.map (s1.mkReq c late.toNat) }] ∧ t.trn.shots = s.trn.shots ∧
        t.cmd.lastTake = some t.clk.now ∧ (∀ r, s.cmd.lastTake = some r → r + 232 ≤ t.clk.now) ∧ s.cmd.headTick < t.clk.now ∧ t.clk.now = max s.clk.now s.takeTick ∧
        KeepsRegs s t [Reg.CMD_QFILL, Reg.CMD_STAT, Reg.CMD_SHED_LVL, Reg.TRN_CAL_PEAK, Reg.TRN_STAT] ∧ SameMem s t ∧ t.drv = s.drv ∧ t.sys = s.sys)

/-- The shed level (R82): while the fill stays beyond a threshold for a further HOLD it moves by one, up to 3 and down to MIN, and where nothing is due it stays; a write of a MIN above the level raises the level to MIN, and a write of HOLD 0 is not performed, MIN keeping its value too. -/
def Obligations.ShedLevelMoves : Prop :=
  ∀ (s : State), s.sys.powered = true →
    (∀ r, s.cmd.coming = [] → s.shedDue = some r → 12289 ≤ s.cmd.queue.length →
      r = max s.cmd.shedUpAt s.cmd.fillAt + 25000 * s.rf Reg.CMD_SHED_LVL 8 8 ∧ s.rf Reg.CMD_SHED_LVL 0 2 < 3 ∧
      Answers .shedHold s fun t => t.rf Reg.CMD_SHED_LVL 0 2 = s.rf Reg.CMD_SHED_LVL 0 2 + 1 ∧ t.clk.now = max s.clk.now r ∧ t.cmd.shedUpAt = t.clk.now ∧ Raised t 0x0203 ∧
        t.bit Reg.CMD_STAT 9 = true ∧ t.cmd.queue = s.cmd.queue ∧ KeepsRegs s t [Reg.CMD_SHED_LVL, Reg.CMD_STAT] ∧ SameMem s t ∧ t.trn = s.trn ∧ t.sys = s.sys) ∧
    (∀ r, s.cmd.coming = [] → s.shedDue = some r → s.cmd.queue.length < 12289 →
      r = max s.cmd.shedDownAt s.cmd.fillAt + 25000 * s.rf Reg.CMD_SHED_LVL 8 8 ∧ s.cmd.queue.length ≤ 4095 ∧ s.rf Reg.CMD_SHED_LVL 24 2 < s.rf Reg.CMD_SHED_LVL 0 2 ∧
      Answers .shedHold s fun t => t.rf Reg.CMD_SHED_LVL 0 2 = s.rf Reg.CMD_SHED_LVL 0 2 - 1 ∧ t.clk.now = max s.clk.now r ∧ t.cmd.shedDownAt = t.clk.now ∧ Raised t 0x0203 ∧
        t.cmd.queue = s.cmd.queue ∧ KeepsRegs s t [Reg.CMD_SHED_LVL, Reg.CMD_STAT] ∧ SameMem s t ∧ t.trn = s.trn ∧ t.sys = s.sys) ∧
    (s.shedDue = none → Answers .shedHold s fun t => t.cmd = s.cmd ∧ t.clk = s.clk ∧ OnlyRegs s t ∧ KeepsRegs s t []) ∧
    (∀ w : Word, fld w 8 8 ≠ 0 →
      Answers (.shedMinWrite w) s fun t => t.rf Reg.CMD_SHED_LVL 8 8 = fld w 8 8 ∧ t.rf Reg.CMD_SHED_LVL 24 2 = fld w 24 2 ∧
        t.rf Reg.CMD_SHED_LVL 0 2 = max (s.rf Reg.CMD_SHED_LVL 0 2) (fld w 24 2) ∧ t.cmd.queue = s.cmd.queue ∧ t.clk = s.clk ∧
        (s.rf Reg.CMD_SHED_LVL 0 2 < fld w 24 2 → t.cmd.shedUpAt = s.clk.now ∧ Raised t 0x0203) ∧ KeepsRegs s t [Reg.CMD_SHED_LVL, Reg.CMD_STAT] ∧ SameMem s t) ∧
    (∀ w : Word, fld w 8 8 = 0 → Answers (.shedMinWrite w) s fun t => OnlyRegs s t ∧ KeepsRegs s t [])

/-- EPISODE_CLOSE (R85): the open episode due first closes on its tick, and its one event, with the repeat count of the episode, stands on the bus; with the end of the tick it reaches the recorder queue where there is room. With no episode open nothing closes. -/
def Obligations.EpisodeClosesOnce : Prop :=
  (∀ (s : State) (e : Episode), s.sys.powered = true → s.cmd.coming = [] → s.bus = [] → firstEp s.episodes = some e →
    Answers .episodeClose s fun t => t.clk.now = max s.clk.now (epDue e) ∧ findEp t.episodes e.code e.key = none ∧ t.cmd = s.cmd ∧ t.trn = s.trn ∧ KeepsRegs s t [] ∧ SameMem s t ∧
      ∃ ev, t.bus = [ev] ∧ ev.code = e.code ∧ ev.rep = min 65535 (e.count - 1) ∧ ev.tick = t.clk.now ∧
        (s.rcd.queue.length < 256 → s.rcd.lostRun = 0 → (t.pass 1).rcd.queue = s.rcd.queue ++ [{ ev with eseq := s.net.eseq % 2 ^ 32 }])) ∧
  (∀ s : State, s.sys.powered = true → s.episodes = [] → Answers .episodeClose s fun t => t.clk = s.clk ∧ OnlyRegs s t ∧ KeepsRegs s t [])

/-- REPLAY (R46, R47, R48): setting REC restarts the stream with its terminating entry alone; setting PLAY in ARMED or DRY computes Δ in whole µs and starts at the first entry, and elsewhere it is not performed; an entry is passed at its shifted NT, one whose CRC fails is counted and skipped, any other is taken as a received frame. -/
def Obligations.ReplayRecordsAndPlays : Prop :=
  ∀ (s : State), s.sys.powered = true →
    (s.bit Reg.CMD_RPL_CTL 1 = false → 16 ≤ s.rplSize →
      Answers .rplRecStart s fun t => t.bit Reg.CMD_RPL_CTL 0 = true ∧ t.reg Reg.CMD_RPL_LEN = 16 ∧ t.cmd.rplStart = s.ntNs ∧ t.cmd.rplPos = 0 ∧
        (∀ i < 16, t.dramByte (0xC0000000 + i) = 0) ∧ (∀ a, a < 0xC0000000 ∨ 0xC0000010 ≤ a → t.dramByte a = s.dramByte a) ∧
        KeepsRegs s t [Reg.CMD_RPL_CTL, Reg.CMD_RPL_LEN]) ∧
    (s.live = true → s.bit Reg.CMD_RPL_CTL 0 = false → s.bit Reg.CMD_RPL_CTL 9 = false →
      { s with cmd := { s.cmd with rplPos := 0 } }.rplField 0 4 ≠ 0 → { s with cmd := { s.cmd with rplPos := 0 } }.rplField 0 4 ≤ 8972 →
      Answers .rplPlay s fun t => t.bit Reg.CMD_RPL_CTL 1 = true ∧ t.bit Reg.CMD_RPL_CTL 9 = true ∧ t.cmd.rplPos = 0 ∧
        t.cmd.rplDelta = ((s.ntNs : Int) - s.cmd.rplStart).tdiv 1000 ∧ t.reg Reg.CMD_RPL_DELTA_LO = w32i (((s.ntNs : Int) - s.cmd.rplStart).tdiv 1000) ∧
        KeepsRegs s t [Reg.CMD_RPL_CTL, Reg.CMD_RPL_DELTA_LO, Reg.CMD_RPL_DELTA_HI] ∧ SameMem s t) ∧
    ((s.live = false ∨ s.bit Reg.CMD_RPL_CTL 0 = true ∨ s.bit Reg.CMD_RPL_CTL 9 = true) → Answers .rplPlay s fun t => t.cmd = s.cmd ∧ OnlyRegs s t ∧ KeepsRegs s t []) ∧
    (s.cmd.coming = [] → s.bit Reg.CMD_RPL_CTL 9 = true → s.rplField 0 4 ≠ 0 → s.rplField 0 4 ≤ 8972 →
      Answers .rplEntry s fun t => t.cmd.rplPos = s.cmd.rplPos + 16 + s.rplField 0 4 + (16 - s.rplField 0 4 % 16) % 16 ∧ t.clk.now = s.clk.now + s.ticksTo s.rplDue ∧ SameMem s t ∧
        (w32 (s.rplField 4 4) ≠ crc32c (storeGetList dramNone s.dram (0xC0000000 + s.cmd.rplPos + 16) (s.rplField 0 4)) →
          t.cmd.queue = s.cmd.queue ∧ t.reg Reg.CMD_RPL_CRCERR = satInc (s.reg Reg.CMD_RPL_CRCERR) ∧ Raised t 0x0240) ∧
        (w32 (s.rplField 4 4) = crc32c (storeGetList dramNone s.dram (0xC0000000 + s.cmd.rplPos + 16) (s.rplField 0 4)) →
          t.reg Reg.CMD_FRM_CNT = satInc (s.reg Reg.CMD_FRM_CNT) ∧ t.reg Reg.CMD_RPL_CRCERR = s.reg Reg.CMD_RPL_CRCERR))

/-! ### Transit (05) -/

/-- FREEZE_POINT of a request that joins nothing, is not cancelled and whose valve is not FAILED: it starts exactly one new shot, planned on the 4 ns grid and never before its valve's ready instant (R91, R94, R98, R99). A cancel that covers the request voids it at its freeze point: no shot starts, the void is counted, and a record with CNCL is due (R102). -/
def Obligations.FreezePointPlansOrVoids : Prop :=
  (∀ (s : State) (r : Req), s.sys.powered = true → s.cmd.coming = [] → s.nextFreeze = some r →
     let s1 := s.reachNt (s.reqOpen r - s.freezeLead)
     s.failed r.valve = false → s.cancelOf r = none → (∀ h ∈ s.trn.shots, s.mayJoin h h.e r = false) →
     Answers .freezePoint s fun t =>
       ∃ h, t.trn.shots = s.trn.shots ++ [h] ∧ h.req = r ∧ h.phase = .frozen ∧ h.id = s.trn.nextId ∧ t.trn.nextId = s.trn.nextId + 1 ∧ h.frozenAt = t.clk.now ∧
         h.openAt % 4 = 0 ∧ (∀ k, s.readyOf r.valve = some k → k ≤ h.openAt) ∧ h.q = (s.interval r).1 ∧ h.e ≤ h.q + ((1000 * pMaxShot (s.prof r.prof) : Nat) : Int) ∧
         h.dry = s.bankDry (bankOf r.valve) ∧ (s.enabled r.valve = false ↔ h.decision = .inhibited) ∧ t.clk.now = s1.clk.now ∧ t.cmd = s.cmd ∧ SameMem s t ∧ t.drv = s.drv ∧
         t.sys = s.sys ∧ KeepsRegs s t [Reg.TRN_SHOT_LO, Reg.TRN_SHOT_LO + 4, Reg.TRN_JOIN_CNT + 4, Reg.TRN_JOIN_CNT + 8, Reg.TRN_JOIN_CNT + 0xC, Reg.TRN_JOIN_CNT + 0x10,
           Reg.TRN_WAIT_MAX, Reg.TRN_BK_FB + 4 * bankOf r.valve, Reg.VSN_CAP_CTL, Reg.VSN_CAP_MISS]) ∧
  (∀ (s : State) (r : Req), s.sys.powered = true → s.cmd.coming = [] → s.nextFreeze = some r → s.failed r.valve = false → (s.cancelOf r).isSome = true →
     Answers .freezePoint s fun t =>
       t.trn.shots = s.trn.shots ∧ t.reg (Reg.TRN_JOIN_CNT + 0x14) = satInc (s.reg (Reg.TRN_JOIN_CNT + 0x14)) ∧
       (∃ inst e d, t.vsn.jq = s.vsn.jq ++ [.req 2 r 128 inst e d]) ∧ KeepsRegs s t [Reg.TRN_JOIN_CNT + 0x14] ∧ SameMem s t ∧ t.drv = s.drv)

/-- The calendar's other commands. A close point no request may join makes the shot's end final, and a shot already over leaves (R97). A hand-over within 10 µs of the freeze point gives the plan to the die, a later one makes the shot one that will not fire, with LATE_HO (R14). A cancel leaves the calendar when NT has passed its stamp by 2.000 s (R93). A marker's record is due when its stamp takes effect (R73). -/
def Obligations.CalendarMovesOn : Prop :=
  (∀ (s : State), s.sys.powered = true → s.cmd.coming = [] →
    (∀ h, s.nextClose = some h → s.trn.shots.find? (fun x => x.id == h.id) = some h → (∀ r ∈ s.allReqs, s.mayJoin h h.e r = false) →
      Answers .closePoint s fun t => (∀ x ∈ t.trn.shots, x.id = h.id → x.closed = true) ∧ (h.phase = .done → ∀ x ∈ t.trn.shots, x.id ≠ h.id) ∧
        (h.phase ≠ .done → t.trn.shots.length = s.trn.shots.length) ∧ t.trn.cal = s.trn.cal ∧ KeepsRegs s t [] ∧ SameMem s t ∧ t.drv = s.drv) ∧
    (∀ c, s.firstOfKind 2 = some c → 0 < s.clk.inc →
      Answers .cancelExpire s fun t => t.trn.cal = eraseEntry s.trn.cal c ∧ (c.stamp + 2000000000) * 2 ^ 32 < (t.clk.nt : Int) ∧ t.trn.shots = s.trn.shots ∧ KeepsRegs s t [] ∧ SameMem s t) ∧
    (∀ c, s.firstOfKind 3 = some c → 0 < s.clk.inc →
      Answers .marker s fun t => t.trn.cal = eraseEntry s.trn.cal c ∧ t.vsn.jq = s.vsn.jq ++ [.marker c t.ntNs] ∧ c.stamp ≤ (t.ntNs : Int) ∧ KeepsRegs s t [] ∧ SameMem s t)) ∧
  (∀ (s0 : State) (dt : Nat) (h : Shot), s0.sys.powered = true →
    let s := s0.pass dt
    s.trn.shots.find? (fun x => x.phase == .frozen) = some h →
    (s.clk.now ≤ h.frozenAt + 2500 →
      Answers (.handover dt) s0 fun t => (∃ x ∈ t.trn.shots, x.id = h.id ∧ x.phase = .handed) ∧ t.vsn.jq = s.vsn.jq ∧ t.trn.cal = s.trn.cal ∧ t.drv = s.drv ∧ KeepsRegs s t []) ∧
    (h.frozenAt + 2500 < s.clk.now →
      Answers (.handover dt) s0 fun t => (∃ x ∈ t.trn.shots, x.id = h.id ∧ x.phase = .withheld ∧ x.pflags.testBit 10 = true) ∧ (∀ x ∈ t.trn.shots, x.id = h.id → x.phase = .withheld) ∧
        t.bit Reg.TRN_STAT 2 = true ∧ t.reg (Reg.TRN_JOIN_CNT + 0x20) = satInc (s.reg (Reg.TRN_JOIN_CNT + 0x20)) ∧ Raised t 0x0303 ∧ t.drv = s.drv ∧
        KeepsRegs s t [Reg.TRN_JOIN_CNT + 0x20, Reg.TRN_STAT]))

/-! ### Switches and phases (06) -/

/-- The open instant of a shot on an enabled channel that may drive: the bank's fire strobe rises, LS of that channel closes with FW open, no other channel's LS changes, and the shot runs (R12, R114). A dry shot raises the strobe and drives nothing (R130). A shot on a channel that is OFF is inhibited and counted (R132). Of a shot withheld before, the record is due at its open instant (07 R150). HB_LEAD closes HB of the bank for the boosted shot (R115). -/
def Obligations.OpenInstantDrivesOneChannel : Prop :=
  ∀ (s : State), s.sys.powered = true → s.cmd.coming = [] →
    (∀ h, s.firstShot (fun h => h.phase == .handed || h.phase == .withheld) (·.openAt) = some h → h.phase = .handed →
      (h.req.valve < 96 → h.decision ≠ .inhibited → s.chSt h.req.valve = 1 → s.bkSt (bankOf h.req.valve) = 1 → h.dry = false → s.canDrive h.req.valve = true →
        s.reopenAt h.req.valve = none →
        (h.boosts = false ∨ (s.bit (Reg.BNK_CHFLT + 4 * h.req.valve) 4 = false ∧ 2 * pVMin h.own ≤ s.vbst ∧
          (s.hbHolder (bankOf h.req.valve) = 0 ∨ s.hbHolder (bankOf h.req.valve) = h.req.valve + 1))) →
        Answers .openInstant s fun t => t.drv.ls.getLsbD h.req.valve = true ∧ t.drv.fw.getLsbD h.req.valve = false ∧
          (∀ u < 96, u ≠ h.req.valve → t.drv.ls.getLsbD u = s.drv.ls.getLsbD u) ∧ t.drv.strobe.getLsbD (bankOf h.req.valve) = true ∧ t.clk.now = s.clk.now + s.ticksTo h.openAt ∧
          (∃ x ∈ t.trn.shots, x.id = h.id ∧ (x.phase = .boost ∨ x.phase = .peak ∨ x.phase = .hold) ∧ x.openTick = t.clk.now) ∧ KeepsRegs s t [] ∧ SameMem s t) ∧
      (h.decision ≠ .inhibited → s.chSt h.req.valve = 1 → s.bkSt (bankOf h.req.valve) = 1 → h.dry = true →
        Answers .openInstant s fun t => t.drv.ls = s.drv.ls ∧ t.drv.fw = s.drv.fw ∧ t.drv.hb = s.drv.hb ∧ t.drv.strobe.getLsbD (bankOf h.req.valve) = true ∧ KeepsRegs s t [] ∧ SameMem s t) ∧
      ((h.decision = .inhibited ∨ s.chSt h.req.valve = 0) →
        Answers .openInstant s fun t => t.drv.ls = s.drv.ls ∧ t.drv.fw = s.drv.fw ∧ (∀ x ∈ t.trn.shots, x.id = h.id → x.phase = .done) ∧
          (∃ x, t.vsn.jq = s.vsn.jq ++ [.shot x] ∧ x.id = h.id ∧ x.dflags.testBit 5 = true) ∧
          t.reg Reg.BNK_INH_CNT = satInc (s.reg Reg.BNK_INH_CNT) ∧ KeepsRegs s t [Reg.BNK_INH_CNT] ∧ SameMem s t)) ∧
    (∀ h, s.firstShot (fun h => h.phase == .handed || h.phase == .withheld) (·.openAt) = some h → h.phase = .withheld →
      Answers .openInstant s fun t => t.drv.ls = s.drv.ls ∧ t.drv.fw = s.drv.fw ∧ t.drv.strobe = s.drv.strobe ∧ t.vsn.jq = s.vsn.jq ++ [.shot h] ∧
        t.clk.now = s.clk.now + s.ticksTo h.openAt ∧ KeepsRegs s t [] ∧ SameMem s t) ∧
    (∀ h, s.firstShot (fun h => h.phase == .handed && h.boosts && !h.hbLead && !h.dry) (·.openAt) = some h →
      s.canDrive h.req.valve = true → s.hbHolder (bankOf h.req.valve) = 0 → s.chSt h.req.valve = 1 → s.bkSt (bankOf h.req.valve) = 1 →
      s.bit (Reg.BNK_CHFLT + 4 * h.req.valve) 4 = false →
      Answers .hbLead s fun t => t.drv.hb.getLsbD (bankOf h.req.valve) = true ∧ t.hbHolder (bankOf h.req.valve) = h.req.valve + 1 ∧ t.drv.ls = s.drv.ls ∧
        t.clk.now = s.clk.now + s.ticksTo (h.openAt - 4000) ∧ KeepsRegs s t [] ∧ SameMem s t)

/-- The phases of a running shot (R114 to R120): boost ends on its current or on T_BST_MAX at the latest, peak ends at open instant + T_PK, LS then staying as it is below the new phase's upper threshold and opening at or above it; at the lower chopping threshold LS closes, no sooner than 1/CHOP_FMAX after it last closed, at the upper one it opens and FW conducts, and between them nothing moves; release begins with LS open, and it ends with the channel's switches open, on T_REL_MAX at the latest, which RELX counts. A dry shot is over at its release start. -/
def Obligations.ShotPhasesFollow : Prop :=
  (∀ (s : State) (v : Fin 96) (h : Shot), s.sys.powered = true → s.cmd.coming = [] → s.runningShot v = some h →
    (h.dry = true → h.phase ≠ .release → Answers (.releaseStart v) s fun t => (∀ x ∈ t.trn.shots, x.id = h.id → x.phase = .done) ∧ t.drv.ls = s.drv.ls ∧ t.drv.fw = s.drv.fw ∧ KeepsRegs s t []) ∧
    (h.dry = false →
      (∀ dt c, h.phase = .boost →
        Answers (.boostEnd dt ⟨v, c⟩) s fun t => t.clk.now = s.clk.now + min dt (h.openTick + usTicks (pTBst h.executed) - s.clk.now) ∧
          (∃ x, t.runningShot v = some x ∧ x.id = h.id ∧ (x.phase = .peak ∨ x.phase = .hold)) ∧ t.hbHolder (bankOf v) ≠ v.val + 1 ∧
          KeepsRegs s t [Reg.PRF_BSTTO_CNT, Reg.PRF_BSTTO_CNT + 8, Reg.BNK_CHFLT + 4 * v] ∧ SameMem s t) ∧
      (∀ c, h.phase = .peak →
        Answers (.peakEnd ⟨v, c⟩) s fun t => t.clk.now = max s.clk.now (h.openTick + usTicks (pTPk h.executed)) ∧
          (∃ x, t.runningShot v = some x ∧ x.id = h.id ∧ x.phase = .hold) ∧
          (∀ i, c = some i → i < 4 * pIHld h.executed + 2 * pBand h.executed → t.drv.ls = s.drv.ls ∧ t.drv.fw = s.drv.fw) ∧
          (∀ i, c = some i → 4 * pIHld h.executed + 2 * pBand h.executed ≤ i → t.drv.ls.getLsbD v = false) ∧ KeepsRegs s t [Reg.PRF_BSTTO_CNT + 8] ∧ SameMem s t) ∧
      (h.phase ≠ .release →
        Answers (.releaseStart v) s fun t => (∃ x, t.runningShot v = some x ∧ x.id = h.id ∧ x.phase = .release) ∧ t.drv.ls.getLsbD v = false ∧ t.hbHolder (bankOf v) ≠ v.val + 1 ∧
          t.clk.now = s.clk.now + s.ticksTo h.relInst ∧ KeepsRegs s t [Reg.PRF_BSTTO_CNT + 8] ∧ SameMem s t) ∧
      (h.phase = .release →
        (∀ dt, Answers (.releaseEnd dt v) s fun t => (∀ x ∈ t.trn.shots, x.id = h.id → x.phase = .done) ∧ t.drv.ls.getLsbD v = false ∧ t.drv.fw.getLsbD v = false ∧
          t.drv.clamp.getLsbD v = false ∧ t.clk.now = s.clk.now + min dt (h.relStart + usTicks (pTRel h.executed) - s.clk.now)) ∧
        Answers (.relx v) s fun t => (∀ x ∈ t.trn.shots, x.id = h.id → x.phase = .done) ∧ t.drv.ls.getLsbD v = false ∧ t.drv.fw.getLsbD v = false ∧
          t.drv.clamp.getLsbD v = false ∧ t.reg (Reg.PRF_BSTTO_CNT + 4) = satInc (s.reg (Reg.PRF_BSTTO_CNT + 4)) ∧ t.clk.now = max s.clk.now (h.relStart + usTicks (pTRel h.executed))))) ∧
  (∀ (s0 : State) (v : Fin 96) (h : Shot) (dt cur : Nat), s0.sys.powered = true →
    let s := s0.pass (min dt 50)
    s.cmd.coming = [] → s.runningShot v = some h → h.dry = false → (h.phase = .peak ∨ h.phase = .hold) → s.canDrive v = true →
    (cur + 2 * pBand h.executed ≤ h.iset → Answers (.chopThreshold dt v cur) s0 fun t => t.drv.ls.getLsbD v = true ∧ KeepsRegs s t [] ∧ SameMem s t ∧
      (s.drv.ls.getLsbD v = false → t.drv.fw.getLsbD v = false ∧ (∀ n, storeGet (fun _ => 0) s.drv.lastClose v = n + 1 → n + ceilDiv 250000 (max 1 (pFMax h.executed)) ≤ t.clk.now))) ∧
    (h.iset < cur + 2 * pBand h.executed → h.iset + 2 * pBand h.executed ≤ cur → h.stepping = false →
      Answers (.chopThreshold dt v cur) s0 fun t => t.drv.ls.getLsbD v = false ∧ t.drv.fw.getLsbD v = true ∧ KeepsRegs s t [] ∧ SameMem s t) ∧
    (h.iset < cur + 2 * pBand h.executed → cur < h.iset + 2 * pBand h.executed → h.stepping = false →
      Answers (.chopThreshold dt v cur) s0 fun t => t.drv.ls = s.drv.ls ∧ t.drv.fw = s.drv.fw ∧ t.trn = s.trn ∧ KeepsRegs s t [] ∧ SameMem s t))

/-- LS and FW of one channel are never closed together (R107), and the memories stand in their canonical form: every step keeps both, whatever command stands in front and also where the queue is empty. -/
def Obligations.StepsKeepSwitchesApartAndMemoryCanonical : Prop :=
  ∀ s t : State, Sound s → step s = .next t → Sound t

/-- VBST and its faults (R121, R122, R164). Each reading is shown. Above VBST_SET + 3 V ABSORB begins and every fast decay that runs becomes a clamp at VBST_SET − 2 V; below VBST_SET + 2 V it ends and they decay fast again, unless OV1 holds them. OV1 stops the boost controller and clamps fast decays; at its end they decay fast again and the controller starts. OV2 opens every LS, FW and HB and takes ARMED, DRY and READY to SAFE. The undervoltage latch follows. -/
def Obligations.VbstRulesAct : Prop :=
  ∀ (s0 : State) (dt : Nat) (r : Rail), s0.sys.powered = true → r.vbst < 1024 →
    let s := s0.pass dt
    let set := 2 * s.rf Reg.PRF_VBST_SET 0 8
    let s1 := s.setVbst r.vbst
    let shown : State → Prop := fun t => t.rf Reg.PRF_VBST 0 10 = r.vbst ∧ t.slot 81 = ⟨0, w32 (16384 * r.vbst)⟩ ∧ ∀ n, n ≠ 81 → t.slot n = s.slot n
    let rail := [Reg.PRF_VBST, Reg.PRF_VBST_LOWEST, Reg.PRF_STAT, Reg.PRF_BSTTO_CNT + 8]
    (set + 12 < r.vbst → s.bit Reg.PRF_STAT 1 = false →
      Answers (.absorb dt r) s0 fun t => t.bit Reg.PRF_STAT 1 = true ∧ shown t ∧ t.drv.ls = s.drv.ls ∧ t.drv.fw = s.drv.fw ∧ t.drv.hb = s.drv.hb ∧ t.sys = s.sys ∧ KeepsRegs s t rail ∧
        ((s.trn.shots.map (·.id)).Nodup → ∀ v < 96, s.decaysFast v = true → t.drv.clamp.getLsbD v = true ∧ storeGet (fun _ => 0) t.drv.clampV v = set - 8)) ∧
    (set + 12 < r.vbst → s.bit Reg.PRF_STAT 1 = true → Answers (.absorb dt r) s0 fun t => t.bit Reg.PRF_STAT 1 = true ∧ shown t ∧ t.drv = s.drv ∧ t.sys = s.sys ∧ KeepsRegs s t rail) ∧
    (r.vbst < set + 8 → s.bit Reg.PRF_STAT 1 = true → s.bit Reg.PRF_VFLT 0 = false →
      Answers (.absorbEnd dt r) s0 fun t => t.bit Reg.PRF_STAT 1 = false ∧ shown t ∧ t.sys = s.sys ∧ t.trn = s.trn ∧ KeepsRegs s t rail ∧
        ∀ v < 96, if s1.absorbClamped v = true then t.chClosed v = false else t.drv.clamp.getLsbD v = s.drv.clamp.getLsbD v ∧ t.drv.ls.getLsbD v = s.drv.ls.getLsbD v) ∧
    (r.vbst < set + 8 → (s.bit Reg.PRF_STAT 1 = false ∨ s.bit Reg.PRF_VFLT 0 = true) →
      Answers (.absorbEnd dt r) s0 fun t => t.bit Reg.PRF_STAT 1 = false ∧ shown t ∧ t.drv = s.drv ∧ t.sys = s.sys ∧ t.trn = s.trn ∧ KeepsRegs s t rail) ∧
    Answers (.ov1 dt r) s0 (fun t => t.bit Reg.PRF_VFLT 0 = true ∧ t.sys = { s.sys with boostOn := false } ∧ shown t ∧ Raised t 0x0510 ∧ KeepsRegs s t (Reg.PRF_VFLT :: rail) ∧
      (set + 24 < r.vbst → t.drv.ls = s.drv.ls ∧ t.drv.fw = s.drv.fw) ∧
      ((s.trn.shots.map (·.id)).Nodup → ∀ v < 96, s.decaysFast v = true → t.drv.clamp.getLsbD v = true ∧ storeGet (fun _ => 0) t.drv.clampV v = set - 8)) ∧
    Answers (.ov1End dt r) s0 (fun t => t.bit Reg.PRF_VFLT 0 = false ∧ shown t ∧ t.sys.dev = s.sys.dev ∧ KeepsRegs s t (Reg.PRF_VFLT :: rail) ∧
      (s.bit Reg.PRF_VFLT 0 = false → t.sys = s.sys) ∧
      (s.bit Reg.PRF_VFLT 0 = true → r.vbst < set + 8 → ∀ v < 96, s1.absorbClamped v = true → t.chClosed v = false) ∧
      (s.bit Reg.PRF_VFLT 0 = true → (∃ b < 12, s.bankRole b = 1) → s.sys.dev ≠ .safe → s.sys.dev ≠ .boot → s.bit Reg.PWR_STAT 3 = false → s.sys.gaspDone = false →
        t.sys.boostOn = true ∧ t.sys.boostStart = t.clk.now)) ∧
    Answers (.ov2 dt r) s0 (fun t => t.bit Reg.PRF_VFLT 1 = true ∧ t.drv.ls = 0 ∧ t.drv.fw = 0 ∧ t.drv.hb = 0 ∧ t.drv.clamp = 0 ∧ shown t ∧
      ((s.sys.dev = .ready ∨ s.sys.dev = .armed ∨ s.sys.dev = .dry) → t.sys.dev = .safe ∧ t.sys.cause = 15 ∧ t.drv.hs = 0 ∧ t.sys.boostOn = false) ∧
      (s.sys.dev = .draining → t.sys.dev = .draining ∧ t.drv.hs = 0)) ∧
    (∀ b, Answers (.vbstUv dt r b) s0 fun t => t.bit Reg.PRF_VFLT 2 = true ∧ shown t ∧ Raised t 0x0511 ∧ t.sys = s.sys ∧ KeepsRegs s t (Reg.PRF_VFLT :: rail) ∧
      (r.vbst ≤ set → s.bit Reg.PRF_STAT 1 = false → t.drv = s.drv)) ∧
    Answers (.vbstUvEnd dt r) s0 (fun t => t.bit Reg.PRF_VFLT 2 = false ∧ shown t ∧ t.sys = s.sys ∧ KeepsRegs s t (Reg.PRF_VFLT :: rail) ∧
      (r.vbst ≤ set + 12 → s.bit Reg.PRF_STAT 1 = false → t.drv = s.drv))

/-- Enables (R130, R133 to R135): the registers take the values written; a channel of a bank with a role goes from OFF to ON when its bit is set and, its bit alone cleared, from ON to OFF where it rests and to DISABLING where it conducts, and from there to PENDING when it is set again; a bank goes from OFF to ON and, at rest, from ON to OFF with HS open. A dry write leaves no proportional channel of a dry bank driving. -/
def Obligations.EnablesMoveChannels : Prop :=
  ∀ (s : State), s.sys.powered = true →
    (∀ (k : Fin 3) (w : Word), Answers (.channelEnableWrite k w) s fun t => t.reg (Reg.BNK_CHEN + 4 * k) = w ∧
      (∀ j < 32, s.bankRole (bankOf (32 * k + j)) ≠ 0 → bitOf (s.reg (Reg.BNK_CHEN + 4 * k)) j = false → bitOf w j = true →
        (s.chSt (32 * k + j) = 0 → t.chSt (32 * k + j) = 1) ∧ (s.chSt (32 * k + j) = 2 → t.chSt (32 * k + j) = 3)) ∧
      (∀ j < 32, s.bankRole (bankOf (32 * k + j)) ≠ 0 → s.chSt (32 * k + j) = 1 → bitOf (s.reg (Reg.BNK_CHEN + 4 * k)) j = true →
        bitOf w j = false → (∀ i < 32, i ≠ j → bitOf w i = bitOf (s.reg (Reg.BNK_CHEN + 4 * k)) i) →
        if s.conducting (32 * k + j) = true then t.chSt (32 * k + j) = 2 else t.chSt (32 * k + j) = 0 ∧ t.drv.ls = s.drv.ls ∧ t.drv.fw = s.drv.fw)) ∧
    (∀ (w : Word), Answers (.bankEnableWrite w) s fun t => t.reg Reg.BNK_BKEN = w32 (fld w 0 12) ∧
      (∀ b < 12, s.bankRole b ≠ 0 → s.bkSt b = 0 → bitOf (s.reg Reg.BNK_BKEN) b = false → bitOf w b = true → t.bkSt b = 1) ∧
      (∀ b < 12, s.bankRole b ≠ 0 → s.bkSt b = 1 → bitOf (s.reg Reg.BNK_BKEN) b = true → bitOf w b = false →
        (∀ i < 12, i ≠ b → bitOf w i = bitOf (s.reg Reg.BNK_BKEN) i) → (∀ v ∈ valvesOf b, s.conducting v = false) →
        t.bkSt b = 0 ∧ t.drv.hs.getLsbD b = false ∧ t.drv.ls = s.drv.ls ∧ t.drv.fw = s.drv.fw ∧ Raised t 0x0403)) ∧
    (∀ (w : Word), Answers (.bankDryWrite w) s fun t => t.reg Reg.BNK_DRY = w32 (fld w 0 12) ∧ KeepsRegs s t [Reg.BNK_DRY] ∧ t.trn = s.trn ∧
      ((∀ b < 12, s.bankRole b ≠ 2) → t.drv = s.drv) ∧
      (s.flights = [] → ∀ v < 96, s.bankRole (bankOf v) = 2 → bitOf w (bankOf v) = true → t.chClosed v = false))

/-- Proportional channels (R128, R129): 46 µs after the beat start each channel of role 2 takes its set current from its source slot; at an edge the dither of a channel has the sign of the half period then under way, counted from the restart of its phase. -/
def Obligations.ProportionalSetAndDither : Prop :=
  ∀ (s : State), s.sys.powered = true → s.cmd.coming = [] →
    (∀ T, s.loop.propAt = some T → Answers .propSetUpdate s fun t => t.loop.propAt = none ∧ t.clk.now = s.clk.now + s.ticksTo T ∧
      (∀ v < 96, s.bankRole (bankOf v) = 2 → t.reg (Reg.BNK_PSET + 4 * v) = w32 (s.propCurrent v (s.route (24 + v)))) ∧
      t.drv.ls = s.drv.ls ∧ t.drv.fw = s.drv.fw ∧ KeepsRegs s t (run Reg.BNK_PSET 96) ∧ SameMem s t) ∧
    (∀ v : Fin 96, s.bankRole (bankOf v) = 2 → s.bankByte (bankOf v) 6 1 ≠ 0 →
      Answers (.ditherEdge v) s fun t => t.drv.dithNeg.getLsbD v = ((t.clk.now - s.drv.dithFrom) * s.bankByte (bankOf v) 6 1 / 12500000 % 2 == 1) ∧
        (∀ u < 96, u ≠ v.val → t.drv.dithNeg.getLsbD u = s.drv.dithNeg.getLsbD u) ∧ t.clk.now < storeGet (fun _ => 0) t.drv.dithNext v ∧
        t.clk.now = max s.clk.now (storeGet (fun _ => 0) s.drv.dithNext v) ∧ t.drv.ls = s.drv.ls ∧ t.drv.fw = s.drv.fw ∧ KeepsRegs s t [] ∧ SameMem s t)

/-! ### Drive-path faults (08) -/

/-- Channel faults (R163, R164): the fault's bit latches and the channel's switches open, STUCKON opening every channel of its bank and HS; overcurrent within 5 µs of the conduction is a SHORT; a boost-timeout fault latches without opening anything, once; the open-load test shows its result on its instant. -/
def Obligations.ChannelFaultsLatchAndOpen : Prop :=
  (∀ (s0 : State) (v : Fin 96) (dt i : Nat), s0.sys.powered = true →
    let s := s0.pass dt
    (∀ lat, s.cmd.coming = [] → Answers (.overcurrent dt v lat i) s0 fun t => t.bit (Reg.BNK_CHFLT + 4 * v) (if s.conductsNew v = true then 1 else 0) = true ∧
      t.drv.ls.getLsbD v = false ∧ t.drv.fw.getLsbD v = false ∧ t.drv.clamp.getLsbD v = false ∧ t.bit (Reg.BNK_CHFLT + 4 * v) 6 = true ∧ t.clk.now = s.clk.now + min lat 250 ∧ t.sys = s.sys) ∧
    Answers (.stuckon dt v i) s0 (fun t => t.bit (Reg.BNK_CHFLT + 4 * v) 3 = true ∧ (∀ u ∈ valvesOf (bankOf v), t.drv.ls.getLsbD u = false ∧ t.drv.fw.getLsbD u = false) ∧
      t.drv.hs.getLsbD (bankOf v) = false ∧ t.drv.hb.getLsbD (bankOf v) = false ∧ Raised t 0x0410 ∧ t.sys = s.sys)) ∧
  (∀ (s : State) (v : Fin 96), s.sys.powered = true →
    (∀ c, s.ef Reg.BNK_FLT_CFG 0 4 ≤ s.rf (Reg.BNK_CHFLT + 4 * v) 8 4 → s.bit (Reg.BNK_CHFLT + 4 * v) 4 = false →
      Answers (.boostTimeoutFault v c) s fun t => t.bit (Reg.BNK_CHFLT + 4 * v) 4 = true ∧ Raised t 0x0410 ∧ t.drv = s.drv ∧ t.trn = s.trn ∧ KeepsRegs s t [Reg.BNK_CHFLT + 4 * v] ∧ SameMem s t) ∧
    (∀ c, (s.rf (Reg.BNK_CHFLT + 4 * v) 8 4 < s.ef Reg.BNK_FLT_CFG 0 4 ∨ s.bit (Reg.BNK_CHFLT + 4 * v) 4 = true) →
      Answers (.boostTimeoutFault v c) s fun t => t.drv = s.drv ∧ t.trn = s.trn ∧ OnlyRegs s t ∧ KeepsRegs s t []) ∧
    (∀ c, s.ef Reg.BNK_FLT_CFG 4 4 ≤ s.rf (Reg.BNK_CHFLT + 4 * v) 12 4 → s.bit (Reg.BNK_CHFLT + 4 * v) 5 = false →
      Answers (.releaseOverrunFault v c) s fun t => t.bit (Reg.BNK_CHFLT + 4 * v) 5 = true ∧ Raised t 0x0410 ∧ t.drv.ls.getLsbD v = false ∧ t.drv.fw.getLsbD v = false ∧ t.sys = s.sys) ∧
    (∀ c, (s.rf (Reg.BNK_CHFLT + 4 * v) 12 4 < s.ef Reg.BNK_FLT_CFG 4 4 ∨ s.bit (Reg.BNK_CHFLT + 4 * v) 5 = true) →
      Answers (.releaseOverrunFault v c) s fun t => t.drv = s.drv ∧ t.trn = s.trn ∧ OnlyRegs s t ∧ KeepsRegs s t []) ∧
    (∀ cur n, s.cmd.coming = [] → s.olTick v = some n → Answers (.openLoad v cur) s fun t => t.bit (Reg.BNK_CHFLT + 4 * v) 2 = decide (cur < 50) ∧
      t.bit (Reg.VSN_VSTAT + 4 * v) 3 = decide (cur < 50) ∧ t.drv.openRep.getLsbD v = decide (cur < 50) ∧ t.clk.now = max s.clk.now n ∧ t.drv.ls = s.drv.ls ∧ t.trn.shots = s.trn.shots) ∧
    (∀ cur, s.olTick v = none → Answers (.openLoad v cur) s fun t => t.clk = s.clk ∧ OnlyRegs s t ∧ KeepsRegs s t []))

/-- Bank, die and enable faults (R163, R164): HB, HS and VLS faults open every switch of the bank; a die's shutdown latches and opens its four banks; link loss and DRV_EN act on the device state as well; warnings and recoveries follow. -/
def Obligations.BankAndDieFaultsAct : Prop :=
  ∀ (s0 : State) (dt : Nat), s0.sys.powered = true →
    let s := s0.pass dt
    (∀ b : Fin 12, Answers (.hbFault dt b) s0 fun t => t.bit (Reg.BNK_BKFLT + 4 * b) 0 = true ∧ t.drv.hb.getLsbD b = false ∧ t.drv.hs.getLsbD b = false ∧
      (∀ u ∈ valvesOf b, t.drv.ls.getLsbD u = false ∧ t.drv.fw.getLsbD u = false) ∧ Raised t 0x0412 ∧ t.sys = s.sys) ∧
    (∀ b : Fin 12, Answers (.hsFault dt b) s0 fun t => t.bit (Reg.BNK_BKFLT + 4 * b) 1 = true ∧ t.drv.hb.getLsbD b = false ∧ t.drv.hs.getLsbD b = false ∧
      (∀ u ∈ valvesOf b, t.drv.ls.getLsbD u = false ∧ t.drv.fw.getLsbD u = false) ∧ Raised t 0x0412 ∧ t.sys = s.sys) ∧
    (∀ (b : Fin 12) q, Answers (.vlsUndervoltage dt b q) s0 fun t => t.bit (Reg.BNK_BKFLT + 4 * b) 2 = true ∧ t.drv.hb.getLsbD b = false ∧ t.drv.hs.getLsbD b = false ∧
      (∀ u ∈ valvesOf b, t.drv.ls.getLsbD u = false ∧ t.drv.fw.getLsbD u = false) ∧ (t.slot (82 + b)).val = w32i ((q : Int) * 16384) ∧ Raised t 0x0412) ∧
    (∀ (b : Fin 12) q, Answers (.vlsRecover dt b q) s0 fun t => t.bit (Reg.BNK_BKFLT + 4 * b) 2 = false ∧ (t.slot (82 + b)).val = w32i ((q : Int) * 16384) ∧ t.drv.ls = s.drv.ls) ∧
    (∀ (d : Fin 3) x, Answers (.dieTempWarning dt d x) s0 fun t => t.bit Reg.BNK_DIEFLT d = true ∧ (t.slot (96 + d)).val = w32i (x * 8192) ∧ Raised t 0x0413 ∧ t.drv = s.drv) ∧
    (∀ (d : Fin 3) x, Answers (.dieTempWarningEnd dt d x) s0 fun t => t.bit Reg.BNK_DIEFLT d = false ∧ (t.slot (96 + d)).val = w32i (x * 8192) ∧ t.drv = s.drv) ∧
    (∀ (d : Fin 3) x, Answers (.dieTempShutdown dt d x) s0 fun t => t.bit Reg.BNK_DIEFLT (4 + d) = true ∧ Raised t 0x0413 ∧
      ∀ b ∈ banksOf d, t.bit (Reg.BNK_BKFLT + 4 * b) 3 = true ∧ t.drv.hb.getLsbD b = false ∧ t.drv.hs.getLsbD b = false ∧ ∀ u ∈ valvesOf b, t.drv.ls.getLsbD u = false) ∧
    (∀ (d : Fin 3) h, Answers (.dieLinkLoss dt d h) s0 fun t => t.bit Reg.BNK_DIEFLT (8 + d) = true ∧ t.drv.linkUp.getLsbD d = false ∧ Raised t 0x0414 ∧
      (∀ b ∈ banksOf d, ∀ u ∈ valvesOf b, t.drv.ls.getLsbD u = false) ∧ ((s.sys.dev = .ready ∨ s.sys.dev = .armed ∨ s.sys.dev = .dry) → t.sys.dev = .safe)) ∧
    (∀ d : Fin 3, Answers (.dieLinkResync dt d) s0 fun t => t.drv.linkUp.getLsbD d = true ∧ t.drv.ls = s.drv.ls ∧ t.drv.hs = s.drv.hs ∧ t.sys = s.sys ∧ KeepsRegs s t []) ∧
    Answers (.drvEnLow dt) s0 (fun t => t.bit Reg.BNK_DIEFLT 12 = true ∧ t.bit Reg.BNK_DIEFLT 13 = true ∧ t.drv.ls = 0 ∧ t.drv.fw = 0 ∧ t.drv.hb = 0 ∧ t.sys.drvEnLow = true ∧
      Raised t 0x0415 ∧ t.sys.dev = (if s.sys.dev = .armed ∨ s.sys.dev = .dry then .safe else s.sys.dev)) ∧
    Answers (.drvEnHigh dt) s0 (fun t => t.bit Reg.BNK_DIEFLT 12 = false ∧ t.bit Reg.BNK_DIEFLT 13 = s.bit Reg.BNK_DIEFLT 13 ∧ t.sys.drvEnLow = false ∧ t.drv = s.drv ∧
      KeepsRegs s t [Reg.BNK_DIEFLT])

/-- Clearing a channel's faults (R166): a write of 1 asks for the clear of each set bit, which crosses to the dies as a write in flight, and changes no register; it takes effect once the channels concerned carry no current, and clears what was asked but the bits whose condition still holds. An OV2 clear is asked for only at or below 82.0 V. -/
def Obligations.FaultClearTakesEffectLater : Prop :=
  (∀ (s : State) (v : Fin 96) (w : Word), s.sys.powered = true →
    (let bits := w.toNat &&& 0x3B &&& (s.reg (Reg.BNK_CHFLT + 4 * v)).toNat;
      (bits = 0 → Answers (.faultClear (Reg.BNK_CHFLT + 4 * v) w) s fun t => t.flights = s.flights ∧ OnlyRegs s t ∧ KeepsRegs s t []) ∧
      (bits ≠ 0 → Answers (.faultClear (Reg.BNK_CHFLT + 4 * v) w) s fun t => KeepsRegs s t [] ∧ t.drv = s.drv ∧ t.trn = s.trn ∧
        ∃ f, t.flights = s.flights ++ [f] ∧ f.dom = .drv ∧ f.addr = Reg.BNK_CHFLT + 4 * v ∧ f.data = w32 bits ∧ f.issued = s.clk.now)) ∧
    (bitOf w 1 = true → s.bit Reg.PRF_VFLT 1 = true → s.vbst ≤ 328 → Answers (.faultClear Reg.PRF_VFLT w) s fun t => KeepsRegs s t [] ∧ t.drv = s.drv ∧
      ∃ f, t.flights = s.flights ++ [f] ∧ f.dom = .drv ∧ f.addr = Reg.PRF_VFLT ∧ f.data = 2) ∧
    ((bitOf w 1 = false ∨ s.bit Reg.PRF_VFLT 1 = false ∨ 328 < s.vbst) → Answers (.faultClear Reg.PRF_VFLT w) s fun t => t.flights = s.flights ∧ OnlyRegs s t ∧ KeepsRegs s t []) ∧
    (∀ f fs dt, s.cmd.coming = [] → takeFlight .drv s.flights = some (f, fs) → f.addr = Reg.BNK_CHFLT + 4 * v → f.dom = .drv →
      Answers (.registerEffect dt .drv) s fun t => t.flights = fs ∧ t.drv.clears = s.drv.clears ++ [⟨f.addr, f.data.toNat, f.issued⟩] ∧
        t.clk.now = s.clk.now + min dt (f.issued + 400 - s.clk.now) ∧ KeepsRegs s t [])) ∧
  (∀ (s0 : State) (v : Fin 96) (dt : Nat) (on : StillOn), s0.sys.powered = true →
    let s := s0.pass (s0.clearWait dt)
    (∀ c cs, s.drv.clears = c :: cs → s.clearReady c = true → c.addr = Reg.BNK_CHFLT + 4 * v →
      Answers (.faultClearEffect dt on) s0 fun t => t.drv.clears = cs ∧ t.drv.ls = s.drv.ls ∧ t.drv.fw = s.drv.fw ∧ t.sys = s.sys ∧
        (∀ i ∈ [0, 1, 3, 4, 5], t.bit (Reg.BNK_CHFLT + 4 * v) i = (s.bit (Reg.BNK_CHFLT + 4 * v) i && !(c.bits.testBit i && !(decide (i < 4) && on.bits.testBit i)))) ∧
        (∀ i ∈ [0, 1, 3, 4, 5], c.bits.testBit i = true → s.bit (Reg.BNK_CHFLT + 4 * v) i = true → t.bit (Reg.BNK_CHFLT + 4 * v) i = false → Raised t 0x0416) ∧
        (∀ i ∈ [0, 1, 3], c.bits.testBit i = true → on.bits.testBit i = true → Raised t 0x0410)) ∧
    ((∀ c ∈ s.drv.clears, s.clearReady c = false) → Answers (.faultClearEffect dt on) s0 fun t => t.drv = s.drv ∧ OnlyRegs s t ∧ KeepsRegs s t []))

/-! ### The valve as its own sensor (07) -/

/-- Learning (R141, R142, R145, R147 to R149): an arrival confirmed on valid slopes gives the shot its measured delay; a learnable shot moves its entry by 1/16 of the difference, rounded to nearest, no later than 4 µs after the confirming sample, unless a host write of the entry takes effect on the same tick; software writes an entry up to 64,000, and a larger value is not performed. -/
def Obligations.LearningFollowsTheShot : Prop :=
  (∀ (s0 : State) (v : Fin 96) (h : Shot) (dt m : Nat), s0.sys.powered = true →
    let s := s0.pass (s0.learnWait dt v)
    s.runningShot v = some h → h.arr = some m → s.learnable h = true → h.learned = none → 1 ≤ h.xprof → h.xprof ≤ 31 →
      ((s.vsn.hostTick ≠ s.clk.now ∨ ldIdx v h.xprof ∉ s.vsn.hostIdx) →
        Answers (.learnUpdate dt v) s0 fun t => (t.learnL v h.xprof : Int) = max 0 (min 64000 ((s.learnL v h.xprof : Int) + (16 * (m : Int) - s.learnL v h.xprof + 8) / 16)) ∧
          t.reg (Reg.VSN_JDROP + 0x14) = satInc (s.reg (Reg.VSN_JDROP + 0x14)) ∧ (∃ x, t.runningShot v = some x ∧ x.id = h.id ∧ x.learned = some (t.learnL v h.xprof)) ∧
          KeepsRegs s t [Reg.VSN_DELAY + 4 * ldIdx v h.xprof, Reg.VSN_JDROP + 0x14] ∧ SameMem s t) ∧
      (s.vsn.hostTick = s.clk.now → ldIdx v h.xprof ∈ s.vsn.hostIdx →
        Answers (.learnUpdate dt v) s0 fun t => t.reg (Reg.VSN_JDROP + 0x18) = satInc (s.reg (Reg.VSN_JDROP + 0x18)) ∧ KeepsRegs s t [Reg.VSN_JDROP + 0x18] ∧ SameMem s t)) ∧
  (∀ (s : State), s.sys.powered = true →
    (∀ (v : Fin 96) (h : Shot) (xs : List Sample) k m,
      let found := detect (fld (s.eff Reg.VSN_ARR_CFG) 0 8) (fld (s.eff Reg.VSN_ARR_CFG) 8 8) (fld (s.eff Reg.VSN_ARR_CFG) 16 3) h.window
        (s.slopeOk v h.openTick h.executed fun j => ((xs[j]?).getD ⟨0, 0⟩).vn) xs
      s.cmd.coming = [] → s.runningShot v = some h → h.dry = false → h.arr = none → found.out = some k → found.gmin = some m →
      Answers (.arrival v xs) s fun t => (∃ x, t.runningShot v = some x ∧ x.id = h.id ∧ x.arr = some (max 1 (min 4000 (m.2.2 - 2))) ∧ x.dflags.testBit 8 = true ∧ x.confirm = h.openTick + 125 * k) ∧
        t.clk.now = max s.clk.now (h.openTick + 125 * k) ∧ KeepsRegs s t [Reg.VSN_JDROP + 0xC] ∧ SameMem s t) ∧
    (∀ (n : Nat) (w : Word), n < 2976 → fld w 0 16 ≤ 64000 →
      Answers (.delayWrite false n w) s (fun t => t.rf (Reg.VSN_DELAY + 4 * n) 0 16 = fld w 0 16 ∧ (∀ k < 2976, k ≠ n → t.reg (Reg.VSN_DELAY + 4 * k) = s.reg (Reg.VSN_DELAY + 4 * k)) ∧
        t.vsn.hostTick = s.clk.now ∧ n ∈ t.vsn.hostIdx ∧ (∀ x ∈ t.vsn.learnt, x.1 = s.clk.now ∧ x.2.1 ≠ n) ∧ t.drv = s.drv ∧ SameMem s t) ∧
      Answers (.savedWrite false n w) s (fun t => t.rf (Reg.VSN_SAVED + 4 * n) 0 16 = fld w 0 16 ∧ t.bit Reg.VSN_LD_CTL 6 = true ∧ KeepsRegs s t [Reg.VSN_SAVED + 4 * n, Reg.VSN_LD_CTL])) ∧
    (∀ (n : Nat) (w : Word), n < 2976 → 64000 < fld w 0 16 →
      Answers (.delayWrite false n w) s (fun t => OnlyRegs s t ∧ KeepsRegs s t []) ∧ Answers (.savedWrite false n w) s (fun t => OnlyRegs s t ∧ KeepsRegs s t [])) ∧
    (∀ (k : Nat) (w : Word), k < 3 →
      Answers (.delayWrite true k w) s (fun t => t.reg (Reg.VSN_FAILED + 4 * k) = w ∧ (∀ j < 32, t.bit (Reg.VSN_VSTAT + 4 * (32 * k + j)) 5 = bitOf w j) ∧
        t.trn.shots = s.trn.shots ∧ t.drv = s.drv ∧ KeepsRegs s t ((Reg.VSN_FAILED + 4 * k) :: run (Reg.VSN_VSTAT + 128 * k) 32) ∧ SameMem s t) ∧
      Answers (.savedWrite true k w) s (fun t => t.reg (Reg.VSN_SFAILED + 4 * k) = w ∧ t.bit Reg.VSN_LD_CTL 6 = true ∧ KeepsRegs s t [Reg.VSN_SFAILED + 4 * k, Reg.VSN_LD_CTL])))

/-- The table operations (R149), each while its tables are not busy: RESET_ALL and RESET_V set live states to 16 × DELAY0, SAVE and RESTORE copy between the live and the saved table, RESTORE needing SAVED, and REFSET sets the reference from the live table. -/
def Obligations.LearnedTableOperations : Prop :=
  ∀ (s : State), s.sys.powered = true → s.vsn.liveBusy ≤ s.clk.now → s.vsn.savedBusy ≤ s.clk.now → s.vsn.refBusy ≤ s.clk.now →
    Answers .resetAll s (fun t => (∀ n < 2976, t.reg (Reg.VSN_DELAY + 4 * n) = w32 (16 * s.sx 4 (208 + 2 * n) 2) ∧ t.reg (Reg.VSN_SAVED + 4 * n) = s.reg (Reg.VSN_SAVED + 4 * n)) ∧
      t.vsn.liveBusy = s.clk.now + 10000) ∧
    (∀ v : Fin 96, Answers (.resetV v) s fun t => (∀ n < 2976, t.reg (Reg.VSN_DELAY + 4 * n) =
      if 31 * v.val ≤ n ∧ n < 31 * v.val + 31 then w32 (16 * s.sx 4 (208 + 2 * n) 2) else s.reg (Reg.VSN_DELAY + 4 * n)) ∧ t.rf Reg.VSN_LD_CTL 8 7 = v) ∧
    Answers .save s (fun t => (∀ n < 2976, t.rf (Reg.VSN_SAVED + 4 * n) 0 16 = s.rf (Reg.VSN_DELAY + 4 * n) 0 16) ∧ (∀ k < 3, t.reg (Reg.VSN_SFAILED + 4 * k) = s.reg (Reg.VSN_FAILED + 4 * k)) ∧
      t.bit Reg.VSN_LD_CTL 6 = true ∧ ∀ n < 2976, t.reg (Reg.VSN_DELAY + 4 * n) = s.reg (Reg.VSN_DELAY + 4 * n)) ∧
    (s.bit Reg.VSN_LD_CTL 6 = true → Answers .restore s fun t => ∀ n < 2976, t.rf (Reg.VSN_DELAY + 4 * n) 0 16 = s.rf (Reg.VSN_SAVED + 4 * n) 0 16) ∧
    (s.bit Reg.VSN_LD_CTL 6 = false → Answers .restore s fun t => OnlyRegs s t ∧ KeepsRegs s t []) ∧
    Answers .refset s (fun t => ∀ n < 2976, t.rf (Reg.VSN_REF + 4 * n) 0 16 = s.rf (Reg.VSN_DELAY + 4 * n) 0 16 ∧ t.reg (Reg.VSN_DELAY + 4 * n) = s.reg (Reg.VSN_DELAY + 4 * n))

/-- The journal and captures (R150, R151, R154 to R157): a record stands whole at its index in the journal ring with its sequence number, which advances even when the record is dropped; RESTART works in READY alone; ARM names its valve; a capture whose record is still to come waits in its engine, and one whose record is written goes with it into its slot, or is counted as missed where no slot is free. -/
def Obligations.JournalAndCaptures : Prop :=
  (∀ (s0 : State) (dt : Nat), s0.sys.powered = true →
    let s := s0.pass dt
    (∀ (c : Cmd) (inst : Int) (js : List JItem) i, s.vsn.jq = .marker c inst :: js → 0 < s.jrnLen →
      (s.bit Reg.VSN_JCTL 0 = false →
        Answers (.journalWrite dt ⟨false, i⟩) s0 fun t => t.vsn.jq = js ∧ t.reg Reg.VSN_JSEQ = s.reg Reg.VSN_JSEQ + 1 ∧
          t.reg Reg.VSN_JWR = w32 (if s.jIdx + 1 < s.jrnLen then s.jIdx + 1 else 0) ∧
          (∀ i < 4, t.dramByte (64 * s.jIdx + i) = (leBytes 4 (s.reg Reg.VSN_JSEQ).toNat).getD i 0) ∧
          (∀ i < 60, t.dramByte (64 * s.jIdx + 4 + i) = (markerBody c inst).getD i 0) ∧
          (∀ a, a < 64 * s.jIdx ∨ 64 * s.jIdx + 64 ≤ a → t.dramByte a = s.dramByte a) ∧ KeepsRegs s t [Reg.VSN_JSEQ, Reg.VSN_JWR, Reg.VSN_JDROP + 8]) ∧
      (s.bit Reg.VSN_JCTL 0 = true → (if s.jIdx + 1 < s.jrnLen then s.jIdx + 1 else 0) = s.rf Reg.VSN_JRD 0 25 →
        Answers (.journalWrite dt ⟨false, i⟩) s0 fun t => t.vsn.jq = js ∧ t.reg Reg.VSN_JSEQ = s.reg Reg.VSN_JSEQ + 1 ∧ t.reg Reg.VSN_JDROP = satInc (s.reg Reg.VSN_JDROP) ∧
          SameMem s t ∧ KeepsRegs s t [Reg.VSN_JSEQ, Reg.VSN_JDROP]) ∧
      Answers (.journalWrite dt ⟨true, i⟩) s0 fun t => t.vsn.jq = js ∧ t.reg Reg.VSN_JSEQ = s.reg Reg.VSN_JSEQ + 1 ∧ t.reg (Reg.VSN_JDROP + 4) = satInc (s.reg (Reg.VSN_JDROP + 4)) ∧
        SameMem s t ∧ KeepsRegs s t [Reg.VSN_JSEQ, Reg.VSN_JDROP + 4]) ∧
    (∀ (i : Fin 4) (e : CapEng) (xs : List (BitVec 12)) (from_ : Nat), s.cmd.coming = [] → s.vsn.engines.length = 4 → s.vsn.engines.getD i none = some e → e.openTick = some from_ →
      (e.record = none → Answers (.captureDone dt i xs) s0 fun t => (∃ ys, ys.length = 512 ∧ t.vsn.engines.getD i none = some { e with samples := some ys }) ∧
        t.clk.now = max s.clk.now (e.lastTick from_) ∧ SameMem s t ∧ KeepsRegs s t []) ∧
      (∀ r, e.record = some r → r.1.length = 64 → s.capRoom = true →
        Answers (.captureDone dt i xs) s0 fun t => t.vsn.engines.getD i none = none ∧ t.clk.now = max s.clk.now (e.lastTick from_) ∧
          t.reg Reg.VSN_CAP_SEQ = s.reg Reg.VSN_CAP_SEQ + 1 ∧ t.rf Reg.VSN_CAP_WR 0 13 = s.capNext % 2 ^ 13 ∧
          (∀ k < 64, t.dramByte (0x80000000 + 2048 * s.capIdx + k) = (flagRecord r.1 12 ((s.reg Reg.VSN_CAP_SEQ).toNat % 65536)).getD k 0) ∧
          (∀ k < 512, ∀ j < 2, t.dramByte (0x80000000 + 2048 * s.capIdx + 64 + 2 * k + j) =
            (leBytes 2 ((((s.reachTick (e.lastTick from_)).capWords e.valve from_ e.dec e.pre r.2.2 xs).getD k 0).toNat)).getD j 0) ∧ KeepsRegs s t [Reg.VSN_CAP_SEQ, Reg.VSN_CAP_WR]) ∧
      (∀ r, e.record = some r → s.capRoom = false →
        Answers (.captureDone dt i xs) s0 fun t => t.vsn.engines.getD i none = none ∧ t.reg Reg.VSN_CAP_MISS = satInc (s.reg Reg.VSN_CAP_MISS) ∧ KeepsRegs s t [Reg.VSN_CAP_MISS]))) ∧
  (∀ (s : State), s.sys.powered = true →
    (s.sys.dev = .ready → Answers .journalRestart s fun t => t.reg Reg.VSN_JWR = 0 ∧ t.reg Reg.VSN_JRD = 0 ∧ OnlyRegs s t ∧ KeepsRegs s t [Reg.VSN_JWR, Reg.VSN_JRD]) ∧
    (s.sys.dev ≠ .ready → Answers .journalRestart s fun t => OnlyRegs s t ∧ KeepsRegs s t []) ∧
    (∀ v : Fin 96, Answers (.captureArm v) s fun t => t.bit Reg.VSN_CAP_CTL 0 = true ∧ t.rf Reg.VSN_CAP_CTL 8 7 = v ∧ OnlyRegs s t ∧ KeepsRegs s t [Reg.VSN_CAP_CTL]))

/-! ### Recorder (16) -/

/-- RECORD_WRITE of an event that does not merge (R320, R323, R324), the events of the tick having reached the recorder's queue: its 32 bytes stand in the next good founding slot and in the next good circulating slot, both positions advance, and nothing else of the Kennel changes but the position copies. While a freeze lasts nothing is written (R329). -/
def Obligations.RecordWrittenToBothAreas : Prop :=
  ∀ (s0 : State) (dt : Nat), s0.sys.powered = true →
    let s1 := s0.pass (min dt 12500)
    let s := s1.settle
    s1.cmd.coming = [] → s.rcd.started = true →
    (∀ (e : Event) (es : List Event), s.rcd.own = [] → s.rcd.queue = e :: es → e.args.length = 8 → s.bit Reg.REC_STAT 0 = false → s.bit Reg.REC_STAT 2 = false →
      s.rcd.clrPend = false → { s with rcd := { s.rcd with queue := es } }.merged e = none → s.mediumCause = 0 → s.rf Reg.REC_FIDX 0 12 < 2048 → s.rf Reg.REC_POS 0 16 < 65536 →
      s.badSlot (s.rf Reg.REC_FIDX 0 12) = false → s.badSlot (2048 + s.rf Reg.REC_POS 0 16) = false →
      Answers (.recordWrite dt ⟨[], 0, false⟩) s0 fun t =>
        (∀ i < 32, t.kenByte (32 * s.rf Reg.REC_FIDX 0 12 + i) = (recBytes e).getD i 0) ∧ (∀ i < 32, t.kenByte (32 * (2048 + s.rf Reg.REC_POS 0 16) + i) = (recBytes e).getD i 0) ∧
        t.reg Reg.REC_FIDX = w32 (s.rf Reg.REC_FIDX 0 12 + 1) ∧ t.reg Reg.REC_POS = w32 ((s.rf Reg.REC_POS 0 16 + 1) % 65536) ∧
        (∀ a < 0x210000, a / 32 ≠ s.rf Reg.REC_FIDX 0 12 → a / 32 ≠ 2048 + s.rf Reg.REC_POS 0 16 → t.kenByte a = s.kenByte a) ∧ (∀ a, t.dramByte a = s.dramByte a)) ∧
    (s.bit Reg.REC_STAT 0 = true → Answers (.recordWrite dt ⟨[], 0, false⟩) s0 fun t => SameMem s t ∧ KeepsRegs s t [] ∧ t.rcd = s.rcd)

/-- The recorder's own time and state (R328 to R330, R332, R338): freeze, thaw and their limit; one operating second a second; a position copy every 60 s into the copy not written last; REC_LOST once there is room; a failed medium shows its cause in the failure word. -/
def Obligations.RecorderKeepsItsState : Prop :=
  (∀ (s : State), s.sys.powered = true → s.cmd.coming = [] →
    (s.rcd.clrPend = false → s.rcd.frozenAt = none → Answers .recFreeze s fun t => t.rcd.frozenAt = some s.clk.now ∧ t.bit Reg.REC_FREEZE 0 = true ∧ t.kennel = s.kennel) ∧
    (s.rcd.clrPend = true → Answers .recFreeze s fun t => KeepsRegs s t [] ∧ t.rcd.frozenAt = s.rcd.frozenAt) ∧
    (∀ k, s.rcd.frozenAt = some k → Answers .recThaw s (fun t => t.rcd.frozenAt = none ∧ t.bit Reg.REC_FREEZE 0 = false ∧ t.clk.now = s.clk.now ∧ Raised t 0x0F08) ∧
      Answers .freezeExpire s (fun t => t.rcd.frozenAt = none ∧ t.bit Reg.REC_FREEZE 0 = false ∧ t.clk.now = max s.clk.now (k + s.freezeMax) ∧ Raised t 0x0F08)) ∧
    Answers .opsecTick s (fun t => t.rcd.opsec = min (2 ^ 40 - 1) (s.rcd.opsec + 1) ∧ t.clk.now = max s.clk.now (s.rcd.opsecTick + 250000000) ∧ KeepsRegs s t []) ∧
    (s.rcd.started = true → Answers (.positionPersist false) s fun t => t.rcd.gen = (s.rcd.gen + 1) % 2 ^ 32 ∧ t.rcd.genCopy = 1 - s.rcd.genCopy ∧
      (∀ i < 4, t.kenByte (posBase (1 - s.rcd.genCopy) + i) = (leBytes 4 ((s.rcd.gen + 1) % 2 ^ 32)).getD i 0) ∧
      (∀ a, a < posBase (1 - s.rcd.genCopy) ∨ posBase (1 - s.rcd.genCopy) + 64 ≤ a → t.kenByte a = s.kenByte a) ∧ t.clk.now = max s.clk.now (s.rcd.persistTick + 15000000000)) ∧
    (s.bus = [] → s.region10 + 32 ≤ 524288 → s.rcd.lostRun ≠ 0 → s.rcd.queue.length < 256 → Answers .recLost s fun t => t.rcd.lostRun = 0 ∧
      ∃ e, t.rcd.queue = s.rcd.queue ++ [e] ∧ e.code = 0x0F05 ∧ e.args = leBytes 4 s.rcd.lostRun ++ leBytes 4 s.rcd.lostEseq)) ∧
  (∀ (s0 : State) dt, s0.sys.powered = true →
    let s := s0.pass dt
    s.rcd.started = true → s.bit Reg.REC_STAT 2 = false → s.rcd.own = [] → s.rcd.queue = [] →
      Answers (.logMediumFailed dt false) s0 fun t => t.reg Reg.PWR_RET0 = w32 (1 + 256 * (s.rcd.pcyc % 2 ^ 24)) ∧ t.reg Reg.REC_MEDFAIL = t.reg Reg.PWR_RET0 ∧
        t.rf Reg.REC_MIRPOS 0 15 = 1 ∧ (∀ a < 0x210000, t.kenByte a = s.kenByte a))

/-- Reading and clearing the log (R334 to R336): REC_DATA0 latches the selected slot, REC_DATA7 steps the cursor under AUTO; a challenge is answered with a nonce until it expires; CLEAR with the right response starts the erase, with a wrong one it is denied; the erase ends, a host's clear with its record; the clear key is programmed once. -/
def Obligations.RecorderReadAndCleared : Prop :=
  (∀ (s : State), s.sys.powered = true → s.cmd.coming = [] →
    Answers (.recDataRead 0) s (fun t => t.shm.last.data = [w32 (leAt s.cursorSlot.1 0 4)] ∧ t.bit Reg.REC_CURSOR 24 = recValid s.cursorSlot.1 ∧
      t.bit Reg.REC_CURSOR 25 = s.cursorSlot.2 ∧ t.bit Reg.REC_CURSOR 26 = isEmptyRec s.cursorSlot.1 ∧ KeepsRegs s t [Reg.REC_CURSOR] ∧ SameMem s t) ∧
    Answers (.recDataRead 7) s (fun t => t.shm.last.data = [s.rcd.curData.getD 7 0] ∧
      t.rf Reg.REC_CURSOR 0 17 = (if s.bit Reg.REC_CURSOR 19 then (s.rf Reg.REC_CURSOR 0 17 + 1) % areaLen (s.rf Reg.REC_CURSOR 17 2) else s.rf Reg.REC_CURSOR 0 17) ∧ SameMem s t) ∧
    (s.bit Reg.REC_CKEY_CTL 1 = true → s.rcd.lockUntil ≤ s.clk.now → Answers .recChal s fun t => t.bit Reg.REC_CLEAR 2 = true ∧ t.rcd.chalTick = s.clk.now ∧
      ∃ nonce, t.rcd.challenge = some nonce ∧ nonce.length = 16 ∧ ∀ k < 4, t.reg (Reg.REC_CHALLENGE + 4 * k) = w32 (leAt nonce (4 * k) 4)) ∧
    (∀ n, s.rcd.challenge = some n → Answers .chalExpire s fun t => t.rcd.challenge = none ∧ t.bit Reg.REC_CLEAR 2 = false ∧ (∀ k < 4, t.reg (Reg.REC_CHALLENGE + 4 * k) = 0) ∧
      t.clk.now = max s.clk.now (s.rcd.chalTick + s.chalLife)) ∧
    (s.rcd.lockUntil ≠ 0 → Answers .chalLockoutEnd s fun t => t.rcd.lockUntil = 0 ∧ t.clk.now = max s.clk.now s.rcd.lockUntil ∧ KeepsRegs s t []) ∧
    (∀ n, s.rcd.challenge = some n → (s.sys.dev = .ready ∨ s.sys.dev = .safe) → s.bit Reg.REC_CKEY_CTL 1 = true → s.rcd.clrPend = false → s.rcd.frozenAt = none → s.bit Reg.REC_STAT 2 = false →
      (s.regBytes Reg.REC_AUTH 4 = s.response n → Answers .recClear s fun t => t.rcd.clrPend = true ∧ t.rcd.challenge = none ∧ t.reg Reg.REC_POS = 0 ∧ t.reg Reg.REC_WRAP = s.reg Reg.REC_WRAP + 1) ∧
      (s.regBytes Reg.REC_AUTH 4 ≠ s.response n → Answers .recClear s fun t => t.rcd.clrPend = false ∧ t.rcd.challenge = none ∧ t.reg Reg.REC_POS = s.reg Reg.REC_POS ∧
        t.rcd.denials = s.rcd.denials + 1 ∧ Raised t 0x0F07 ∧ t.kennel = s.kennel)) ∧
    (s.sys.dev = .ready → s.bit Reg.REC_CKEY_CTL 1 = false → s.rcd.keyProg = false → Answers .ckeyProg s fun t => t.rcd.key = some (s.regBytes Reg.REC_CKEY 8) ∧
      t.rcd.keyProg = true ∧ t.rcd.keyTick = s.clk.now ∧ (∀ k < 8, t.reg (Reg.REC_CKEY + 4 * k) = 0)) ∧
    (s.sys.dev ≠ .ready → Answers .ckeyProg s fun t => OnlyRegs s t ∧ KeepsRegs s t [])) ∧
  (∀ (s0 : State) dt, s0.sys.powered = true →
    let s := s0.pass (s0.eraseWait dt)
    s.rcd.started = true → s.rcd.clrPend = true → s.rcd.consec = 0 → s.bit Reg.REC_STAT 3 = false →
      (s.rcd.clrBoot = true → Answers (.recCleared dt ⟨[], 0, false⟩) s0 fun t => t.rcd.clrPend = false ∧ t.bit Reg.REC_STAT 1 = false ∧
        ∀ k < 65536, max s.rcd.erasePos (s.rf Reg.REC_POS 0 16) ≤ k → s.badSlot (2048 + k) = false → ∀ i < 32, t.kenByte (32 * (2048 + k) + i) = 0xFF) ∧
      (s.rcd.clrBoot = false → Answers (.recCleared dt ⟨[], 0, false⟩) s0 fun t => t.rcd.clrPend = false ∧ t.bit Reg.REC_STAT 1 = false ∧
        ∃ e, t.rcd.lastRec = some e ∧ e.code = 0x0F06)) ∧
  (∀ (s0 : State) dt, s0.sys.powered = true → (s0.pass (s0.keyWait dt)).rcd.keyProg = true →
    Answers (.recKeySet dt) s0 fun t => t.rcd.keyProg = false ∧ t.bit Reg.REC_CKEY_CTL 1 = true ∧ Raised t 0x0F0A ∧ t.clk.now = s0.clk.now + s0.keyWait dt)

/-! ### Ring link (10) -/

/-- A complete HSR frame for another station leaves once by the other port, at the back of the queue of its PCP with its tags as they came, unless it has been sent there already (R192, R195); one for this module is delivered and noted; a duplicate for this module is counted and not delivered again (R193). -/
def Obligations.HsrForwardsOnceAndDropsDuplicates : Prop :=
  ∀ (s0 : State) (dt seq : Nat) (p : Fin 2) (f : RxFrame), s0.sys.powered = true →
    let s := s0.pass dt
    let q := s.pcpQueue (f.pcp.getD (s.netc 9 1 0))
    let x := rxOnward f .forwarded false f.payload none
    s.portOn p = true → f.fcsOk = true → f.hsr = some seq → f.lsduOk = true → isPtpFrame f = false → f.len ≤ 1518 → f.src ≠ macNum →
    (f.dst ≠ macNum → f.dst / 2 ^ 40 % 2 = 0 → s.sentAlready (1 - p) f.src seq = false → (s.port (1 - p)).queues.length = 4 → s.hasRoom (1 - p) q x.len = true →
      Answers (.frameReceive dt p f) s0 fun t =>
        (t.port (1 - p)).queues.getD q [] = (s.port (1 - p)).queues.getD q [] ++ [x] ∧
        t.net.rxq = s.net.rxq ∧ t.sentAlready (1 - p) f.src seq = true ∧ t.reg (portCnt p) = satInc (s.reg (portCnt p)) ∧
        t.reg (portCnt (1 - p) + 8) = satInc (s.reg (portCnt (1 - p) + 8)) ∧ KeepsRegs s t [portCnt p, portCnt (1 - p) + 8, Reg.NET_STAT] ∧ t.cmd = s.cmd ∧ t.trn = s.trn ∧ SameMem s t) ∧
    (s.sentAlready (1 - p) f.src seq = true → Answers (.frameReceive dt p f) s0 fun t => (t.port (1 - p)).queues = (s.port (1 - p)).queues ∧ SameMem s t) ∧
    (f.dst = macNum → s.isDup f.src seq = false → f.etype = 0x0806 →
      Answers (.frameReceive dt p f) s0 fun t => (∃ e ∈ t.net.nodes, e.mac = f.src) ∧ t.port (1 - p) = s.port (1 - p) ∧
        t.net.rxq = s.net.rxq ++ [(s.clk.now, .arp ⟨f.src, beAt f.payload 8 6⟩ (ipWord (beAt f.payload 14 4)) (ipWord (beAt f.payload 24 4)) (beAt f.payload 6 2 == 1))]) ∧
    (f.dst = macNum → s.isDup f.src seq = true →
      Answers (.frameReceive dt p f) s0 fun t => t.net.rxq = s.net.rxq ∧ t.reg Reg.NET_DUP_CNT = satInc (s.reg Reg.NET_DUP_CNT) ∧ t.net.nodes = s.net.nodes)

/-- Ports and what leaves them (R189 to R191, R193, R195): strict priority from queue 3 down, its last fields formed as it leaves; a link comes up and goes down, and its queues are discarded when it does; modes alternate every 100 ms without an image; supervision every 2.0 s; an unused node entry goes after 60 s; the release ends with the transmitters off and nothing queued. -/
def Obligations.RingPortsFollowTheirLinks : Prop :=
  (∀ (s0 : State) (p : Fin 2) (dt : Nat), s0.sys.powered = true →
    let s := s0.pass dt
    (∀ a b c f r, s.portOn p = true → (s.port p).queues = [a, b, c, f :: r] →
      Answers (.frameTransmit dt p) s0 fun t => (t.port p).queues = [a, b, c, r] ∧ t.net.lastOut = some (p.val, s.formed p f) ∧ t.port (1 - p) = s.port (1 - p) ∧ SameMem s t) ∧
    (∀ a b f r, s.portOn p = true → (s.port p).queues = [a, b, f :: r, []] →
      Answers (.frameTransmit dt p) s0 fun t => (t.port p).queues = [a, b, r, []] ∧ t.net.lastOut = some (p.val, s.formed p f)) ∧
    (∀ sp, s.sys.ethOn = true → (s.port p).up = false → (s.port p).mode ≠ 0 → ((s.port p).mode = 3 → sp = 1000) →
      Answers (.linkUp dt p sp) s0 fun t => (t.port p).up = true ∧ t.bit Reg.NET_STAT p = true ∧ t.port (1 - p) = s.port (1 - p) ∧ Raised t 0x0801) ∧
    ((s.port p).up = true → Answers (.linkDown dt p) s0 fun t => (t.port p).up = false ∧ (t.port p).queues = [[], [], [], []] ∧ t.bit Reg.NET_STAT p = false ∧
      t.port (1 - p) = s.port (1 - p) ∧ Raised t 0x0801)) ∧
  (∀ (s : State) (p : Fin 2), s.sys.powered = true → s.cmd.coming = [] →
    (s.sys.ethOn = true → (s.port p).up = false → (s.port p).cfg = 0 → Answers (.modeAlternate p) s fun t =>
      (t.port p).mode = (if (s.port p).mode = 1 then 2 else 1) ∧ t.clk.now = max s.clk.now ((s.port p).altTick + 25000000) ∧ (t.port p).altTick = t.clk.now) ∧
    Answers .supervisionSend s (fun t => t.net.supTick = t.clk.now ∧ t.clk.now = max s.clk.now (s.net.supTick + 500000000) ∧ t.net.hsrSeq = (s.net.hsrSeq + 1) % 65536 ∧
      t.net.supSeq = (s.net.supSeq + 1) % 65536) ∧
    (∀ e, oldestNode s.net.nodes = some e → Answers .nodeTableAge s fun t => (∀ x ∈ t.net.nodes, x.mac ≠ e.mac) ∧ t.clk.now = max s.clk.now (e.used + 15000000000) ∧ KeepsRegs s t []) ∧
    (∀ k, s.sys.released = some k → s.sys.ethOn = true → Answers .ringRelease s fun t => t.sys.ethOn = false ∧ (∀ x : Fin 2, (t.port x).queues = [[], [], [], []]) ∧
      t.sys.dev = s.sys.dev ∧ t.drv = s.drv))

/-- What the stack and the event frames send (R191, R197 to R199, R208, R209): an answer to an ARP request and to an echo request, to the address of the frame that asked, counted; a claim on the module's address shown in DUPADDR; a gratuitous ARP; event frames and heartbeats with consecutive FSEQ. Each takes the next HSR sequence number. -/
def Obligations.StackAnswersAndEventFrames : Prop :=
  (∀ (s0 : State) (dt : Nat), s0.sys.powered = true →
    let s := s0.pass dt
    let q := s.pcpQueue s.pcpResp
    (∀ (a : ArpSender) spa, spa ≠ s.reg Reg.NET_IPV4 → Answers (.arpRequest dt a spa (s.reg Reg.NET_IPV4) true) s0 fun t =>
      t.reg (Reg.NET_DUP_CNT + 0x10) = satInc (s.reg (Reg.NET_DUP_CNT + 0x10)) ∧ t.net.hsrSeq = (s.net.hsrSeq + 1) % 65536 ∧ t.cmd = s.cmd ∧
      (∀ p : Fin 2, (s.port p).queues.length = 4 → s.hasRoom p q 74 = true → ∃ f, (t.port p).queues.getD q [] = (s.port p).queues.getD q [] ++ [f] ∧
        f.dst = a.mac ∧ f.src = macNum ∧ f.etype = 0x0806 ∧ f.bytes = s.arpBytes 2 a.sha spa)) ∧
    (∀ (a : ArpSender) tpa, a.sha ≠ macNum → s.reg Reg.NET_IPV4 ≠ 0 → tpa ≠ s.reg Reg.NET_IPV4 → ∀ r, Answers (.arpRequest dt a (s.reg Reg.NET_IPV4) tpa r) s0 fun t =>
      t.bit Reg.NET_STAT 7 = true ∧ t.net.hsrSeq = s.net.hsrSeq ∧ Raised t 0x0802 ∧ KeepsRegs s t [Reg.NET_STAT]) ∧
    (∀ mac ip d, 20 + d.length ≤ s.maxUdp + 28 → Answers (.icmpEcho dt mac ip d) s0 fun t =>
      t.reg (Reg.NET_DUP_CNT + 0x14) = satInc (s.reg (Reg.NET_DUP_CNT + 0x14)) ∧ t.net.hsrSeq = (s.net.hsrSeq + 1) % 65536 ∧ t.cmd = s.cmd ∧
      (∀ p : Fin 2, (s.port p).queues.length = 4 → s.hasRoom p q (max 64 (38 + d.length) + 10) = true → ∃ f, (t.port p).queues.getD q [] = (s.port p).queues.getD q [] ++ [f] ∧
        f.dst = mac ∧ f.dest = some (ip, 0, 0) ∧ f.bytes.drop 4 = d.drop 4))) ∧
  (∀ (s : State), s.sys.powered = true → s.cmd.coming = [] →
    Answers .netGarp s (fun t => t.net.hsrSeq = (s.net.hsrSeq + 1) % 65536 ∧ t.net.nodes = s.net.nodes ∧ t.cmd = s.cmd ∧ SameMem s t) ∧
    (∀ k, s.settle.evDue = some k → s.sys.ethOn = true → Answers .eventFrame s fun t => t.net.fseq = (s.net.fseq + 1) % 2 ^ 32 ∧ t.net.hsrSeq = (s.net.hsrSeq + 1) % 65536 ∧
      t.clk.now = max s.settle.clk.now k ∧ t.net.evTick = t.clk.now) ∧
    (s.net.evq = [] → s.sys.ethOn = true → Answers .eventHeartbeat s fun t => t.net.fseq = (s.net.fseq + 1) % 2 ^ 32 ∧ t.net.hsrSeq = (s.net.hsrSeq + 1) % 65536 ∧
      t.clk.now = max s.clk.now (s.net.evTick + msTicks (s.netc 22 2 1000)) ∧ t.net.evTick = t.clk.now))

/-! ### Network time (09) -/

/-- A Sync of the active domain in LOCKED whose offset stays within the unlock threshold drives the servo (R171): φ from the offset within ±TIM_SLEW_MAX, f from φ within ±200 ppm, the increment from both (R168), and NT is not stepped; the offset is taken once the Sync is ready, no later than 2 µs after. A Sync copy (R180, R181, R183, R184): a one-step one is forwarded with the ingress port's link delay in its correction; a valid one is kept for the slave under its domain, source and sequence number; one that is not valid is counted and not kept; a two-step one is never used. -/
def Obligations.SyncDrivesServo : Prop :=
  (∀ (s : State) (dt : Nat) (w : SyncWait), s.sys.powered = true → s.cmd.coming = [] → firstWait s.tim.waits = some w → w.copies.length = 2 → w.dom = s.tim.active → w.dom < 2 →
     s.tim.swAt = none → s.switching = false → s.tim.mode = .locked → 1 ≤ s.timc 7 1 → (syncTheta w.copies).natAbs ≤ 65536 * s.timc 12 2 →
     let phi := max (-s.slewPpb) (min s.slewPpb (divRound (-(syncTheta w.copies) * 1000) (65536 * max 1 (s.timc 16 2))))
     let f := max (-200000) (min 200000 (s.tim.f + divRound (phi * 1000) (max 1 (s.timc 18 2) * 2 ^ (-s.logSync).toNat)))
     Answers (.syncOffset dt) s fun t => t.tim.phi = phi ∧ t.tim.f = f ∧ t.clk.inc = incFor f phi ∧
       t.clk.now = max s.clk.now (max w.ready (min (s.clk.now + dt) (w.ready + 500))) ∧ t.clk.nt = s.clk.nt + (t.clk.now - s.clk.now) * s.clk.inc ∧ t.tim.mode = .locked ∧
       t.tim.waits = s.tim.waits.erase w ∧ t.reg Reg.TIM_FREQ = w32i f ∧ t.reg Reg.TIM_PHASE = w32i phi ∧ t.sys = s.sys ∧ t.trn = s.trn) ∧
  (∀ (s0 : State) (dt : Nat) (p : Fin 2) (num src seq q d : Nat) (logInt origin corr : Int) (f : RxFrame), s0.sys.powered = true →
     let s := s0.pass dt
     s.portOn p = true → f.hsr.isSome = true → f.lsduOk = true → s.ptpDom num = some d →
     (s.syncValid d p src logInt false = true → (d, src, seq) ∉ s.tim.taken →
       Answers (.sync dt p num src seq logInt false true origin corr q f) s0 fun t => (∃ w ∈ t.tim.waits, w.dom = d ∧ w.src = src ∧ w.seq = seq ∧ ∃ c ∈ w.copies, c.1 = p.val) ∧
         t.tim.mode = s.tim.mode ∧ t.clk.now = s.clk.now) ∧
     (s.syncValid d p src logInt false = false →
       Answers (.sync dt p num src seq logInt false true origin corr q f) s0 fun t => t.tim = s.tim ∧ t.reg (Reg.TIM_SYNC_A_CNT + 8) = satInc (s.reg (Reg.TIM_SYNC_A_CNT + 8))) ∧
     Answers (.sync dt p num src seq logInt true true origin corr q f) s0 (fun t => t.tim = s.tim) ∧
     (∀ fcs, s.forwards p f = true → (s.port (1 - p)).queues.length = 4 →
       let x := rxOnward f .ptp (!fcs) (addCorr f.payload (s.linkDelay p)) (some (s.inStamp p q))
       s.hasRoom (1 - p) 3 x.len = true →
       Answers (.sync dt p num src seq logInt false fcs origin corr q f) s0 fun t => (t.port (1 - p)).queues.getD 3 [] = (s.port (1 - p)).queues.getD 3 [] ++ [x] ∧
         t.reg (Reg.TIM_SYNC_A_CNT + 0x10) = satInc (s.reg (Reg.TIM_SYNC_A_CNT + 0x10))))

/-- The timebase's states and steps (R173 to R175): SET puts NT to the TIM_SET values outside ARMED and DRY and is not performed in them; the loss of the active domain in LOCKED leads to HOLDOVER; HOLD_MAX later FREERUN follows, which takes ARMED to SAFE and DRY to READY. Domain switches (R176 to R178): a request is accepted for a multiple of 10 ms at least 1 ms ahead while the standby domain is tracked and close, and not performed while one waits; on the tick the domains exchange places and TRK turns its sign; the residual slew ends with TIM_SW_DONE. -/
def Obligations.TimebaseStatesAndDomainSwitch : Prop :=
  (∀ (s : State), s.sys.powered = true → s.cmd.coming = [] →
     (s.live = false → s.rf Reg.TIM_SET_NS 0 30 ≤ 999999999 → s.flights = [] → Answers .timSet s fun t =>
       t.ntNs = ((s.reg Reg.TIM_SET_SEC_LO).toNat + 2 ^ 32 * (s.reg Reg.TIM_SET_SEC_HI).toNat) * 1000000000 + s.rf Reg.TIM_SET_NS 0 30 ∧ Raised t 0x0702 ∧
       t.reg (Reg.TIM_SYNC_A_CNT + 0x0C) = satInc (s.reg (Reg.TIM_SYNC_A_CNT + 0x0C)) ∧ t.clk.now = s.clk.now ∧ KeepsRegs s t [Reg.TIM_SYNC_A_CNT + 0x0C]) ∧
     (s.live = true → Answers .timSet s fun t => t.clk = s.clk ∧ OnlyRegs s t ∧ KeepsRegs s t []) ∧
     (∀ (d : Fin 2) k, (s.dom d).lastSync = some k → s.tim.active = d → s.tim.swAt = none → s.ef Reg.TIM_CTL 2 1 = 0 → s.tim.mode = .locked → s.ef Reg.TIM_HOLD_MAX 0 14 ≠ 0 →
       Answers (.domainLoss d) s fun t => t.tim.mode = .holdover ∧ (t.dom d).tracked = false ∧ (t.dom d).lost = true ∧ t.clk.now = max s.clk.now (k + s.lossTicks) ∧
         Raised t 0x0703 ∧ Raised t 0x0701 ∧ t.sys.dev = s.sys.dev) ∧
     (s.tim.mode = .holdover → Answers .holdoverExpire s fun t => t.tim.mode = .freerun ∧ t.clk.now = max s.clk.now (s.tim.holdTick + msTicks (s.ef Reg.TIM_HOLD_MAX 0 14)) ∧
       t.sys.dev = (if s.sys.dev = .armed then .safe else if s.sys.dev = .dry then .ready else s.sys.dev))) ∧
  (∀ (s : State), s.sys.powered = true → s.cmd.coming = [] →
     (s.tim.swAt = none → s.switching = false → s.switchBar = none → Answers .timSwitch s fun t => ∃ T, t.tim.swAt = some T ∧ T % 10000000 = 0 ∧ (s.ntNs : Int) + 1000000 ≤ T ∧
       T < (s.ntNs : Int) + 11000000 ∧ t.tim.active = s.tim.active ∧ t.tim.phi = 0) ∧
     (s.tim.swAt = none → s.switching = false → s.switchBar ≠ none → Answers .timSwitch s fun t => t.tim = s.tim ∧ Raised t 0x0706 ∧ KeepsRegs s t []) ∧
     (s.tim.swAt ≠ none → Answers .timSwitch s fun t => t.tim = s.tim ∧ OnlyRegs s t ∧ KeepsRegs s t []) ∧
     (∀ T, s.tim.swAt = some T → s.switchBar = none → s.tim.active < 2 → (s.tim.mode = .locked ∨ s.tim.mode = .holdover ∨ (s.dom (1 - s.tim.active)).sel.isSome = true) →
       Answers .switchTick s fun t => t.tim.active = 1 - s.tim.active ∧ t.tim.trk = -s.tim.trk ∧ Raised t 0x0704 ∧ t.clk.now = s.clk.now + s.ticksTo T) ∧
     (s.switching = true → Answers .timSwDone s fun t => t.bit Reg.TIM_STAT 5 = false ∧ t.tim.rho = 0 ∧ Raised t 0x0705 ∧ t.clk.now = max s.clk.now s.swEnd))

/-- Announce and peer delay (R181, R182): a foreign master of a configured domain is kept until its timeout; a message of 255 steps is ignored; each port sends a request per interval, whose sending instant is that at which it leaves, answers a neighbour's, takes a delay from a response, and loses validity on the third miss in a row or above 50 µs. -/
def Obligations.AnnounceAndPeerDelay : Prop :=
  (∀ (s0 : State) (dt : Nat), s0.sys.powered = true →
    let s := s0.pass dt
    (∀ num src gm rank logInt seq steps d, s.ptpDom num = some d → d < 2 → steps < 255 → Answers (.announce dt num src gm rank logInt seq steps) s0 fun t =>
      (∃ f ∈ (t.dom d).foreign, f.src = src ∧ f.seq = seq) ∧ t.clk.now = s.clk.now ∧ t.tim.mode = s.tim.mode) ∧
    (∀ num src gm rank logInt seq steps, 255 ≤ steps → Answers (.announce dt num src gm rank logInt seq steps) s0 fun t => t.tim = s.tim ∧ KeepsRegs s t []) ∧
    (∀ (p : Fin 2) seq ask, s.hasRoom p 3 76 = true → (s.port p).queues.length = 4 → Answers (.pdelayReq dt p seq ask) s0 fun t =>
      t.reg (portCnt p + 0x0C) = satInc (s.reg (portCnt p + 0x0C)) ∧ t.tim = s.tim ∧
      ∃ f, (t.port p).queues.getD 3 [] = (s.port p).queues.getD 3 [] ++ [f] ∧ f.kind = .pdelay ∧ f.ingress = some (s.inStamp p ask.q)) ∧
    (∀ (p : Fin 2) turn ratio q, (s.pd p).t1.isSome = true → Answers (.pdelayResp dt p (s.pd p).seq turn ratio q) s0 fun t =>
      (t.pd p).t1 = none ∧ (t.pd p).noRun = 0 ∧ (t.pd p).okRun = (s.pd p).okRun + 1 ∧ (∃ d, (t.pd p).delay = some d ∧ (65536 * 50000 < d → (t.pd p).valid = false)) ∧
      t.bit Reg.TIM_STAT (7 + p) = (t.pd p).valid) ∧
    (∀ p : Fin 2, (s.pd p).asked = true → Answers (.pdelayTimeout dt p) s0 fun t => (t.pd p).asked = false ∧ (t.pd p).okRun = 0 ∧ (t.pd p).noRun = (s.pd p).noRun + 1 ∧
      (2 ≤ (s.pd p).noRun → (t.pd p).valid = false) ∧ t.reg (Reg.TIM_SYNC_A_CNT + 0x18) = satInc (s.reg (Reg.TIM_SYNC_A_CNT + 0x18))) ∧
    (∀ (p : Fin 2) a b c f r, s.portOn p = true → (s.port p).queues = [a, b, c, f :: r] → f.kind = .pdelay → f.ingress = none → (s.pd p).asked = true → ptpSeq f.bytes = (s.pd p).seq →
      Answers (.frameTransmit dt p) s0 fun t => (t.pd p).t1 = some (s.outStamp p))) ∧
  (∀ (s : State), s.sys.powered = true → s.cmd.coming = [] →
    (∀ (d : Fin 2) f, firstForeign (s.dom d).foreign = some f → Answers (.announceTimeout d) s fun t => (∀ x ∈ (t.dom d).foreign, x.src ≠ f.src) ∧
      t.clk.now = max s.clk.now f.due) ∧
    (∀ p : Fin 2, s.sys.ethOn = true → Answers (.pdelaySend p) s fun t => (t.pd p).seq = ((s.pd p).seq + 1) % 65536 ∧ (t.pd p).asked = true ∧ (t.pd p).t1 = none ∧ (t.pd p).sentTick = t.clk.now ∧
      t.clk.now = max s.clk.now ((s.pd p).sentTick + pow2Ticks 1 s.logPdelay) ∧ t.pd (1 - p) = s.pd (1 - p)))

/-! ### General I/O (11 R235 to R243) and fans (14) -/

/-- Inputs and encoders (R240, R242). A level that differs at the pin begins the filter's time, and one that is back at the filtered level ends it; a level that has stood for the time shows in GIO_DI and its slot, inverted where INV is 1. A double transition of an encoder counts an error and no step; with ×4 decoding the count moves by one for each edge, up where A leads B (the direction is the model's, assumption 27), and the slot follows; a rising Z edge with ZCLR clears the count. -/
def Obligations.InputsAndEncodersFollowPins : Prop :=
  ∀ (s0 : State) (dt : Nat), s0.sys.powered = true →
    let s := s0.pass dt
    s.cmd.coming = [] →
    (∀ (k : Fin 32) t0, s.diSince k = some t0 → Answers (.diChange dt ⟨k, false⟩) s0 fun t =>
      t.gio.di.getLsbD k = !s.gio.di.getLsbD k ∧ t.bit Reg.GIO_DI k = ((!s.gio.di.getLsbD k) != s.diInv k) ∧ t.diSince k = none ∧
      t.slot (48 + k) = ⟨0, if ((!s.gio.di.getLsbD k) != s.diInv k) = true then 65536 else 0⟩ ∧ (∀ n, n ≠ 48 + k.val → t.slot n = s.slot n) ∧
      (∀ j < 32, j ≠ k.val → t.bit Reg.GIO_DI j = s.bit Reg.GIO_DI j ∧ t.gio.di.getLsbD j = s.gio.di.getLsbD j) ∧ KeepsRegs s t [Reg.GIO_DI] ∧
      t.clk.now = max s.clk.now (t0 + s.diFilt k)) ∧
    (∀ k : Fin 32, s.diSince k = none → Answers (.diChange dt ⟨k, true⟩) s0 fun t => t.diSince k = some s.clk.now ∧ t.gio.di = s.gio.di ∧ SameMem s t ∧ KeepsRegs s t []) ∧
    (∀ (k : Fin 32) t0, s.diSince k = some t0 → s.clk.now < t0 + s.diFilt k →
      Answers (.diChange dt ⟨k, true⟩) s0 fun t => t.diSince k = none ∧ t.gio.di = s.gio.di ∧ SameMem s t ∧ KeepsRegs s t []) ∧
    (∀ (k : Fin 4) t0, s.encDecode k ≠ 0 → s.encSince k 0 = some t0 → s.encSince k 1 = some t0 → Answers (.encEdge dt ⟨k, false⟩ false false) s0 fun t =>
      t.reg (Reg.GIO_ENCERR + 4 * k) = satInc (s.reg (Reg.GIO_ENCERR + 4 * k)) ∧ t.encCount k = s.encCount k ∧ t.gio.encAcc = s.gio.encAcc ∧
      t.encLevels k = (!(s.encLevels k).1, !(s.encLevels k).2) ∧ t.clk.now = max s.clk.now (t0 + s.encFilt k) ∧ KeepsRegs s t [Reg.GIO_ENCERR + 4 * k]) ∧
    (∀ (k : Fin 4) b t0, s.encDecode k = 3 → s.encPs k = 0 → storeGet (fun _ => (0 : Int)) s.gio.encAcc k = 0 → s.encLevels k = (b, b) →
      (s.encSince k 0 = some t0 → s.encSince k 1 = none → Answers (.encEdge dt ⟨k, false⟩ false false) s0 fun t =>
        t.reg (Reg.GIO_ENC + 4 * k) = s.reg (Reg.GIO_ENC + 4 * k) + 1 ∧ t.encLevels k = (!b, b) ∧ t.clk.now = max s.clk.now (t0 + s.encFilt k) ∧
        t.slot (16 + k) = ⟨0, w32i (sext 16 ((t.reg (Reg.GIO_ENC + 4 * k)).toNat % 65536) * 65536)⟩ ∧ KeepsRegs s t [Reg.GIO_ENC + 4 * k]) ∧
      (s.encSince k 0 = none → s.encSince k 1 = some t0 → Answers (.encEdge dt ⟨k, false⟩ false false) s0 fun t =>
        t.reg (Reg.GIO_ENC + 4 * k) = s.reg (Reg.GIO_ENC + 4 * k) - 1 ∧ t.encLevels k = (b, !b) ∧ KeepsRegs s t [Reg.GIO_ENC + 4 * k])) ∧
    (∀ (k : Fin 4) a b, 0 < s.encFilt k → s.encSince k 0 = none → s.encSince k 1 = none → s.encLevels k = (!a, b) → Answers (.encEdge dt ⟨k, true⟩ a b) s0 fun t =>
      t.encSince k 0 = some s.clk.now ∧ t.encSince k 1 = none ∧ t.encLevels k = s.encLevels k ∧ KeepsRegs s t [] ∧ SameMem s t) ∧
    (∀ k : Fin 4, s.encZclr k = true → s.encDecode k ≠ 0 → Answers (.encIndex dt k) s0 fun t => t.reg (Reg.GIO_ENC + 4 * k) = 0 ∧ t.slot (16 + k) = ⟨0, 0⟩ ∧
      (∀ n, n ≠ 16 + k.val → t.slot n = s.slot n) ∧ KeepsRegs s t [Reg.GIO_ENC + 4 * k]) ∧
    (∀ k : Fin 4, s.encZclr k = false → Answers (.encIndex dt k) s0 fun t => t.gio = s.gio ∧ SameMem s t ∧ KeepsRegs s t [])

/-- Outputs (R236, R237, R239, R241). At 47 µs every analog output without a loop source drives the code of its source's value, or of its safe value, in its mode. An overloaded digital output goes off and latches its fault; an analog output that cannot drive its load shows OPEN in current mode and SHORT in voltage mode, until the condition ends. -/
def Obligations.OutputsAndTheirFaults : Prop :=
  (∀ (s : State), s.sys.powered = true → s.cmd.coming = [] →
    (∀ T, s.loop.ioAt = some T → Answers .ioUpdate s fun t => t.loop.ioAt = none ∧ t.clk.now = s.clk.now + s.ticksTo T ∧
      (∀ k < 8, s.loopFed k = false → t.reg (Reg.GIO_AO + 4 * k) = w32 (s.aoCode k ((s.sinkVal k).getD (s.sxi 12 (16 * k + 12))) + 65536 * s.aoMode k)) ∧
      (∀ k < 8, s.loopFed k = true → t.reg (Reg.GIO_AO + 4 * k) = s.reg (Reg.GIO_AO + 4 * k)) ∧
      (∀ k < 16, s.loopFed (120 + k) = false → t.gio.doWant.getLsbD k = s.doAsk k) ∧ SameMem s t)) ∧
  (∀ (s0 : State) (dt : Nat), s0.sys.powered = true →
    let s := s0.pass dt
    (∀ k : Fin 16, Answers (.gioDoOverload dt k) s0 fun t => t.bit Reg.GIO_DOFLT k = true ∧ t.bit Reg.GIO_DO k = false ∧ t.gio = s.gio ∧ Raised t 0x1202 ∧
      KeepsRegs s t [Reg.GIO_DOFLT, Reg.GIO_DO] ∧ SameMem s t) ∧
    (∀ k : Fin 8, s.aoMode k = 2 → Answers (.gioAoFault dt k) s0 fun t => t.bit Reg.GIO_AOSTAT k = true ∧ t.bit Reg.GIO_AOSTAT (8 + k) = s.bit Reg.GIO_AOSTAT (8 + k) ∧
      Raised t 0x1201 ∧ KeepsRegs s t [Reg.GIO_AOSTAT]) ∧
    (∀ k : Fin 8, s.aoMode k = 1 → Answers (.gioAoFault dt k) s0 fun t => t.bit Reg.GIO_AOSTAT (8 + k) = true ∧ t.bit Reg.GIO_AOSTAT k = s.bit Reg.GIO_AOSTAT k ∧
      Raised t 0x1201 ∧ KeepsRegs s t [Reg.GIO_AOSTAT]) ∧
    (∀ k : Fin 8, s.aoMode k ≠ 1 → s.aoMode k ≠ 2 → Answers (.gioAoFault dt k) s0 fun t => SameMem s t ∧ KeepsRegs s t []) ∧
    (∀ k : Fin 8, Answers (.aoFaultEnd dt k) s0 fun t => t.bit Reg.GIO_AOSTAT k = false ∧ t.bit Reg.GIO_AOSTAT (8 + k) = false ∧
      (∀ j < 32, j ≠ k.val → j ≠ 8 + k.val → t.bit Reg.GIO_AOSTAT j = s.bit Reg.GIO_AOSTAT j) ∧ KeepsRegs s t [Reg.GIO_AOSTAT] ∧ SameMem s t))

/-- Tachs, enables and switches (R287, R288, R295 to R299): a tach edge gives the speed over the last PPR intervals, in its slot; an edge within 4 µs of a switch edge does not count; the timeout makes the slot read 0; an enable and a restart act at the next zone update only; a trip, or a rotor current above LR_ILIM, is a failed attempt: WAIT, or LOCKED with FAN_LOCK after the last retry; a current below 3.6 A trips nothing. ZONE_UPDATE (R292, R294, R300): on its tick it takes the switch currents into their slots and the waiting enables into account; while the host watchdog has expired with MN48_FAN 0 every running fan gets 100 %, forced. -/
def Obligations.FansTachsAttemptsAndZoneUpdate : Prop :=
  (∀ (s0 : State) (dt : Nat), s0.sys.powered = true →
     let s := s0.pass dt
     (∀ (k : Fin 16) t0, s.fanTach k = true → s.fanPpr k ≤ 4 → s.fanPpr k ≤ (s.fc k).edges.length → (s.fc k).edges[s.fanPpr k - 1]? = some t0 → t0 < s.clk.now →
       let v := (divRound (15000000000 * 65536) (s.clk.now - t0)).toNat
       Answers (.tachEdge dt k false) s0 fun t => (t.fc k).speed = v ∧ (t.fc k).lost = 0 ∧
         (t.slot (24 + k)).val = w32i (min 0x7FFFFFFF v : Nat) ∧ (∀ n, n ≠ 24 + k.val → t.slot n = s.slot n) ∧ KeepsRegs s t []) ∧
     (∀ k : Fin 16, s.fanType k = 2 → s.fanDuty k < 1000 → Answers (.tachEdge dt k true) s0 fun t => t.fan = s.fan ∧ SameMem s t ∧ KeepsRegs s t []) ∧
     (∀ (sw : Fin 8) milli k, 3600 ≤ milli → s.fanOf sw = some k → (s.duting k = true ∨ s.fanSt k = 1 ∨ s.fanSt k = 7) → Answers (.switchTrip dt sw milli) s0 fun t =>
       let n := (if s.duting k = true then 0 else s.rf (fanReg k) 4 4) + 1;
       t.fanSt k = (if 1 + s.fx k 6 1 ≤ n then 5 else 2) ∧ t.bit Reg.FAN_LOCK k = decide (1 + s.fx k 6 1 ≤ n) ∧ t.fanDuty k = 0 ∧ t.rf (fanReg k) 4 4 = min 15 n ∧ Raised t 0x0C02 ∧
         t.reg Reg.FAN_ATT_CNT = satInc (s.reg Reg.FAN_ATT_CNT) ∧ KeepsRegs s t [fanReg k, Reg.FAN_LOCK, Reg.FAN_ATT_CNT]) ∧
     (∀ (sw : Fin 8) milli, 3600 ≤ milli → s.fanOf sw = none → Answers (.switchTrip dt sw milli) s0 fun t => t.fan.opened.getLsbD sw = true ∧ KeepsRegs s t []) ∧
     (∀ (sw : Fin 8) milli, milli < 3600 → Answers (.switchTrip dt sw milli) s0 fun t => t.fan = s.fan ∧ KeepsRegs s t [] ∧
       t.slot (40 + sw) = ⟨0, w32i (divRound (65536 * milli : Nat) 1000)⟩) ∧
     (∀ (k : Fin 16) sw milli, s.fanSw k = some sw → milli ≤ 20 * s.fx k 16 1 → Answers (.fanLockedRotor dt k milli) s0 fun t => t.fan = s.fan ∧ KeepsRegs s t []) ∧
     (∀ (k : Fin 16) sw milli, s.fanSw k = some sw → 20 * s.fx k 16 1 < milli → s.duting k = true → Answers (.fanLockedRotor dt k milli) s0 fun t =>
       t.fanSt k = (if s.fx k 6 1 = 0 then 5 else 2) ∧ t.fanDuty k = 0 ∧ Raised t 0x0C02 ∧ KeepsRegs s t [fanReg k, Reg.FAN_LOCK, Reg.FAN_ATT_CNT])) ∧
  (∀ (s : State), s.sys.powered = true → s.cmd.coming = [] →
     (∀ k : Fin 16, s.fanTach k = true → (s.fc k).lost = 0 → Answers (.tachTimeout k) s fun t => (t.slot (24 + k)).val = 0 ∧ t.clk.now = max s.clk.now (s.tachDue k) ∧
       (t.fc k).lost = 1 ∧ KeepsRegs s t []) ∧
     (∀ w : Word, Answers (.fanEnableWrite w) s fun t => (t.reg Reg.FAN_EN).toNat = fld w 0 16 ∧ KeepsRegs s t [Reg.FAN_EN] ∧ SameMem s t ∧
       ∀ k < 16, s.fanType k ≠ 0 → bitOf w k ≠ s.bit Reg.FAN_EN k → (k, b2n (bitOf w k)) ∈ t.fan.acts) ∧
     (∀ w : Word, Answers (.fanRestart w) s fun t => t.reg Reg.FAN_LOCK = s.reg Reg.FAN_LOCK &&& ~~~w ∧ KeepsRegs s t [Reg.FAN_LOCK] ∧ SameMem s t ∧
       ∀ k < 16, bitOf w k = true → s.bit Reg.FAN_LOCK k = true → (k, 2) ∈ t.fan.acts) ∧
     (∀ (milli : List Nat) (T : Int), s.fan.zoneAt = some T →
       Answers (.zoneUpdate milli) s fun t => t.clk.now = s.clk.now + s.ticksTo T ∧ t.fan.zoneAt = none ∧ t.fan.acts = [] ∧
         (∀ i < 8, i < milli.length → t.slot (40 + i) = ⟨0, w32i (divRound (65536 * milli.getD i 0 : Nat) 1000)⟩) ∧
         t.bit Reg.FAN_STAT 0 = s.bit Reg.SYS_STATUS 1 ∧
         (s.bit Reg.SYS_STATUS 1 = true → s.bit Reg.SYS_COMPAT 0 = false → ∀ k < 16, s.fanType k ≠ 0 → t.duting k = true → t.fanDuty k = 1000 ∧ t.bit (fanReg k) 19 = true) ∧
         t.drv = s.drv ∧ t.trn = s.trn ∧ t.sys = s.sys))

/-! ### Loops (11) -/

/-- BEAT (R15, R215, R224): the next beat starts on the first tick at which NT reaches it; every slot is latched into the input copy as it stands, a monitor that no command has reported yet giving a valid value (which one is free: assumption 67); the loops due in it are known; the age of every used loop grows. -/
def Obligations.BeatLatchesInputsAndFindsLoops : Prop :=
  ∀ (s : State), s.sys.powered = true → s.cmd.coming = [] → s.clk.beatAny = true → s.clk.stepped = false → 0 < s.clk.inc →
    let i := max (s.clk.beat + 1) (s.ntNs / 50000)
    Answers .beat s fun t => t.clk.beat = i ∧ i * 50000 * 2 ^ 32 ≤ t.clk.nt ∧ (t.clk.now = s.clk.now ∨ t.clk.nt < i * 50000 * 2 ^ 32 + s.clk.inc) ∧ t.clk.beatTick = t.clk.now ∧
      (∀ n, n < 82 ∨ n = 94 ∨ 98 < n ∨ (n ≠ 95 ∧ (s.slot n).cond = 0) → t.inp n = s.slot n) ∧ (∀ n, 82 ≤ n → n ≤ 98 → n ≠ 94 → (t.inp n).cond = 0) ∧
      (∀ n, n ∈ t.loop.todo ↔ s.loopsRun = true ∧ n < 64 ∧ s.loopPer n ≠ 0 ∧ i % s.loopPer n = s.rf (loopReg Reg.LOOP_OFS n) 0 16) ∧
      (∀ n < 64, t.reg (loopReg Reg.LOOP_OUT n + 16) = if s.loopPer n = 0 then s.reg (loopReg Reg.LOOP_OUT n + 16) else satInc (s.reg (loopReg Reg.LOOP_OUT n + 16))) ∧
      KeepsRegs s t ((List.range 64).map fun n => loopReg Reg.LOOP_OUT n + 16)

/-- LOOP_EXECUTION in AUTO (R219): with valid, fresh inputs, no Ephemeris and no generator, an execution that is not the first computes e, d, i and y by the law of R219, from the coefficients in force, and is finished after its cost (R228), each retry counted as a correction. -/
def Obligations.AutoExecutionFollowsLaw : Prop :=
  ∀ (s : State) (retries n : Nat) (l : List Nat) (xp : Int), s.sys.powered = true → s.cmd.coming = [] → s.loop.todo.dropWhile s.offNow = n :: l → n < 64 → s.loopMode n = 2 → (s.lc n).fall = none →
    (s.lc n).last = 2 → (s.lc n).xPrev = some xp → s.ephOn n = false → s.genOf n = none → s.inputCheck n 2 = (false, false, true) →
    let c := s.lc n
    let sp := (s.reg (loopReg Reg.LOOP_SP n)).toInt
    let pv := (s.loopIn n 0).val.toInt
    let e := sat32 (if c.sel.getLsbD 0 = true then pv - sp else sp - pv)
    let p := sat32 ((c.co 0 * e + 2 ^ 23) / 2 ^ 24)
    let x := if c.sel.getLsbD 1 = true then sat32 (-pv) else e
    let v := sat32 ((c.co 2 * sat32 (x - xp) + 2 ^ 23) / 2 ^ 24)
    let al : Int := ((c.coef.getD 4 0).toNat % 65536 : Nat)
    let d := sat32 ((al * c.d + (65536 - al) * v + 32768) / 65536)
    let i := max (c.co 5 * 2 ^ 24) (min (c.co 6 * 2 ^ 24) (c.acc + c.co 1 * e))
    let ff : Int := if c.sel.getLsbD 2 = true then (s.loopIn n 3).val.toInt else 0
    let f := sat32 ((c.co 3 * ff + 2 ^ 23) / 2 ^ 24)
    let u := sat32 (p + (i + 2 ^ 23) / 2 ^ 24 + d + f)
    let lim := sat32 (s.loopPer n * c.co 9)
    let y := max (c.co 7) (min (c.co 8) (if c.co 9 = 0 then u else c.y + max (-lim) (min lim (u - c.y))))
    Answers (.loopExecution retries) s fun t => t.clk.now = max s.clk.now (ceilDiv s.loop.freeAt 398) ∧ t.loop.todo = l ∧
      (∃ r, t.loop.runs = s.loop.runs ++ [r] ∧ r.loop = n ∧ r.mode = 2 ∧ r.held = false ∧ r.fresh = true ∧ r.ctx.e = e ∧ r.ctx.d = d ∧ r.ctx.acc = i ∧ r.ctx.y = y ∧
        r.ctx.xPrev = some x ∧ r.learn = [] ∧ r.finish = s.loop.freeAt + 250 * (s.loopCost n + 12 * retries) ∧ t.loop.freeAt = r.finish) ∧
      t.reg Reg.SYS_ECC_CE = w32 (min 0xFFFFFFFF ((s.reg Reg.SYS_ECC_CE).toNat + retries)) ∧ t.loop.ctx = s.loop.ctx ∧ SameMem s t ∧ KeepsRegs s t [Reg.SYS_ECC_CE]

/-- LOOP_OUTPUT (R216, R217, R220, R225, R230): at the output phase a finished execution writes y and e to the loop's slots and registers, the set in force staying as it is by then; a held one leaves them with STALE; an unfinished one is abandoned: its output slot keeps its value with STALE, its error slot is not written, and it is counted; a loop in OFF ramps through slew and clamp to OFF_VAL and its error slot reads COND 3. -/
def Obligations.OutputPhaseWritesLoop : Prop :=
  ∀ (s : State) (n : Nat) (l : List Nat), s.sys.powered = true → s.cmd.coming = [] → s.loop.outs = n :: l → n < 64 →
    let due := s.clk.now + s.ticksTo (s.beatNs + 1000 * (s.loopPhase n : Int))
    (∀ r, s.runOf n = some r → r.finish ≤ 398 * due → r.held = false →
      Answers .loopOutput s fun t => t.clk.now = due ∧ t.slot (128 + n) = ⟨0, w32i r.ctx.y⟩ ∧ t.slot (192 + n) = ⟨r.errTag, w32i r.ctx.e⟩ ∧ t.lc n = (s.lc n).after r.ctx ∧
        t.reg (loopReg Reg.LOOP_OUT n) = w32i r.ctx.y ∧ t.reg (loopReg Reg.LOOP_OUT n + 8) = w32i r.ctx.d ∧ t.reg (loopReg Reg.LOOP_OUT n + 12) = w32i r.ctx.e ∧
        t.rf (loopReg Reg.LOOP_STAT n) 0 2 = 0 ∧ t.loop.outs = l ∧ (∀ m, m ≠ 128 + n → m ≠ 192 + n → t.slot m = s.slot m)) ∧
    (∀ r, s.runOf n = some r → r.finish ≤ 398 * due → r.held = true →
      Answers .loopOutput s fun t => t.clk.now = due ∧ t.slot (128 + n) = ⟨(s.slot (128 + n)).tag ||| 0x20, (s.slot (128 + n)).val⟩ ∧
        t.slot (192 + n) = ⟨(s.slot (192 + n)).tag ||| 0x20, (s.slot (192 + n)).val⟩ ∧ t.bit (loopReg Reg.LOOP_STAT n) 9 = true) ∧
    (∀ r, s.runOf n = some r → 398 * due < r.finish →
      Answers .loopOutput s fun t => t.clk.now = due ∧ t.slot (128 + n) = ⟨(s.slot (128 + n)).tag ||| 0x20, (s.slot (128 + n)).val⟩ ∧
        t.slot (192 + n) = s.slot (192 + n) ∧ t.rf (loopReg Reg.LOOP_STAT n) 16 16 = min 65535 (s.rf (loopReg Reg.LOOP_STAT n) 16 16 + 1) ∧ Raised t 0x0902 ∧
        t.rf (loopReg Reg.LOOP_STAT n) 0 2 = min 3 (s.rf (loopReg Reg.LOOP_STAT n) 0 2 + 1) ∧ t.reg (loopReg Reg.LOOP_OUT n) = s.reg (loopReg Reg.LOOP_OUT n)) ∧
    (s.runOf n = none → s.loopMode n = 0 → (s.lc n).fall = none →
      let c := s.lc n
      let lim := sat32 (s.loopPer n * c.co 9)
      let y := max (c.co 7) (min (c.co 8) (if c.co 9 = 0 then c.co 10 else c.y + max (-lim) (min lim (c.co 10 - c.y))))
      Answers .loopOutput s fun t => t.clk.now = due ∧ (t.lc n).y = y ∧ (t.slot (128 + n)) = ⟨0, w32i y⟩ ∧ (t.slot (192 + n)).cond = 3 ∧
        t.bit (loopReg Reg.LOOP_STAT n) 7 = decide (y ≠ c.co 10))

/-- Modes and shadow sets (R220, R227, R229): a mode above 5 or FBMODE 3 is not performed; leaving OFF is refused with ADMREF and LOOP_ADMIT_REF where the test of R229 fails and the register stays; otherwise the register takes the value. APPLY brings the shadow set into force in OFF, MANUAL and TRACK only, and touches no loop it does not name. Host slots (R234): a write gives slot 768 + m the value with COND 0 and clears its HINV bit; a write of LOOP_HINV gives COND 3 to the slots whose bit it sets and 0 to those whose bit it clears (that a clear does so is the model's reading, assumption 40), and keeps their values; the input copy keeps what it held, and the next beat latches the slots; after a reset and after a load every host slot reads 0 with COND 3; the host watchdog changes none. -/
def Obligations.LoopModesShadowSetsAndHostSlots : Prop :=
  (∀ (s : State), s.sys.powered = true →
     (∀ (n : Fin 64) w, (5 < fld w 0 3 ∨ fld w 4 2 = 3) → Answers (.loopModeWrite n w) s fun t => t.loop = s.loop ∧ OnlyRegs s t ∧ KeepsRegs s t []) ∧
     (∀ (n : Fin 64) w x, fld w 0 3 ≤ 5 → fld w 4 2 ≠ 3 → s.loopMode n = 0 → fld w 0 3 ≠ 0 → s.loopPer n ≠ 0 → s.admitTest n (s.loopCost n) = some x →
       Answers (.loopModeWrite n w) s fun t => t.bit (loopReg Reg.LOOP_STAT n) 8 = true ∧ Raised t 0x0901 ∧ t.loop = s.loop ∧ OnlyRegs s t ∧ KeepsRegs s t [loopReg Reg.LOOP_STAT n]) ∧
     (∀ (n : Fin 64) w, fld w 0 3 ≤ 5 → fld w 4 2 ≠ 3 → (s.loopMode n ≠ 0 ∨ fld w 0 3 = 0 ∨ (s.loopPer n ≠ 0 ∧ s.admitTest n (s.loopCost n) = none)) →
       Answers (.loopModeWrite n w) s fun t => t.loopMode n = fld w 0 3 ∧ t.rf (loopReg Reg.LOOP_CTL n) 4 2 = fld w 4 2 ∧ t.rf (loopReg Reg.LOOP_CTL n) 16 16 = fld w 16 16 ∧
         (t.lc n).y = (s.lc n).y ∧ (t.lc n).fall = (s.lc n).fall ∧ (∀ k, k ≠ n.val → t.lc k = s.lc k) ∧
         KeepsRegs s t [loopReg Reg.LOOP_CTL n, loopReg Reg.LOOP_STAT n, loopReg Reg.LOOP_OFS n, Reg.LOOP_ADMIT] ∧ SameMem s t) ∧
     (∀ (k : Fin 2) w, Answers (.loopApply k w) s fun t =>
       (∀ j < 32, bitOf w j = true → (s.loopMode (32 * k + j) = 0 ∨ s.loopMode (32 * k + j) = 1 ∨ s.loopMode (32 * k + j) = 5) →
         (t.lc (32 * k + j)).coef = s.shadow (32 * k + j) ∧ (t.lc (32 * k + j)).sel = s.shadowSel (32 * k + j)) ∧
       (∀ j < 32, bitOf w j = true → s.loopMode (32 * k + j) ≠ 0 → s.loopMode (32 * k + j) ≠ 1 → s.loopMode (32 * k + j) ≠ 5 →
         t.lc (32 * k + j) = s.lc (32 * k + j) ∧ t.bit (loopReg Reg.LOOP_STAT (32 * k + j)) 5 = true) ∧
       (∀ n, (∀ j < 32, bitOf w j = true → n ≠ 32 * k.val + j) → t.lc n = s.lc n) ∧ SameMem s t)) ∧
  (∀ (s : State), s.sys.powered = true →
     (∀ (m : Fin 256) w, Answers (.hostSlotWrite m w) s fun t => t.slot (768 + m) = ⟨0, w⟩ ∧ t.reg (Reg.LOOP_HVAL + 4 * m) = w ∧
       t.bit (Reg.LOOP_HINV + 4 * (m / 32)) (m % 32) = false ∧ (∀ n, n ≠ 768 + m.val → t.slot n = s.slot n) ∧ (∀ n, t.inp n = s.inp n) ∧
       KeepsRegs s t [Reg.LOOP_HVAL + 4 * m, Reg.LOOP_HINV + 4 * (m / 32)]) ∧
     (∀ (k : Fin 8) w, Answers (.hostSlotInvalidate k w) s fun t => t.reg (Reg.LOOP_HINV + 4 * k) = w ∧ KeepsRegs s t [Reg.LOOP_HINV + 4 * k] ∧
       (∀ j < 32, bitOf w j ≠ s.bit (Reg.LOOP_HINV + 4 * k) j → (t.slot (768 + 32 * k + j)).cond = (if bitOf w j = true then 3 else 0) ∧
         (t.slot (768 + 32 * k + j)).val = (s.slot (768 + 32 * k + j)).val) ∧
       (∀ j < 32, bitOf w j = s.bit (Reg.LOOP_HINV + 4 * k) j → t.slot (768 + 32 * k + j) = s.slot (768 + 32 * k + j)) ∧
       (∀ n, n < 768 + 32 * k.val ∨ 800 + 32 * k.val ≤ n → t.slot n = s.slot n) ∧ (∀ n, t.inp n = s.inp n)) ∧
     (s.cmd.coming = [] →
       Answers .beat s (fun t => ∀ m < 256, t.inp (768 + m) = s.slot (768 + m)) ∧
       Answers .wdogExpire s (fun t => ∀ m < 256, t.slot (768 + m) = s.slot (768 + m)) ∧
       (∀ dt src boot keep, s.img.job = .load src boot keep → s.sys.dev = .loading → Answers (.loadEnd dt) s fun t => ∀ m < 256, t.slot (768 + m) = ⟨0xC0, 0⟩) ∧
       (s.sys.released.isSome = true → s.sys.ejLow = false → Answers .reinsertion s fun t => ∀ m < 256, t.slot (768 + m) = ⟨0xC0, 0⟩))) ∧
  (∀ (s0 : State) (dt : Nat),
     (∀ v h st, s0.sys.powered = false → 870 < v → Answers (.powerOn dt v h st) s0 fun t => ∀ m < 256, t.slot (768 + m) = ⟨0xC0, 0⟩) ∧
     (s0.sys.powered = true →
       let s := s0.pass dt;
       (∀ st, Answers (.resetPin dt st) s0 fun t => ∀ m < 256, t.slot (768 + m) = ⟨0xC0, 0⟩) ∧
       Answers (.swrst 0xC0DE) s0 (fun t => ∀ m < 256, t.slot (768 + m) = ⟨0xC0, 0⟩) ∧
       Answers (.clockLoss dt) s0 (fun t => ∀ m < 256, t.slot (768 + m) = ⟨0xC0, 0⟩) ∧
       (∀ v, s.sys.gaspFail = true → s.pfThr + 50 ≤ v → Answers (.brownOut dt v) s0 fun t => ∀ m < 256, t.slot (768 + m) = ⟨0xC0, 0⟩)))

/-! ### Ephemeris and tuning (12) -/

/-- Bins (R244 to R246, R252) and the enable (R229): between two executions CLEAR sets every bin of the loop to 0 and RESTORE to its initial value, both with ue 0, and no other bin, and within one both wait for its end; a host write sets one bin of an allocated loop, and nothing where no loop owns it; EN of an unallocated loop is not performed, and of an allocated one in OFF it is. -/
def Obligations.EphemerisBinsAreSet : Prop :=
  ∀ (s : State), s.sys.powered = true →
    (∀ n : Fin 64, s.runOf n = none → Answers (.ephClear n) s fun t => (∀ b, s.ephBase n ≤ b → b < s.ephBase n + s.ephN n → t.bin b = 0) ∧
      (∀ b, b < s.ephBase n ∨ s.ephBase n + s.ephN n ≤ b → t.bin b = s.bin b) ∧ t.ephUe n = false ∧ KeepsRegs s t [ephReg Reg.EPH_STAT n] ∧ SameMem s t) ∧
    (∀ n : Fin 64, s.runOf n = none → Answers (.ephRestore n) s fun t => (∀ i < s.ephN n, t.bin (s.ephBase n + i) = s.binInit n i * 2 ^ 24) ∧
      (∀ b, b < s.ephBase n ∨ s.ephBase n + s.ephN n ≤ b → t.bin b = s.bin b) ∧ t.ephUe n = false ∧ KeepsRegs s t [ephReg Reg.EPH_STAT n] ∧ SameMem s t) ∧
    (∀ n : Fin 64, s.inExec n = true →
      Answers (.ephClear n) s (fun t => t.eph = { s.eph with binOps := s.eph.binOps ++ [(n.val, false)] } ∧ KeepsRegs s t []) ∧
      Answers (.ephRestore n) s (fun t => t.eph = { s.eph with binOps := s.eph.binOps ++ [(n.val, true)] } ∧ KeepsRegs s t [])) ∧
    (∀ (k : Fin 8192) w n, s.binOwner (8192 * s.rf Reg.EPH_BPAGE 0 3 + k) = some n → s.runOf n = none → Answers (.ephBinWrite k w) s fun t =>
      t.bin (8192 * s.rf Reg.EPH_BPAGE 0 3 + k) = w.toInt * 2 ^ 24 ∧ (∀ b, b ≠ 8192 * s.rf Reg.EPH_BPAGE 0 3 + k → t.bin b = s.bin b) ∧ KeepsRegs s t []) ∧
    (∀ (k : Fin 8192) w, s.binOwner (8192 * s.rf Reg.EPH_BPAGE 0 3 + k) = none → Answers (.ephBinWrite k w) s fun t => t.eph = s.eph ∧ OnlyRegs s t ∧ KeepsRegs s t []) ∧
    (∀ (n : Fin 64) w, bitOf w 0 = true → s.ephNb n = 0 → Answers (.ephEnable n w) s fun t => t.eph = s.eph ∧ OnlyRegs s t ∧ KeepsRegs s t []) ∧
    (∀ (n : Fin 64) w, bitOf w 0 = true → s.ephNb n ≠ 0 → s.loopMode n = 0 → bitOf w 3 = false → bitOf w 4 = false → Answers (.ephEnable n w) s fun t =>
      t.ephOn n = true ∧ (t.reg (ephReg Reg.EPH_LCTL n)).toNat = fld w 0 3 ∧ t.eph = s.eph ∧
      KeepsRegs s t [ephReg Reg.EPH_LCTL n, loopReg Reg.LOOP_STAT n, loopReg Reg.LOOP_OFS n, Reg.LOOP_ADMIT])

/-- Injection and capture (R254 to R261): ARM binds a generator or a channel to a loop in OFF that has none; a generator that is armed or active, and a channel that is bound, misaligned or beyond the store, stays as it is; ABORT and the end of LEN release the loop with ABORTED or DONE; STOP and the end of LEN release a channel with DONE; a queued record goes to its place in DRAM. -/
def Obligations.InjectionAndCapture : Prop :=
  ∀ (s : State), s.sys.powered = true →
    (∀ g : Fin 4, let n := s.rf (genReg Reg.EPH_IGCTL g) 16 6
      s.bit (genReg Reg.EPH_IGCTL g) 24 = false → s.bit (genReg Reg.EPH_IGCTL g) 25 = false → s.genOf n = none → s.loopMode n = 0 →
      Answers (.injArm g) s fun t => (t.gen g).bound = some n ∧ t.bit (genReg Reg.EPH_IGCTL g) 24 = true ∧ t.genM g = 0 ∧ (s.bit (genReg Reg.EPH_IGCTL g) 2 = false → (t.gen g).start = s.ntNs) ∧
        KeepsRegs s t [genReg Reg.EPH_IGCTL g, genReg Reg.EPH_IGM g, loopReg Reg.LOOP_STAT n, loopReg Reg.LOOP_OFS n, Reg.LOOP_ADMIT]) ∧
    (∀ g : Fin 4, (s.bit (genReg Reg.EPH_IGCTL g) 24 = true ∨ s.bit (genReg Reg.EPH_IGCTL g) 25 = true ∨ s.genOf (s.rf (genReg Reg.EPH_IGCTL g) 16 6) ≠ none) →
      Answers (.injArm g) s fun t => t.eph = s.eph ∧ OnlyRegs s t ∧ KeepsRegs s t []) ∧
    (∀ (g : Fin 4) n, (s.gen g).bound = some n → n < 64 → Answers (.injAbort g) s fun t => (t.gen g).bound = none ∧ t.bit (genReg Reg.EPH_IGCTL g) 24 = false ∧
      t.bit (genReg Reg.EPH_IGCTL g) 25 = false ∧ t.bit (genReg Reg.EPH_IGCTL g) 27 = true ∧ Raised t 0x0A02 ∧ t.loop = s.loop ∧ SameMem s t) ∧
    (∀ (g : Fin 4) n, (s.gen g).bound = some n → n < 64 → s.genAct g = true → s.genLen g ≤ s.genM g → Answers (.ephInjEnd g) s fun t => (t.gen g).bound = none ∧
      t.bit (genReg Reg.EPH_IGCTL g) 25 = false ∧ t.bit (genReg Reg.EPH_IGCTL g) 26 = true ∧ Raised t 0x0A02 ∧ t.loop = s.loop ∧ SameMem s t) ∧
    (∀ c : Fin 8, let n := s.rf (chanReg Reg.EPH_CCTL c) 8 6
      let base := (s.reg (chanReg Reg.EPH_CBASE c)).toNat
      let far := 2048 * (s.reg Reg.VSN_CAP_SLOTS).toNat + base + 32 * (s.reg (chanReg Reg.EPH_CBASE c + 4)).toNat
      ((s.chan c).bound = none → s.chanOf n = none → base % 32 = 0 → far ≤ s.capStore → s.loopMode n = 0 →
        Answers (.capArm c) s fun t => (t.chan c).bound = some n ∧ t.bit (chanReg Reg.EPH_CCTL c) 24 = true ∧ t.reg (chanReg Reg.EPH_CCNT c) = 0 ∧
          (s.rf (chanReg Reg.EPH_CCTL c) 2 2 = 0 → (t.chan c).start = some (s.ntNs : Int))) ∧
      (((s.chan c).bound ≠ none ∨ s.chanOf n ≠ none ∨ base % 32 ≠ 0 ∨ s.capStore < far) → Answers (.capArm c) s fun t => t.eph = s.eph ∧ OnlyRegs s t ∧ KeepsRegs s t [])) ∧
    (∀ (c : Fin 8) n, (s.chan c).bound = some n → n < 64 → Answers (.capStop c) s fun t => (t.chan c).bound = none ∧ t.bit (chanReg Reg.EPH_CCTL c) 24 = false ∧
      t.bit (chanReg Reg.EPH_CCTL c) 25 = false ∧ t.bit (chanReg Reg.EPH_CCTL c) 26 = true ∧ Raised t 0x0A03 ∧ t.loop = s.loop ∧ SameMem s t) ∧
    (∀ (c : Fin 8) n, (s.chan c).bound = some n → n < 64 → s.bit (chanReg Reg.EPH_CCTL c) 25 = true →
      (s.reg (chanReg Reg.EPH_CBASE c + 4)).toNat ≤ (s.reg (chanReg Reg.EPH_CCNT c)).toNat →
      Answers (.ephCapDone c) s fun t => (t.chan c).bound = none ∧ t.bit (chanReg Reg.EPH_CCTL c) 26 = true ∧ Raised t 0x0A03 ∧ SameMem s t) ∧
    (∀ c i a bs q, s.eph.capq = (c, i, a, bs) :: q → c < 8 → Answers .captureQueueWrite s fun t => t.eph.capq = q ∧ (∀ j < bs.length, t.dramByte (a + j) = bs.getD j 0) ∧
      (∀ b, b < a ∨ a + bs.length ≤ b → t.dramByte b = s.dramByte b) ∧ t.reg (chanReg Reg.EPH_CCNT c + 4) = w32 i ∧ KeepsRegs s t [chanReg Reg.EPH_CCNT c + 4])

/-! ### Sensor front end (13) -/

/-- RANGE_SAMPLE (R263, R269, R270): the common counter goes on by one; a channel that does not convert holds what it holds; in one that does, a decision two samples old takes force, one range at most, and its change is counted; the first stage's value is corrected at that range (the trims are free: assumption 66), and is replaced by the last good one across a change; the range of the next decision is a neighbour, without AUTO there is none, and a value above 87.5 % of full scale decides for the range below. -/
def Obligations.RangeDecisionsFollowSamples : Prop :=
  ∀ (s0 : State) (dt : Nat) (xs : List (List Int × Bool)), s0.sys.powered = true →
    let s := s0.pass dt
    Answers (.rangeSample dt xs) s0 fun t => t.afe.n = s.afe.n + 1 ∧ t.clk.now = s.clk.now ∧ KeepsRegs s t (run Reg.AFE_RCNT 16) ∧ SameMem s t ∧
      ∀ k < 16, (s.afeOn k = false → t.ac k = s.ac k ∧ t.reg (Reg.AFE_RCNT + 4 * k) = s.reg (Reg.AFE_RCNT + 4 * k)) ∧
        (s.afeOn k = true →
          let c := s.ac k
          let r := max (c.range - 1) (min (c.range + 1) (c.dec2.getD c.range))
          let first := combs (((xs.getD k ([], false)).1.foldl (fun l m => integrate m l) c.fig).getLastD 0) c.fcb
          let x := afeCorrect k r first.1
          let repl := if r = c.range then c.repl else 2
          (t.ac k).range = r ∧ (t.ac k).dec2 = c.dec1 ∧ (t.ac k).fcb = first.2 ∧ (t.ac k).prev = (if repl = 0 then x else c.prev) ∧ (t.ac k).repl = repl - 1 ∧
          t.reg (Reg.AFE_RCNT + 4 * k) = (if r = c.range then s.reg (Reg.AFE_RCNT + 4 * k) else satInc (s.reg (Reg.AFE_RCNT + 4 * k))) ∧
          ((t.ac k).dec1 = none ∨ (t.ac k).dec1 = some (r - 1) ∨ (t.ac k).dec1 = some (r + 1)) ∧
          (s.bit (cfgA k) 12 = false → (t.ac k).dec1 = none) ∧
          (s.bit (cfgA k) 12 = true → repl = 0 → r ≠ 0 → 7 * 2 ^ 28 < x.natAbs * 2 ^ r → (t.ac k).dec1 = some (r - 1)))

/-- OUTPUT_SAMPLE (R263 to R265, R271, R274, R276): within 15 µs of its last modulator sample; without a finished window nothing happens; a channel that does not convert reads COND 3 with its old value; a suppressed one writes nothing; one without a curve writes its raw value with RANGE, TR and SAT; with OPENDET a second current below 3.6 mA gives COND 1 and keeps the value. -/
def Obligations.OutputSamplesWriteSlots : Prop :=
  ∀ (s0 : State) (dt : Nat) (k : Fin 16) (low : Bool), s0.sys.powered = true →
    let s := s0.pass (s0.outWait k dt)
    let den := (if s.sinc1 k = true then s.chM k else s.chM k ^ 4) * 2 ^ 31
    (∀ w, (s0.ac k).out = some w → s.clk.now ≤ max s0.clk.now (w.tick + 3750)) ∧
    ((s.ac k).out = none → Answers (.outputSample dt k low) s0 fun t => t.afe = s.afe ∧ SameMem s t ∧ KeepsRegs s t []) ∧
    (∀ w, (s.ac k).out = some w → s.afeOn k = false → Answers (.outputSample dt k low) s0 fun t =>
      t.slot k = ⟨BitVec.ofNat 8 (192 + (s.ac k).range), (s.slot k).val⟩ ∧ (t.ac k).out = none ∧ KeepsRegs s t [chstA k]) ∧
    (s.afeOn k = true → (s.bit (excA (k / 2)) 17 = false ∨ s.afe.excOff.getLsbD (k / 2) = false) →
      (∀ w u, (s.ac k).out = some w → s.afeMode k ≠ 4 → s.afeMode k ≠ 5 → (s.ac k).supEnd = some u →
        Answers (.outputSample dt k low) s0 fun t => (t.ac k).out = none ∧ SameMem s t ∧ KeepsRegs s t []) ∧
      (∀ w, (s.ac k).out = some w → s.afeMode k ≠ 4 → s.afeMode k ≠ 5 → (s.ac k).supEnd = none →
        s.bit (cfgA k) 21 = false → (s.ac k).cond = 0 → s.afeCurve k = 0 →
        let raw := sat32 (divRound (w.sum * fs0 (s.afeMode k) * 65536) den)
        Answers (.outputSample dt k low) s0 fun t => t.slot k = ⟨BitVec.ofNat 8 (w.range + 8 * b2n w.tr + 16 * b2n w.sat), w32i raw⟩ ∧ t.reg (Reg.AFE_RAW + 4 * k) = w32i raw ∧
          t.reg (Reg.AFE_SATCNT + 4 * k) = (if w.sat = true then satInc (s.reg (Reg.AFE_SATCNT + 4 * k)) else s.reg (Reg.AFE_SATCNT + 4 * k)) ∧ (t.ac k).valid = true ∧
          (∀ n, n ≠ k.val → t.slot n = s.slot n) ∧ KeepsRegs s t [Reg.AFE_RAW + 4 * k, Reg.AFE_SATCNT + 4 * k, chstA k]) ∧
      (∀ w, (s.ac k).out = some w → w.range < 8 → s.afeMode k = 3 → (s.ac k).supEnd = none → s.bit (cfgA k) 21 = true → 1 ≤ (s.ac k).runOpen →
        sat32 (divRound (w.sum * 25 * 65536) den) * 1000 < 3600 * 65536 →
        Answers (.outputSample dt k low) s0 fun t => (t.ac k).cond = 1 ∧ (t.slot k).val = (s.slot k).val ∧ (t.slot k).cond = 1))

/-- Excitation and enables (R265, R274, R277, R283): a new level flushes and suppresses both channels of the pair, the level in force or a reserved one does nothing; the suppression ends on its tick; a fault switches the output off, sets FAULT and gives both channels COND 3; after 1 s it is on again, and 100 ms later FAULT clears; a cleared enable gives COND 3, a set one starts the channel in RSTART. -/
def Obligations.ExcitationAndEnables : Prop :=
  (∀ (s : State), s.sys.powered = true → s.cmd.coming = [] →
    (∀ (j : Fin 8) w, (4 < fld w 0 3 ∨ s.rf (excA j) 0 3 = fld w 0 3) → Answers (.excLevelWrite j w) s fun t => t.afe = s.afe ∧ OnlyRegs s t ∧ KeepsRegs s t []) ∧
    (∀ (j : Fin 8) w, fld w 0 3 ≤ 4 → s.rf (excA j) 0 3 ≠ fld w 0 3 → Answers (.excLevelWrite j w) s fun t => t.rf (excA j) 0 3 = fld w 0 3 ∧
      (∀ k, k / 2 = j.val → s.afeOn k = true → (t.ac k).ig = [0, 0, 0, 0] ∧ (t.ac k).out = none ∧ (t.ac k).range = (s.ac k).range ∧
        (t.ac k).supEnd = some (s.clk.now + usTicks (100 * s.rf (excA j) 8 8 + afeLen (s.rf (cfgA k) 4 4) (s.sinc1 k)))) ∧
      (∀ k < 16, k / 2 ≠ j.val → t.ac k = s.ac k) ∧ KeepsRegs s t [excA j, Reg.AFE_STAT, chstA (2 * j), chstA (2 * j + 1)]) ∧
    (∀ (k : Fin 16) u, (s.ac k).supEnd = some u → Answers (.suppressionEnd k) s fun t => (t.ac k).supEnd = none ∧ t.bit Reg.AFE_STAT k = false ∧ t.clk.now = max s.clk.now u ∧
      SameMem s t ∧ KeepsRegs s t [Reg.AFE_STAT, excA (k / 2)]) ∧
    (∀ j : Fin 8, s.afe.excOff.getLsbD j = true → s.sys.gaspDone = false → Answers (.excRestart j) s fun t => t.afe.excOff.getLsbD j = false ∧ t.bit (excA j) 17 = s.bit (excA j) 17 ∧
      t.clk.now = max s.clk.now (storeGet (fun _ => 0) s.afe.excTick j + 250000000)) ∧
    (∀ j : Fin 8, storeGet (fun _ => 0) s.afe.restarted j ≠ 0 → Answers (.excFaultClear j) s fun t => t.bit (excA j) 17 = false ∧ t.bit Reg.AFE_STAT (16 + j) = false ∧
      t.clk.now = max s.clk.now (storeGet (fun _ => 0) s.afe.restarted j - 1 + 25000000) ∧ SameMem s t ∧ KeepsRegs s t [excA j, Reg.AFE_STAT]) ∧
    (∀ w : Word, Answers (.afeChenWrite w) s fun t => (t.reg Reg.AFE_CHEN).toNat = fld w 0 16 ∧
      (∀ k < 16, bitOf w k = s.bit Reg.AFE_CHEN k → t.ac k = s.ac k ∧ t.slot k = s.slot k) ∧
      (∀ k < 16, s.afeMode k ≠ 0 → bitOf w k = false → s.bit Reg.AFE_CHEN k = true → (s.ac k).range < 8 → (t.slot k).cond = 3 ∧ (t.slot k).val = (s.slot k).val ∧ (t.ac k).supEnd = none) ∧
      (∀ k < 16, s.afeMode k ≠ 0 → bitOf w k = true → s.bit Reg.AFE_CHEN k = false → (t.ac k).range = s.rstart k ∧ (t.ac k).valid = false ∧ (t.slot k).cond = 3))) ∧
  (∀ (s0 : State) (dt : Nat), s0.sys.powered = true →
    let s := s0.pass dt
    (∀ (j : Fin 8) q, s.excOn j = true → Answers (.afeExcFault dt j q) s0 fun t => t.bit (excA j) 17 = true ∧ t.bit Reg.AFE_STAT (16 + j) = true ∧ t.rf (excA j) 24 8 = 0 ∧
      t.excOn j = false ∧ Raised t 0x0B03 ∧ ∀ k, k / 2 = j.val → s.afeOn k = true → (s.ac k).range < 8 → (t.slot k).cond = 3 ∧ (t.slot k).val = (s.slot k).val) ∧
    (∀ (j : Fin 8) q, s.excOn j = false → Answers (.afeExcFault dt j q) s0 fun t => t.afe = s.afe ∧ SameMem s t ∧ KeepsRegs s t []))

/-! ### CAN FD (15) -/

/-- CAN_RX_FRAME and the receive side (R308, R309, R306, R314): the first matching element sends a frame to its FIFO, where it is stored behind the others or, with 64 entries, lost and counted with OVF; one rejected reaches no FIFO; an FD frame with FDOE 0 is a form error. RELEASE takes the n oldest entries and resets PEEK, and is not performed for 0 or more than FILL. A decoded signal that has timed out takes COND 3 and keeps its value. -/
def Obligations.CanReceivesThroughFilters : Prop :=
  (∀ (s0 : State) (dt : Nat) (x : Fin 2), s0.sys.powered = true →
    let s := s0.pass dt
    (∀ f e, s.canOnBus x = true → (s.can x).mode ≠ 4 → (f.fdf = true → s.bit (Reg.CAN_CTL x) 6 = true) → s.canElement x (canWord f) = some e →
      s.rf (Reg.CAN_FCTL x + 4 * e) 4 3 = 1 → (s.can x).fifo0.length < 64 → Answers (.canRxFrame dt x f) s0 fun t =>
        (t.can x).fifo0 = (s.can x).fifo0 ++ [s.canEntry x f e (s.rf (Reg.CAN_FCTL x + 4 * e) 8 8)] ∧ (t.can x).fifo1 = (s.can x).fifo1 ∧
        t.reg (Reg.CAN_RXOK_CNT x) = satInc (s.reg (Reg.CAN_RXOK_CNT x)) ∧ t.rf (Reg.CAN_RXF_ST x) 0 7 = (s.can x).fifo0.length + 1 ∧
        t.rf (Reg.CAN_RXF_ST x) 8 8 = (s.rf (Reg.CAN_RXF_ST x) 8 8 + 1) % 256 ∧ t.can (1 - x) = s.can (1 - x) ∧ SameMem s t) ∧
    (∀ f e, s.canOnBus x = true → (s.can x).mode ≠ 4 → (f.fdf = true → s.bit (Reg.CAN_CTL x) 6 = true) → s.canElement x (canWord f) = some e →
      s.rf (Reg.CAN_FCTL x + 4 * e) 4 3 = 2 → 64 ≤ (s.can x).fifo1.length → Answers (.canRxFrame dt x f) s0 fun t =>
        (t.can x).fifo1 = (s.can x).fifo1 ∧ (t.can x).fifo0 = (s.can x).fifo0 ∧ t.bit (Reg.CAN_RXF_ST x + 0x100) 16 = true ∧
        t.reg (Reg.CAN_RXOK_CNT x + 12) = satInc (s.reg (Reg.CAN_RXOK_CNT x + 12)) ∧ SameMem s t) ∧
    (∀ f e, s.canOnBus x = true → (s.can x).mode ≠ 4 → (f.fdf = true → s.bit (Reg.CAN_CTL x) 6 = true) → s.canElement x (canWord f) = some e →
      s.rf (Reg.CAN_FCTL x + 4 * e) 4 3 = 0 → Answers (.canRxFrame dt x f) s0 fun t => (t.can x).fifo0 = (s.can x).fifo0 ∧ (t.can x).fifo1 = (s.can x).fifo1 ∧
        t.reg (Reg.CAN_RXOK_CNT x + 0x10) = satInc (s.reg (Reg.CAN_RXOK_CNT x + 0x10)) ∧ SameMem s t) ∧
    (∀ f, s.canOnBus x = true → (s.can x).mode ≠ 4 → f.fdf = true → s.bit (Reg.CAN_CTL x) 6 = false → Answers (.canRxFrame dt x f) s0 fun t =>
      t.rf (Reg.CAN_STAT x) 5 3 = 2 ∧ (t.can x).fifo0 = (s.can x).fifo0 ∧ (t.can x).fifo1 = (s.can x).fifo1 ∧ t.reg (Reg.CAN_RXOK_CNT x) = s.reg (Reg.CAN_RXOK_CNT x)) ∧
    (∀ f, s.canOnBus x = false → Answers (.canRxFrame dt x f) s0 fun t => t.can x = s.can x ∧ SameMem s t ∧ KeepsRegs s t [])) ∧
  (∀ (s : State) (x : Fin 2), s.sys.powered = true →
    (∀ (k : Fin 2) n, (n = 0 ∨ ((s.can x).fifo k).length < n.toNat) → Answers (.canRxRelease x k n) s fun t => t.can x = s.can x ∧ OnlyRegs s t ∧ KeepsRegs s t []) ∧
    (∀ (k : Fin 2) n, n ≠ 0 → n.toNat ≤ ((s.can x).fifo k).length → Answers (.canRxRelease x k n) s fun t => (t.can x).fifo k = ((s.can x).fifo k).drop n.toNat ∧
      t.rf (Reg.CAN_RXF_ST x + 0x100 * k) 24 6 = 0 ∧ (t.can x).fifo (1 - k) = (s.can x).fifo (1 - k) ∧ t.can (1 - x) = s.can (1 - x) ∧
      KeepsRegs s t [Reg.CAN_RXF_ST x, Reg.CAN_RXF_ST x + 0x100, Reg.CAN_TXQ_ST x, Reg.CAN_STAT x]) ∧
    (∀ e : Fin 256, s.cmd.coming = [] → storeGet (fun _ => 0) (s.can x).decAt e ≠ 0 → s.canTmo x e ≠ 0 → Answers (.canDecTmo x e) s fun t => (t.slot (256 + 256 * x + e)).cond = 3 ∧
      (t.slot (256 + 256 * x + e)).val = (s.slot (256 + 256 * x + e)).val ∧ t.clk.now = max s.clk.now (storeGet (fun _ => 0) (s.can x).decAt e - 1 + s.canTmo x e) ∧ KeepsRegs s t []))

/-- The transmit side (R302, R307, R311 to R313, R315): PUSH joins the tail, or changes nothing with 32 queued or a format not to be sent; ABORT_HEAD and FLUSH remove at once what is not in transmission; an attempt offers the candidate that wins arbitration; a frame sent leaves the queue and is counted; one that failed stays the head, or goes if it was aborted. -/
def Obligations.CanTransmitsInOrder : Prop :=
  (∀ (s : State) (x : Fin 2), s.sys.powered = true →
    (let f := s.canStaged (Reg.CAN_TXW x);
      ((f.fdf = true ∧ s.bit (Reg.CAN_CTL x) 6 = false) ∨ (f.brs = true ∧ f.fdf = false) ∨ (f.rtr = true ∧ f.fdf = true) ∨ 32 ≤ (s.can x).q.length →
        Answers (.canTxPush x) s fun t => t.can x = s.can x ∧ OnlyRegs s t ∧ KeepsRegs s t []) ∧
      ((f.fdf = true → s.bit (Reg.CAN_CTL x) 6 = true) → (f.brs = true → f.fdf = true) → (f.rtr = true → f.fdf = false) → (s.can x).q.length < 32 →
        Answers (.canTxPush x) s fun t => (t.can x).q = (s.can x).q ++ [f] ∧ t.rf (Reg.CAN_TXQ_ST x) 0 6 = (s.can x).q.length + 1 ∧ t.can (1 - x) = s.can (1 - x))) ∧
    (∀ f r, (s.can x).q = f :: r → (s.can x).tx = none → Answers (.canAbortHead x) s fun t => (t.can x).q = r ∧ t.bit (Reg.CAN_TXQ_ST x) 16 = true ∧
      t.reg (Reg.CAN_RXOK_CNT x + 0x1C) = satInc (s.reg (Reg.CAN_RXOK_CNT x + 0x1C))) ∧
    (∀ u, (s.can x).tx = some u → u.src = 0 → Answers (.canAbortHead x) s fun t => (t.can x).q = (s.can x).q ∧ (t.can x).tx = some { u with abort := true } ∧ KeepsRegs s t []) ∧
    ((s.can x).tx = none → Answers (.canFlush x) s fun t => (t.can x).q = [] ∧ t.rf (Reg.CAN_TXQ_ST x) 0 6 = 0 ∧ (t.can x).enc = (s.can x).enc) ∧
    (∀ T, s.cmd.coming = [] → s.loop.encAt = some T → Answers .canEncode s fun t => t.loop.encAt = none ∧ t.clk.now = s.clk.now + s.ticksTo T ∧ SameMem s t ∧
      ∀ f < 32, (s.canx x (5664 + 16 * f + 5) 1) % 4 = 1 → s.canx x (5664 + 16 * f + 6) 2 ≠ 0 → s.clk.beat % s.canx x (5664 + 16 * f + 6) 2 = s.canx x (5664 + 16 * f + 8) 2 →
        ∃ fr, (f, fr) ∈ (t.can x).enc ∧ fr.data = s.encData x f)) ∧
  (∀ (s0 : State) (dt : Nat) (x : Fin 2), s0.sys.powered = true →
    let s := s0.pass dt
    (s.canOnBus x = true → (s.can x).mode = 1 → s.rf (Reg.CAN_CTL x) 0 3 = 1 → (s.can x).tx = none → (∀ b < 4, s.ttState x b ≠ 2) → s.canCands x ≠ [] →
      Answers (.canTxAttempt dt x) s0 fun t =>
        ∃ u, (t.can x).tx = some u ∧ u.start = s.clk.now ∧ u.abort = false ∧ (∃ c ∈ s.canCands x, u.src = c.1 ∧ u.num = c.2.1 ∧ u.frame = c.2.2) ∧
          (u.frame.fdf = true → s.bit (Reg.CAN_CTL x) 6 = true) ∧ (∀ c ∈ s.canCands x, u.frame.arb ≤ c.2.2.arb) ∧ (t.can x).q = (s.can x).q ∧ (t.can x).enc = (s.can x).enc) ∧
    ((s.can x).reload = false →
      (∀ u f r es, (s.can x).tx = some u → u.src = 0 → (s.can x).q = f :: r → (s.can x).mode = 1 → s.canSsp x u.frame = false → Answers (.canTxEnd dt x (.sent es)) s0 fun t =>
        (t.can x).q = r ∧ (t.can x).tx = none ∧ t.reg (Reg.CAN_RXOK_CNT x + 4) = satInc (s.reg (Reg.CAN_RXOK_CNT x + 4)) ∧ t.tec x = min 256 (s.tec x - 1)) ∧
      (∀ u, (s.can x).tx = some u → u.src = 0 → u.abort = false → Answers (.canTxEnd dt x .lost) s0 fun t => (t.can x).q = (s.can x).q ∧ (t.can x).tx = none ∧ t.tec x = s.tec x) ∧
      (∀ u f r code more es, (s.can x).tx = some u → u.src = 0 → (s.can x).q = f :: r → code < 8 → Answers (.canTxEnd dt x (.error code false more es)) s0 fun t =>
        (t.can x).q = (if u.abort = true then r else f :: r) ∧ (t.can x).tx = none ∧ t.tec x = min 256 (s.tec x + 8 + 8 * more) ∧ t.rf (Reg.CAN_STAT x) 5 3 = code)))

/-- Timed buffers, modes and fault confinement (R305, R306, R313, R316): ARM of an idle buffer with a valid instant and window, its instant, CANCEL, and LATE at an attempt past the window; a mode above 4 is not performed, leaving CONFIG begins integration, which ends after 11 recessive bits, and a change takes effect when no frame is in progress; bus-off recovery ends with both counters 0; receive errors raise RXERR by the rules in NORMAL only; at each NT second the counters are latched. -/
def Obligations.CanTimedBuffersAndModes : Prop :=
  (∀ (s : State) (x : Fin 2), s.sys.powered = true → s.cmd.coming = [] →
    (∀ b : Fin 4, s.ttState x b = 0 → (s.reg (ttA x b + 4)).toNat ≤ 999999999 → s.rf (ttA x b + 16) 0 16 ≠ 0 → Answers (.canTtArm x b) s fun t =>
      t.ttState x b = 1 ∧ (t.can x).q = (s.can x).q ∧ KeepsRegs s t [ttA x b]) ∧
    (∀ b : Fin 4, (s.ttState x b ≠ 0 ∨ 999999999 < (s.reg (ttA x b + 4)).toNat ∨ s.rf (ttA x b + 16) 0 16 = 0) → Answers (.canTtArm x b) s fun t =>
      t.can x = s.can x ∧ OnlyRegs s t ∧ KeepsRegs s t []) ∧
    (∀ b : Fin 4, s.ttState x b = 1 → Answers (.canTtInstant x b) s fun t => t.ttState x b = 2 ∧ t.clk.now = s.clk.now + s.ticksTo (s.ttInst x b) ∧ KeepsRegs s t [ttA x b]) ∧
    (∀ b : Fin 4, s.ttState x b ≠ 3 → Answers (.canTtCancel x b) s fun t => t.ttState x b = 0 ∧ t.can x = s.can x ∧ KeepsRegs s t [ttA x b]) ∧
    (∀ (b : Fin 4) u, s.ttState x b = 3 → (s.can x).tx = some u → Answers (.canTtCancel x b) s fun t => (t.can x).tx = some { u with abort := true } ∧ KeepsRegs s t []) ∧
    (∀ w, 4 < fld w 0 3 → Answers (.canModeWrite x w) s fun t => t.can x = s.can x ∧ OnlyRegs s t ∧ KeepsRegs s t []) ∧
    (∀ w, (s.can x).mode = 0 → 1 ≤ fld w 0 3 → fld w 0 3 ≤ 4 → Answers (.canModeWrite x w) s fun t => t.rf (Reg.CAN_CTL x) 0 3 = fld w 0 3 ∧ (t.can x).mode = fld w 0 3 ∧
      t.bit (Reg.CAN_STAT x) 2 = true ∧ t.bit (Reg.CAN_CTL x) 6 = bitOf w 6 ∧ (t.can x).q = (s.can x).q) ∧
    (s.rf (Reg.CAN_STAT x) 0 2 = 2 → Answers (.canRecover x) s fun t => (t.can x).recov = true ∧ KeepsRegs s t []) ∧
    Answers .ntSecond s (fun t => t.second = s.nextSecond ∧ t.clk.now = s.clk.now + s.ticksTo (s.nextSecond * 1000000000 : Nat) ∧ t.reg (Reg.CAN_TSC x + 4) = w32 (s.tsc x t.clk.now) ∧
      t.reg (Reg.CAN_TSC x + 8) = w32 s.nextSecond ∧ KeepsRegs s t [Reg.CAN_TSC 0 + 4, Reg.CAN_TSC 0 + 8, Reg.CAN_TSC 1 + 4, Reg.CAN_TSC 1 + 8])) ∧
  (∀ (s0 : State) (dt : Nat) (x : Fin 2), s0.sys.powered = true →
    let s := s0.pass dt
    (∀ b : Fin 4, s.canOnBus x = true → (s.can x).mode = 1 → s.rf (Reg.CAN_CTL x) 0 3 = 1 → (s.can x).tx = none → s.ttState x b = 2 →
      (s.ttInst x b + 1000 * (s.rf (ttA x b + 16) 0 16 : Int) + 1) * 2 ^ 32 ≤ (s.clk.nt : Int) → Answers (.canTxAttempt dt x) s0 fun t =>
        t.ttState x b = 0 ∧ t.bit (ttA x b) 5 = true) ∧
    (s.bit (Reg.CAN_STAT x) 2 = false → (s.can x).tx = none → s.rf (Reg.CAN_CTL x) 0 3 ≠ (s.can x).mode → Answers (.canModeEffect dt x) s0 fun t =>
      (t.can x).mode = s.rf (Reg.CAN_CTL x) 0 3 ∧ (t.can x).q = (s.can x).q ∧ KeepsRegs s t [Reg.CAN_STAT x]) ∧
    (s.bit (Reg.CAN_STAT x) 2 = true → s.rf (Reg.CAN_CTL x) 0 3 = (s.can x).mode → Answers (.canModeEffect dt x) s0 fun t =>
      t.can x = s.can x ∧ t.bit (Reg.CAN_STAT x) 2 = false ∧ KeepsRegs s t [Reg.CAN_STAT x]) ∧
    (s.rf (Reg.CAN_STAT x) 0 2 = 2 → (s.can x).recov = true → Answers (.canRecovered dt x) s0 fun t => t.tec x = 0 ∧ t.recv x = 0 ∧ t.rf (Reg.CAN_STAT x) 0 2 = 0 ∧
      (t.can x).recov = false ∧ KeepsRegs s t [Reg.CAN_TXERR x, Reg.CAN_RXERR x, Reg.CAN_STAT x]) ∧
    (∀ (code : Fin 8) n, s.canOnBus x = true → (s.can x).mode = 1 → Answers (.canProtoError dt x code n) s0 fun t => t.rf (Reg.CAN_STAT x) 5 3 = code ∧
      t.recv x = min 255 (s.recv x + 1 + 8 * n) ∧
      t.rf (Reg.CAN_STAT x) 0 2 = if 255 < s.tec x then 2 else if 128 ≤ s.tec x ∨ 128 ≤ s.recv x + 1 + 8 * n then 1 else 0) ∧
    (∀ (code : Fin 8) n, s.canOnBus x = true → (s.can x).mode = 2 → Answers (.canProtoError dt x code n) s0 fun t => t.rf (Reg.CAN_STAT x) 5 3 = code ∧ t.recv x = s.recv x ∧ t.tec x = s.tec x))

/-! ### Structure image (03) -/

/-- VERIFY, COMMIT and the end of a load (R57, R58, R61 to R63). VERIFY where it may not start changes nothing; started, it is BUSY and clears what an earlier one showed; it ends by its bound, and the result of the checks stands in ERR, ERR_SECT and IMG_ERR_OFF. COMMIT is for READY: it empties queue and calendar, withholds every shot not yet open and enters LOADING. After a load, within its bound, the device is READY: with the source in force where it passes, else with the copy in force loaded again where that passes, else with no image; one that a power failure has overtaken does nothing. A source that fails takes IMG_LOAD_FAIL, one that passes IMG_LOAD. -/
def Obligations.ImageIsVerifiedAndLoaded : Prop :=
  ∀ (s : State) (dt : Nat), s.sys.powered = true →
    (∀ src : Fin 4, s.mayVerify src = false → Answers (.verify src) s fun t => t.img = s.img ∧ OnlyRegs s t ∧ KeepsRegs s t []) ∧
    (∀ src : Fin 4, s.mayVerify src = true → Answers (.verify src) s fun t => t.img = { s.img with job := .verify src, began := s.clk.now } ∧
      t.bit Reg.IMG_STATUS 2 = true ∧ (src = 0 → t.bit Reg.IMG_STATUS 3 = false ∧ t.bit Reg.IMG_STATUS 5 = false ∧ t.reg Reg.IMG_SWAP_SECT = 0) ∧ SameMem s t ∧
      KeepsRegs s t [Reg.IMG_CTL, Reg.IMG_STATUS, Reg.IMG_SWAP_SECT]) ∧
    (∀ (src : Fin 4) k, s.mayCommit src = false → Answers (.commit src k) s fun t => t.img = s.img ∧ t.sys = s.sys ∧ OnlyRegs s t ∧ KeepsRegs s t []) ∧
    (∀ (src : Fin 4) k, s.mayCommit src = true → Answers (.commit src k) s fun t => t.sys.dev = .loading ∧ t.sys.cause = 8 ∧ t.img.job = .load src false k ∧ t.img.began = s.clk.now ∧
      t.bit Reg.IMG_STATUS 2 = true ∧ t.cmd.queue = [] ∧ t.trn.cal = [] ∧ (∀ h ∈ t.trn.shots, h.phase ≠ .frozen ∧ h.phase ≠ .handed ∧ h.phase ≠ .pending) ∧ SameMem s t) ∧
    (s.cmd.coming = [] →
      (∀ src, s.img.job = .verify src →
        let u := s.within dt (s.img.began + s.verifyTicks src)
        let v := u.checkSrc src (u.ueBetween u.img.began u.clk.now)
        Answers (.verifyEnd dt) s fun t => t.img.job = .idle ∧ t.rf Reg.IMG_STATUS 8 4 = v.err % 16 ∧ t.rf Reg.IMG_STATUS 16 5 = v.sect % 32 ∧ t.reg Reg.IMG_ERR_OFF = w32 v.off ∧
          t.bit Reg.IMG_STATUS 3 = (s.bit Reg.IMG_STATUS 3 || (src == 0 && v.err == 0)) ∧ t.clk.now ≤ max s.clk.now (s.img.began + s.verifyTicks src) ∧ SameMem s t ∧ t.sys = s.sys ∧
          KeepsRegs s t [Reg.IMG_STATUS, Reg.IMG_ERR_OFF, Reg.IMG_SWAP_SECT]) ∧
      (∀ src k, src < 3 → s.img.job = .load src false k → s.sys.dev = .loading → s.sys.ejLow = false →
        let u := s.within dt (s.loadDue src false)
        let v := u.firstRun src
        let v3 := u.checkSrc 3 (u.ueLater src)
        Answers (.loadEnd dt) s fun t => t.sys.dev = .ready ∧ t.sys.cause = 9 ∧ t.img.job = .idle ∧ t.clk.now = u.clk.now ∧ t.bit Reg.IMG_STATUS 2 = (!s.img.commits.isEmpty || s.img.swapDue.isSome) ∧
          Raised t (if v.err = 0 then 0x0101 else 0x0102) ∧
          t.rf Reg.IMG_STATUS 0 2 = (if v.err = 0 then (if src = 0 then 3 else src) else if s.hasImage = true ∧ v3.err = 0 then s.rf Reg.IMG_STATUS 0 2 else 0) ∧
          t.rf Reg.IMG_STATUS 8 4 = (if v.err = 0 then 0 else if s.hasImage = true ∧ v3.err ≠ 0 then v3.err % 16 else v.err % 16)) ∧
      (∀ src b k, s.img.job = .load src b k → s.sys.dev ≠ .loading → Answers (.loadEnd dt) s fun t => t.img.job = .idle ∧ t.sys = s.sys ∧ SameMem s t ∧ KeepsRegs s t [Reg.IMG_STATUS]))

/-- NOR slots (R59, R60) and the key store (R56). Work on a slot is not performed in BOOT and LOADING (nor, by the model's choice, on SLOT 0 and 3: assumption 68); an erase leaves 0xFF in every byte of its slot and no other byte changed; a commit ends with its checks' result and marks its slot; PREFER takes a valid slot only, and the directory then names it; a word drained from the queue stands in its slot. PROG is for READY and an empty store; programmed, the store shows SET. -/
def Obligations.NorSlotsAndKeyStore : Prop :=
  (∀ (s : State) (dt : Nat), s.sys.powered = true →
    (∀ slot : Fin 4, s.norReady slot = false → Answers (.norErase slot) s (fun t => t.img = s.img ∧ OnlyRegs s t ∧ KeepsRegs s t []) ∧
      Answers (.norCommit slot) s (fun t => t.img = s.img ∧ OnlyRegs s t ∧ KeepsRegs s t []) ∧ Answers (.prefer slot) s (fun t => t.img = s.img ∧ OnlyRegs s t ∧ KeepsRegs s t [])) ∧
    (∀ slot : Fin 4, s.norReady slot = true → Answers (.norErase slot) s fun t => t.img.erasing = s.img.erasing ++ [(slot.val, s.clk.now + 15000000000)] ∧ t.img.norQueue = [] ∧
      t.bit Reg.IMG_NOR_STATUS 0 = true ∧ t.rf Reg.IMG_NOR_CTL 4 2 = slot ∧ (∀ a, t.dramByte a = s.dramByte a) ∧ (∀ a, t.kenByte a = s.kenByte a)) ∧
    (∀ slot : Fin 4, s.norReady slot = true → Answers (.norCommit slot) s fun t => (∃ due, t.img.commits = s.img.commits ++ [(slot.val, due)]) ∧ t.img.norQueue = [] ∧
      t.bit Reg.IMG_STATUS 2 = true ∧ t.bit Reg.IMG_NOR_STATUS 0 = true ∧ t.rf Reg.IMG_NOR_CTL 4 2 = slot ∧ (∀ a, t.dramByte a = s.dramByte a)) ∧
    (∀ slot : Fin 4, s.slotDir.ok slot = false → Answers (.prefer slot) s fun t => t.img = s.img ∧ OnlyRegs s t ∧ KeepsRegs s t []) ∧
    (∀ slot : Fin 4, s.norReady slot = true → s.slotDir.ok slot = true → Answers (.prefer slot) s fun t => t.img = s.img ∧ (s.slotDir.seq < 2 ^ 32 - 1 → t.slotDir.prefB = (slot == 2)) ∧
      (∀ a, a < 0x01100000 ∨ 0x01100080 ≤ a → t.norByte a = s.norByte a)) ∧
    (s.sys.dev = .ready → s.bit Reg.IMG_KEY_CTL 1 = false → s.img.keyProg = false → Answers .keyProg s fun t =>
      t.img = { s.img with key := some (s.regBytes Reg.IMG_KEY 8), keyProg := true, keyDue := s.clk.now + 12500000 } ∧ (∀ k < 8, t.reg (Reg.IMG_KEY + 4 * k) = 0) ∧ KeepsRegs s t (run Reg.IMG_KEY 8)) ∧
    ((s.sys.dev ≠ .ready ∨ s.bit Reg.IMG_KEY_CTL 1 = true) → Answers .keyProg s fun t => t.img = s.img ∧ OnlyRegs s t ∧ KeepsRegs s t []) ∧
    (s.cmd.coming = [] →
      (∀ slot due es, s.img.erasing = (slot, due) :: es → (slot = 1 ∨ slot = 2) → Answers (.norEraseEnd dt) s fun t => t.img.erasing = es ∧ t.clk.now = s.clk.now + min dt (due - s.clk.now) ∧
        (∀ k < 0x800000, t.norByte (0x800000 * (slot - 1) + k) = 0xFF) ∧ (∀ a, a < 0x800000 * (slot - 1) ∨ 0x800000 * slot ≤ a → t.norByte a = s.norByte a) ∧ (∀ a, t.dramByte a = s.dramByte a)) ∧
      (∀ slot due cs, s.img.commits = (slot, due) :: cs →
        let u := s.within dt due
        let v := u.checkSrc slot (u.ueBetween (due - s.verifyTicks slot) u.clk.now)
        Answers (.norCommitEnd dt) s fun t => t.img.commits = cs ∧ t.rf Reg.IMG_STATUS 8 4 = v.err % 16 ∧ t.clk.now = u.clk.now ∧ Raised t (if v.err = 0 then 0x0109 else 0x010A) ∧
          ((slot = 1 ∨ slot = 2) → s.slotDir.seq < 2 ^ 32 - 1 → t.slotDir.ok slot = (v.err == 0)) ∧
          (∀ a, a < 0x01100000 → t.norByte a = s.norByte a) ∧ (∀ a, t.dramByte a = s.dramByte a) ∧ t.sys = s.sys) ∧
      (s.img.keyProg = true → Answers (.keySet dt) s fun t => t.img = { s.img with keyProg := false } ∧ t.bit Reg.IMG_KEY_CTL 1 = true ∧ Raised t 0x010B ∧
        t.reg Reg.IMG_KEY_CHK = w32 (leAt (hmacSha256 (s.img.key.getD []) (ascii "MN96KEY")) 0 4) ∧ t.clk.now = s.clk.now + min dt (s.img.keyDue - s.clk.now) ∧
        KeepsRegs s t [Reg.IMG_KEY_CTL, Reg.IMG_KEY_CHK]))) ∧
  (∀ (s0 : State) (dt : Nat), s0.sys.powered = true →
    let s := s0.pass dt
    ∀ a w q, s.img.norQueue = (a, w) :: q → Answers (.norProgramDrain dt 1) s0 fun t => t.img.norQueue = q ∧ (∀ k < 4, t.norByte (a + k) = (leBytes 4 w.toNat).getD k 0) ∧
      (∀ b, b < a ∨ a + 4 ≤ b → t.norByte b = s.norByte b) ∧ (∀ b, t.dramByte b = s.dramByte b))

/-- Timed swaps (R65 to R68): ARM with a verified, swappable image and an instant within 10 s; otherwise it is refused, with ERR 10 for the instant and, for the parts, the result of check 12 and its section. Preparation ends in READY of the swap, or, where the instant comes first, the swap is LATE and never performed. CANCEL before the tick ends it with CANCELLED, from the tick on it does nothing. On the tick the working copies of the named parts are exchanged. At the end the staged image is the copy in force and SERIAL shows it. -/
def Obligations.TimedSwapsExchangeParts : Prop :=
  ∀ (s : State) (dt : Nat), s.sys.powered = true →
    ((s.sys.dev = .ready ∨ s.live = true) → s.hasImage = true → s.swapState = 0 → s.bit Reg.IMG_STATUS 3 = true → s.bit Reg.IMG_STATUS 2 = false →
      ((s.reg Reg.IMG_SWAP_AT_NS).toNat ≤ 999999999 → (s.clk.nt : Int) < s.swapAt * 2 ^ 32 → s.swapAt * 2 ^ 32 ≤ (s.clk.nt : Int) + 10000000000 * 2 ^ 32 → s.bit Reg.IMG_STATUS 5 = true →
        Answers .swapArm s fun t => t.swapState = 1 ∧ t.img = { s.img with prepDue := s.clk.now + 500000 } ∧ t.rf Reg.IMG_STATUS 8 4 = 0 ∧ SameMem s t ∧
          KeepsRegs s t [Reg.IMG_SWAP_CTL, Reg.IMG_STATUS, Reg.IMG_ERR_OFF]) ∧
      ((999999999 < (s.reg Reg.IMG_SWAP_AT_NS).toNat ∨ s.swapAt * 2 ^ 32 ≤ (s.clk.nt : Int) ∨ (s.clk.nt : Int) + 10000000000 * 2 ^ 32 < s.swapAt * 2 ^ 32) →
        Answers .swapArm s fun t => t.rf Reg.IMG_STATUS 8 4 = 10 ∧ t.rf Reg.IMG_STATUS 16 5 = 0 ∧ t.reg Reg.IMG_ERR_OFF = 0 ∧ OnlyRegs s t ∧ KeepsRegs s t [Reg.IMG_STATUS, Reg.IMG_ERR_OFF]) ∧
      ((s.reg Reg.IMG_SWAP_AT_NS).toNat ≤ 999999999 → (s.clk.nt : Int) < s.swapAt * 2 ^ 32 → s.swapAt * 2 ^ 32 ≤ (s.clk.nt : Int) + 10000000000 * 2 ^ 32 → s.bit Reg.IMG_STATUS 5 = false →
        let v := swapVerdict (s.imageOf 0) (s.imageOf 3)
        Answers .swapArm s fun t => t.rf Reg.IMG_STATUS 8 4 = v.err % 16 ∧ t.rf Reg.IMG_STATUS 16 5 = v.sect % 32 ∧ t.reg Reg.IMG_ERR_OFF = w32 v.off ∧ OnlyRegs s t ∧
          KeepsRegs s t [Reg.IMG_STATUS, Reg.IMG_ERR_OFF])) ∧
    ((s.hasImage = false ∨ s.swapState ≠ 0 ∨ s.bit Reg.IMG_STATUS 3 = false ∨ s.bit Reg.IMG_STATUS 2 = true) → Answers .swapArm s fun t => OnlyRegs s t ∧ KeepsRegs s t []) ∧
    (s.swapState ≠ 0 → s.img.swapDue = none → (s.clk.nt : Int) < s.swapAt * 2 ^ 32 → Answers .swapCancel s fun t => t.swapState = 0 ∧ t.bit Reg.IMG_SWAP_CTL 6 = true ∧ Raised t 0x0108 ∧
      t.img = { s.img with standby := [] } ∧ SameMem s t ∧ KeepsRegs s t [Reg.IMG_SWAP_CTL]) ∧
    (s.swapAt * 2 ^ 32 ≤ (s.clk.nt : Int) → Answers .swapCancel s fun t => t.img = s.img ∧ OnlyRegs s t ∧ KeepsRegs s t []) ∧
    (s.cmd.coming = [] →
      (s.swapState = 1 →
        let u := s.within dt s.img.prepDue
        ((u.clk.nt : Int) < s.swapAt * 2 ^ 32 → Answers (.swapReady dt) s fun t => t.swapState = 2 ∧ t.clk.now = u.clk.now ∧
          t.img = { s.img with standby := secIds.map (secBytes (s.imageOf 0)) } ∧ SameMem s t ∧ KeepsRegs s t [Reg.IMG_SWAP_CTL]) ∧
        (s.swapAt * 2 ^ 32 ≤ (u.clk.nt : Int) → Answers (.swapReady dt) s fun t => t.swapState = 0 ∧ t.bit Reg.IMG_SWAP_CTL 5 = true ∧ Raised t 0x0107 ∧ t.img = s.img ∧ SameMem s t ∧
          t.clk.now = s.clk.now + s.ticksTo s.swapAt ∧ KeepsRegs s t [Reg.IMG_SWAP_CTL])) ∧
      (s.swapState = 1 → s.img.swapDue = none → Answers .swapTick s fun t => t.swapState = 0 ∧ t.bit Reg.IMG_SWAP_CTL 5 = true ∧ Raised t 0x0107 ∧ t.img = s.img ∧
        t.clk.now = s.clk.now + s.ticksTo s.swapAt ∧ KeepsRegs s t [Reg.IMG_SWAP_CTL]) ∧
      (2 ≤ s.swapState → s.img.swapDue = none → Answers .swapTick s fun t => t.img.sects = swappedSects (s.rf Reg.IMG_SWAP_SECT 0 4) s.img.sects s.img.standby ∧
        t.clk.now = s.clk.now + s.ticksTo s.swapAt ∧ t.img.swapDue = some (t.clk.now + 5000000) ∧ t.bit Reg.IMG_STATUS 2 = true ∧ SameMem s t ∧ KeepsRegs s t [Reg.IMG_STATUS]) ∧
      (∀ due, s.img.swapDue = some due → Answers (.swapDone dt) s fun t => t.swapState = 0 ∧ t.bit Reg.IMG_SWAP_CTL 4 = true ∧ t.rf Reg.IMG_STATUS 0 2 = 3 ∧ t.img = { s.img with swapDue := none } ∧
        Raised t 0x0106 ∧ t.reg Reg.IMG_SERIAL = w32 (s.srcSerial 0) ∧ KeepsRegs s t [Reg.IMG_SERIAL, Reg.IMG_STATUS, Reg.IMG_SWAP_CTL] ∧ (∀ k < (s.imageOf 0).length, t.dramByte (0xFE000000 + k) = (s.imageOf 0).getD k 0) ∧
        (∀ a, a < 0xFE000000 ∨ 0xFE000000 + (s.imageOf 0).length ≤ a → t.dramByte a = s.dramByte a)))

/-! ### Power, resets, device states (18) -/

/-- An unpowered module in whose queue no POWER_ON waits stays unpowered: a step only takes the front command out of the queue (R355, R357, R359). -/
def Obligations.UnpoweredStaysUnpowered : Prop :=
  ∀ (s : State), s.sys.powered = false → (∀ c ∈ s.pending, ∀ dt v h st, c ≠ .powerOn dt v h st) →
    ∃ t, step s = .next t ∧ t = { s with pending := s.pending.tail } ∧ t.sys.powered = false ∧ ∀ c ∈ t.pending, ∀ dt v h st, c ≠ .powerOn dt v h st

/-- The state right after power-on reset (R6, R360, R362, R365): BOOT, every register at its Reset column, nothing queued, every switch open, no clock relation to network time, the memories as their tables give them and in their canonical form, LS and FW apart. -/
def Obligations.ResetStateIsBoot : Prop :=
  State.reset.sys.powered = true ∧ State.reset.sys.dev = .boot ∧ State.reset.pending = [] ∧ (∀ a, State.reset.reg a = regReset a) ∧ State.reset.flights = [] ∧
    State.reset.cmd.queue = [] ∧ State.reset.trn.cal = [] ∧ State.reset.trn.shots = [] ∧ State.reset.drv.ls = 0 ∧ State.reset.drv.fw = 0 ∧ State.reset.drv.hb = 0 ∧
    State.reset.drv.hs = 0 ∧ State.reset.sys.boostOn = false ∧ State.reset.sys.ethOn = false ∧ State.reset.tim.mode = .freerun ∧ State.reset.clk.inc = 4 * 2 ^ 32 ∧
    State.reset.can0.mode = 0 ∧ State.reset.can1.mode = 0 ∧ (∀ n, (State.reset.slot n).cond = 3) ∧ (∀ a < 0x00210000, State.reset.kenByte a = 0xFF) ∧
    Sound State.reset

/-- Resets (R355, R359, R360, R374): POWER_ON above 8.7 V, RESET_N, SWRST with its key, clock loss, brown-out and re-insertion each lead to BOOT with their cause; NET_STAT shows the straps sampled; all but POWER_ON keep the retention registers and (the model's choice, assumption 35) DRAM. SWRST with another key, POWER_ON at or below 8.7 V, and a re-insertion while the request stands do nothing. -/
def Obligations.ResetsLeadToBoot : Prop :=
  (∀ (s : State) (dt : Nat) v h (st : Fin 64), s.sys.powered = false →
    (870 < v → Answers (.powerOn dt v h st) s fun t => AfterReset 1 s t ∧ t.sys.strap = st.val ∧ t.rf Reg.NET_STAT 16 6 = st.val ∧ t.reg Reg.PWR_RET0 = regReset Reg.PWR_RET0) ∧
    (v ≤ 870 → Answers (.powerOn dt v h st) s fun t => t.sys = s.sys ∧ SameMem s t ∧ KeepsRegs s t [])) ∧
  (∀ (s0 : State) (dt : Nat), s0.sys.powered = true →
    let s := s0.pass dt
    (∀ st : Fin 64, Answers (.resetPin dt st) s0 fun t => AfterReset 2 s t ∧ t.sys.strap = st.val ∧ t.rf Reg.NET_STAT 16 6 = st.val ∧ t.dram = s.dram ∧ t.reg Reg.PWR_RET0 = s.reg Reg.PWR_RET0 ∧
      t.reg Reg.PWR_RET2 = s.reg Reg.PWR_RET2) ∧
    Answers (.clockLoss dt) s0 (fun t => AfterReset 4 s t ∧ t.dram = s.dram ∧ t.reg Reg.PWR_RET0 = s.reg Reg.PWR_RET0) ∧
    (∀ v, s.sys.gaspFail = true → s.pfThr + 50 ≤ v → Answers (.brownOut dt v) s0 fun t => AfterReset 5 s t ∧ t.dram = s.dram ∧ t.reg Reg.PWR_RET0 = s.reg Reg.PWR_RET0) ∧
    (∀ v, (s.sys.gaspFail = false ∨ v < s.pfThr + 50) → Answers (.brownOut dt v) s0 fun t => t.sys.dev = s.sys.dev ∧ t.cmd = s.cmd ∧ t.trn = s.trn ∧ t.drv = s.drv)) ∧
  (∀ (s : State), s.sys.powered = true →
    Answers (.swrst 0xC0DE) s (fun t => AfterReset 3 s t ∧ t.dram = s.dram ∧ t.reg Reg.PWR_RET0 = s.reg Reg.PWR_RET0) ∧
    (∀ k, k ≠ 0xC0DE → Answers (.swrst k) s fun t => t.sys = s.sys ∧ OnlyRegs s t ∧ KeepsRegs s t []) ∧
    (∀ k, s.sys.released = some k → s.sys.ejLow = false → s.cmd.coming = [] → Answers .reinsertion s fun t => AfterReset 6 s t ∧ t.dram = s.dram ∧ t.reg Reg.PWR_RET0 = s.reg Reg.PWR_RET0 ∧
      t.clk.now = max s.clk.now (max k s.sys.ejRise + 250000000)) ∧
    ((s.sys.released = none ∨ s.sys.ejLow = true) → Answers .reinsertion s fun t => t.sys = s.sys ∧ OnlyRegs s t ∧ KeepsRegs s t []))

/-- Start-up, arming and the states that software asks for (R361 to R366; 10 R199): BOOT_COMPLETE enters LOADING, once the rails are good within 80 ms; while DUPADDR is set the first arming word is not performed, else it is held for its pair; the second arms in READY with an image, LOCKED, no conflict, DRV_EN, no blocking fault, hold-up, no eject, calibration and its first word within 10 ms, and is refused with its code otherwise; DISARM leads from ARMED and DRY to READY with queue and calendar empty and frozen shots left to fire; SAFECLR and DRAIN lead on where they may. -/
def Obligations.DeviceStatesFollowSoftware : Prop :=
  (∀ (s0 : State) (dt : Nat) bad vh, s0.sys.powered = true →
    let s := s0.pass (s0.bootWait dt)
    (s.sys.dev = .boot → Answers (.bootComplete dt bad vh) s0 fun t => t.sys.dev = .loading ∧ t.sys.cause = 7 ∧ t.img.job = .load 0 true false ∧ t.img.began = t.clk.now ∧ t.bit Reg.PWR_STAT 0 = true ∧
      t.bit Reg.PWR_STAT 1 = decide (2800 ≤ min 65535 vh) ∧ t.bit Reg.SYS_STATUS 4 = bad ∧ (s0.bit Reg.PWR_STAT 0 = true → t.clk.now ≤ max s0.clk.now (s0.sys.devTick + 20000000))) ∧
    (s.sys.dev ≠ .boot → Answers (.bootComplete dt bad vh) s0 fun t => t.sys = s.sys ∧ SameMem s t ∧ KeepsRegs s t [])) ∧
  (∀ (s : State), s.sys.powered = true →
    (∀ b, s.bit Reg.NET_STAT 7 = false → Answers (.armFirst b) s fun t => t.sys = { s.sys with armStep := some (s.clk.now, b) } ∧ t.bit Reg.SYS_STATUS 3 = true ∧ KeepsRegs s t [] ∧ SameMem s t) ∧
    (∀ b, s.bit Reg.NET_STAT 7 = true → Answers (.armFirst b) s fun t => t.sys = s.sys ∧ OnlyRegs s t ∧ KeepsRegs s t []) ∧
    (∀ b k, s.sys.dev = .ready → s.hasImage = true → s.tim.mode = .locked → s.bit Reg.NET_STAT 7 = false → s.sys.drvEnLow = false → s.bit Reg.PRF_VFLT 1 = false →
      s.rf Reg.BNK_DIEFLT 8 3 = 0 → s.bit Reg.PWR_STAT 1 = true → s.sys.ejLow = false → s.bit Reg.SYS_STATUS 4 = false → s.sys.armStep = some (k, b) → s.clk.now ≤ k + 2500000 →
      Answers (.armSecond b) s fun t => t.sys.dev = (if b = true then .dry else .armed) ∧ t.sys.cause = (if b = true then 11 else 10) ∧ t.sys.prev = 3 ∧ t.sys.armStep = none ∧
        t.bit Reg.SYS_STATUS 3 = false ∧ Raised t 0x0001 ∧ t.cmd = s.cmd ∧ t.trn = s.trn ∧ (b = false → t.drv = s.drv) ∧ t.drv.hs = s.drv.hs ∧ KeepsRegs s t []) ∧
    (∀ b, s.armRefusal b ≠ 0 → Answers (.armSecond b) s fun t => t.sys = { s.sys with armStep := none } ∧ t.rf Reg.SYS_STATUS 8 8 = s.armRefusal b ∧ t.bit Reg.SYS_STATUS 3 = false ∧
      Raised t 0x0002 ∧ KeepsRegs s t [] ∧ SameMem s t) ∧
    (∀ b, (s.sys.dev ≠ .ready → s.sys.devTick ≠ s.clk.now → s.armRefusal b = 1) ∧ (s.sys.dev = .ready → s.hasImage = false → s.armRefusal b = 2) ∧
      (s.sys.dev = .ready → s.hasImage = true → s.tim.mode ≠ .locked → s.armRefusal b = 3) ∧ (s.sys.dev = .ready → s.sys.armStep = none → s.armRefusal b ≠ 0)) ∧
    (s.live = true → Answers .disarm s fun t => t.sys.dev = .ready ∧ t.sys.cause = 12 ∧ t.cmd.queue = [] ∧ t.trn.cal = [] ∧ t.trn.shots = s.trn.shots ∧ t.drv = s.drv ∧ Raised t 0x0001 ∧ SameMem s t) ∧
    (s.live = false → Answers .disarm s fun t => t.sys = s.sys ∧ OnlyRegs s t ∧ KeepsRegs s t []) ∧
    (s.maySafeclr = true → s.sys.safeUe = false → Answers .safeclr s fun t => t.sys.dev = .ready ∧ t.sys.cause = 18 ∧ t.drv = { s.drv with hs := t.drv.hs } ∧ Raised t 0x0001 ∧ SameMem s t ∧ KeepsRegs s t []) ∧
    (s.maySafeclr = true → s.sys.safeUe = true → Answers .safeclr s fun t => t.sys.dev = .loading ∧ t.sys.cause = 19 ∧ t.img.job = .load 3 false false ∧ t.img.began = s.clk.now) ∧
    (s.maySafeclr = false → Answers .safeclr s fun t => t.sys = s.sys ∧ OnlyRegs s t ∧ KeepsRegs s t []) ∧
    (s.mayDrain = true → Answers .drain s fun t => t.sys.dev = .draining ∧ t.sys.cause = 21 ∧ t.sys.drainTick = some s.clk.now ∧ t.sys.drainCode = 21 ∧ t.sys.swSafe = s.safeLatched ∧ t.cmd.queue = [] ∧
      t.trn.cal = [] ∧ t.trn.shots = s.trn.shots ∧ t.drv = { s.drv with hs := t.drv.hs } ∧ (s.bus = [] → t.episodes = [])) ∧
    (s.mayDrain = false → Answers .drain s fun t => t.sys = s.sys ∧ OnlyRegs s t ∧ KeepsRegs s t []))

/-- Supplies, watchdog, live removal and the last gasp (R356, R357, R364, R365, R367, R368, R370; 16 R341). A power failure outside BOOT enters DRAINING with code 22 and starts the one last gasp of the power cycle: every switch of a channel opens, the boost controller stops, analog outputs and fans are at 0, CAN stands in CONFIG; LAST_GASP completes it and releases the ring. VSUP above 62.0 V stops the boost controller, sets VSUPOV and raises PWR_VSUP_OV; once VSUP has fallen below 60.0 V the controller restarts with its soft start (R356). An eject request enters DRAINING from READY, ARMED, DRY and SAFE. 20 ms later no shot conducts. -/
def Obligations.SuppliesWatchdogAndRemoval : Prop :=
  (∀ (s : State), s.sys.powered = true →
    (∀ w : Word, (fld w 0 16 = 0 ∨ 600 < fld w 0 16) → Answers (.sysWdogWrite w) s fun t => t.sys = s.sys ∧ OnlyRegs s t ∧ KeepsRegs s t []) ∧
    (∀ w : Word, fld w 0 16 ≠ 0 → fld w 0 16 ≤ 600 → Answers (.sysWdogWrite w) s fun t => t.rf Reg.SYS_WDOG 0 16 = fld w 0 16 ∧ t.bit Reg.SYS_WDOG 16 = bitOf w 16 ∧ t.sys = s.sys ∧
      OnlyRegs s t ∧ KeepsRegs s t [Reg.SYS_WDOG]) ∧
    (s.cmd.coming = [] →
      (∀ k, s.sys.wdogLast = some k → s.bit Reg.SYS_WDOG 16 = true → s.bit Reg.SYS_STATUS 1 = false → Answers .wdogExpire s fun t => t.bit Reg.SYS_STATUS 1 = true ∧ Raised t 0x0003 ∧ Raised t 0x0C09 ∧
        t.clk.now = max s.clk.now (k + 25000000 * s.rf Reg.SYS_WDOG 0 16) ∧ t.bit Reg.FAN_STAT 0 = true ∧ (∀ k < 16, (t.fc k).held = s.fanDuty k) ∧ t.sys = s.sys ∧ t.drv = s.drv ∧
        KeepsRegs s t [Reg.FAN_STAT]) ∧
      (∀ k, s.sys.drainTick = some k → s.sys.dev = .draining → s.sys.drainCode ≠ 22 → Answers .drainTimeout s fun t => t.clk.now = max s.clk.now (k + 5000000) ∧ t.sys = s.sys ∧
        ∀ h ∈ t.trn.shots, h.phase ≠ .boost ∧ h.phase ≠ .peak ∧ h.phase ≠ .hold))) ∧
  (∀ (s0 : State) (dt : Nat), s0.sys.powered = true →
    let s := s0.pass dt
    (∀ v h, v < s.pfThr → s.sys.dev ≠ .boot → s.sys.gaspUsed = false → Answers (.pwrFail dt v h) s0 fun t => t.sys.dev = .draining ∧ t.sys.gaspFail = true ∧ t.sys.gaspUsed = true ∧
      t.sys.gaspDone = true ∧ t.sys.gaspRun = some (0, s.sys.dev.num, min 65535 h) ∧ t.bit Reg.PWR_STAT 2 = true ∧ Raised t 0x1101 ∧ t.drv.ls = 0 ∧ t.drv.fw = 0 ∧ t.drv.hb = 0 ∧ t.sys.boostOn = false ∧
      (∀ k < 8, t.rf (Reg.GIO_AO + 4 * k) 0 16 = 0) ∧ (∀ k < 16, t.fanDuty k = 0) ∧
      t.can0.mode = 0 ∧ t.can1.mode = 0 ∧ t.loop.todo = [] ∧ (s.sys.dev ≠ .draining → t.cmd.queue = [] ∧ t.trn.cal = [] ∧ t.sys.cause = 22)) ∧
    (∀ v h, v < s.pfThr → s.sys.dev = .boot → Answers (.pwrFail dt v h) s0 fun t => t.sys.dev = .boot ∧ t.sys.gaspRun = s.sys.gaspRun ∧ t.bit Reg.PWR_STAT 2 = true ∧ Raised t 0x1101 ∧ t.drv = s.drv) ∧
    (∀ v h, s.pfThr ≤ v → Answers (.pwrFail dt v h) s0 fun t => t.sys = { s.sys with vsup := min 65535 v, vhld := min 65535 h } ∧ t.bit Reg.PWR_STAT 1 = decide (2800 ≤ min 65535 h) ∧
      t.slot 80 = ⟨0, w32i (divRound ((min 65535 v : Nat) * 65536 : Int) 100)⟩ ∧ t.slot 94 = ⟨0, w32i (divRound ((min 65535 h : Nat) * 65536 : Int) 100)⟩ ∧
      (∀ n, n ≠ 80 → n ≠ 94 → t.slot n = s.slot n) ∧ KeepsRegs s t [Reg.PWR_STAT]) ∧
    (∀ v, 6200 < v → s.bit Reg.PWR_STAT 3 = false → Answers (.pwrVsupOv dt v) s0 fun t => t.bit Reg.PWR_STAT 3 = true ∧ t.sys.boostOn = false ∧ t.sys.dev = s.sys.dev ∧ Raised t 0x1102) ∧
    (∀ v, (v ≤ 6200 ∨ s.bit Reg.PWR_STAT 3 = true) → Answers (.pwrVsupOv dt v) s0 fun t => t.bit Reg.PWR_STAT 3 = s.bit Reg.PWR_STAT 3 ∧ t.sys.boostOn = s.sys.boostOn) ∧
    (∀ v, v < 6000 → s.bit Reg.PWR_STAT 3 = true → Answers (.vsupOvEnd dt v) s0 fun t => t.bit Reg.PWR_STAT 3 = false ∧ t.sys.dev = s.sys.dev ∧
      ((∃ b < 12, s.bankRole b = 1) → s.sys.dev ≠ .safe → s.sys.dev ≠ .boot → s.bit Reg.PRF_VFLT 0 = false → s.sys.gaspDone = false →
        t.sys.boostOn = true ∧ t.sys.boostStart = t.clk.now)) ∧
    (∀ v, 6000 ≤ v → Answers (.vsupOvEnd dt v) s0 fun t => t.bit Reg.PWR_STAT 3 = s.bit Reg.PWR_STAT 3 ∧ t.sys.boostOn = s.sys.boostOn) ∧
    (∀ h, h < 1000 → s.sys.vsup < s.pfThr → Answers (.powerOff dt h) s0 fun t => t.sys.powered = false ∧ t.dram = s.dram ∧ t.nor = s.nor ∧ t.kennel = s.kennel) ∧
    (∀ h, (1000 ≤ h ∨ s.pfThr ≤ s.sys.vsup) → Answers (.powerOff dt h) s0 fun t => t.sys.powered = true ∧ t.sys.vhld = min 65535 h ∧ t.sys.dev = s.sys.dev) ∧
    (s.sys.ejServed = false → (s.sys.dev = .ready ∨ s.sys.dev = .armed ∨ s.sys.dev = .dry ∨ s.sys.dev = .safe) → Answers (.pwrEject dt true) s0 fun t => t.sys.dev = .draining ∧
      t.sys.drainCode = 20 ∧ t.sys.drainTick = some s.clk.now ∧ t.sys.ejLow = true ∧ t.cmd.queue = [] ∧ t.trn.cal = [] ∧ t.trn.shots = s.trn.shots ∧ t.bit Reg.PWR_STAT 4 = true ∧ Raised t 0x1103) ∧
    ((s.sys.dev = .boot ∨ s.sys.dev = .loading) → Answers (.pwrEject dt true) s0 fun t => t.sys.dev = s.sys.dev ∧ t.sys.ejLow = true ∧ KeepsRegs s t [Reg.PWR_STAT]) ∧
    Answers (.pwrEject dt false) s0 (fun t => t.sys = { s.sys with ejLow := false, ejServed := false, ejRise := s.clk.now } ∧ t.bit Reg.PWR_STAT 4 = false ∧ KeepsRegs s t [Reg.PWR_STAT]) ∧
    (∀ f e, s0.cmd.coming = [] → ((s.sys.dev = .draining ∧ s.sys.gaspUsed = false ∧ s.drainDone = true ∧ s.sys.gaspRun = none) ∨ s.sys.gaspRun.isSome = true) → Answers (.lastGasp dt f e) s0 fun t =>
      t.sys.gaspRun = none ∧ t.sys.released = some t.clk.now ∧ t.bit Reg.PWR_STAT 5 = false ∧ Raised t 0x0806 ∧
      (s.sys.gaspRun = none → t.sys.gaspUsed = true ∧ t.sys.gaspDone = true ∧ t.drv.ls = 0 ∧ t.drv.fw = 0)) ∧
    (∀ f e, s.sys.gaspRun = none → (s.sys.dev ≠ .draining ∨ s.sys.gaspUsed = true) → Answers (.lastGasp dt f e) s0 fun t => t.sys = s.sys ∧ t.drv = s.drv ∧ SameMem s t ∧ KeepsRegs s t []))

/-- SRAM_UE by region (01 R24; 04 R78): regions 1 to 3 send READY, ARMED and DRY to SAFE with code 17; in region 0 the error is found when the head of the intake queue is read for its take, and drops it under cause 11; with an empty queue nothing is read; region 4 makes its loop fall back, 5 marks its loop's bins, 6 invalidates one slot, 7 restarts a front-end channel, locks a fan output, latches a digital output's fault or drives an analog output to 0, 8 drops and counts the head of a FIFO, 9 that of an egress queue, 10 a waiting event entry or Shamel frame, 11 a capture record, 12 the snapshot, 13 marks the authentication under way as failed (which unit of a region, assumption 36). -/
def Obligations.SramErrorsActByRegion : Prop :=
  ∀ (s0 : State) (dt u : Nat), s0.sys.powered = true →
    let s := s0.pass dt
    (∀ r : Fin 14, r.val ≠ 0 → Answers (.sramUe dt r u) s0 fun t => Raised t 0x0011) ∧
    (∀ r : Fin 14, 1 ≤ r.val → r.val ≤ 3 → (s.sys.dev = .ready ∨ s.sys.dev = .armed ∨ s.sys.dev = .dry) → Answers (.sramUe dt r u) s0 fun t => t.sys.dev = .safe ∧ t.sys.cause = 17 ∧
      t.sys.safeUe = true ∧ t.drv.ls = 0 ∧ t.drv.fw = 0 ∧ t.cmd.queue = [] ∧ t.trn.cal = [] ∧ t.sys.boostOn = false) ∧
    (∀ c q, s0.cmd.coming = [] → s.cmd.queue = c :: q → Answers (.sramUe dt 0 u) s0 fun t => t.cmd.queue = q ∧ t.reg (Reg.CMD_REJ_CNT + 40) = satInc (s.reg (Reg.CMD_REJ_CNT + 40)) ∧
      t.cmd.lastTake = some t.clk.now ∧ t.clk.now = max s.clk.now s.takeTick ∧ Raised t 0x0011 ∧ t.trn = s.trn ∧ t.sys = s.sys) ∧
    (s.cmd.queue = [] → Answers (.sramUe dt 0 u) s0 fun t => t.cmd = s.cmd ∧ OnlyRegs s t ∧ KeepsRegs s t []) ∧
    Answers (.sramUe dt 4 u) s0 (fun t => (t.lc (u % 64)).fall = some 3 ∧ (∀ n, n ≠ u % 64 → t.lc n = s.lc n) ∧ t.sys = s.sys ∧ KeepsRegs s t []) ∧
    Answers (.sramUe dt 5 u) s0 (fun t => t.ephUe (u % 64) = true ∧ t.eph.bins = s.eph.bins ∧ t.sys = s.sys ∧ KeepsRegs s t [ephReg Reg.EPH_STAT (u % 64)]) ∧
    Answers (.sramUe dt 6 u) s0 (fun t => (t.slot (u % 1024)).cond = 3 ∧ (t.slot (u % 1024)).val = (s.slot (u % 1024)).val ∧ (∀ n, n ≠ u % 1024 → t.slot n = s.slot n) ∧ KeepsRegs s t []) ∧
    (u < 16 → Answers (.sramUe dt 7 u) s0 fun t => (t.ac u).range = s.rstart u ∧ (t.ac u).valid = false ∧ t.sys = s.sys) ∧
    (16 ≤ u → u < 32 → Answers (.sramUe dt 7 u) s0 fun t => t.rf (fanReg (u - 16)) 0 4 = 5 ∧ t.fanDuty (u - 16) = 0 ∧ t.sys = s.sys) ∧
    (32 ≤ u → u < 48 → Answers (.sramUe dt 7 u) s0 fun t => t.bit Reg.GIO_DOFLT (u - 32) = true ∧ t.sys = s.sys) ∧
    (48 ≤ u → Answers (.sramUe dt 7 u) s0 fun t => t.rf (Reg.GIO_AO + 4 * (u % 8)) 0 16 = 0 ∧ t.sys = s.sys) ∧
    (∀ e l, u % 8 = 0 → s.can0.fifo0 = e :: l → Answers (.sramUe dt 8 u) s0 fun t => t.can0.fifo0 = l ∧ t.reg (Reg.CAN_RXOK_CNT 0 + 8) = satInc (s.reg (Reg.CAN_RXOK_CNT 0 + 8)) ∧ t.can1 = s.can1) ∧
    (∀ f fs, (s.port (u % 2)).queues.getD (u / 2 % 4) [] = f :: fs → Answers (.sramUe dt 9 u) s0 fun t => (t.port (u % 2)).queues = (s.port (u % 2)).queues.set (u / 2 % 4) fs ∧
      t.reg (portCnt (u % 2) + 0x18 + 4 * (u / 2 % 4)) = satInc (s.reg (portCnt (u % 2) + 0x18 + 4 * (u / 2 % 4)))) ∧
    (∀ e es, u % 2 = 0 → s.bus = [] → s.net.evq = e :: es → Answers (.sramUe dt 10 u) s0 fun t => t.net.evq = es ∧ t.net.evOmit = true ∧ t.shm = s.shm) ∧
    (∀ f fs, u % 2 = 1 → s.shm.waiting = f :: fs → Answers (.sramUe dt 10 u) s0 fun t => t.shm = { s.shm with waiting := fs } ∧
      t.reg (Reg.NET_DUP_CNT + 0x1C) = satInc (s.reg (Reg.NET_DUP_CNT + 0x1C)) ∧ KeepsRegs s t [Reg.NET_DUP_CNT + 0x1C]) ∧
    (∀ x q, u % 3 = 1 → s.eph.capq = x :: q → Answers (.sramUe dt 11 u) s0 fun t => t.eph.capq = q ∧ t.reg Reg.EPH_CDROP_CNT = satInc (s.reg Reg.EPH_CDROP_CNT) ∧
      KeepsRegs s t [Reg.EPH_CDROP_CNT, chanReg Reg.EPH_CCTL x.1]) ∧
    Answers (.sramUe dt 12 u) s0 (fun t => t.bit Reg.SHT_STAT 1 = false ∧ KeepsRegs s t [Reg.SHT_STAT]) ∧
    ((s.img.job ≠ .idle ∨ s.img.commits ≠ []) → Answers (.sramUe dt 13 u) s0 fun t => t.img = { s.img with ue := s.clk.now :: s.img.ue } ∧ KeepsRegs s t [])

/-! ### Shutter (17) -/

/-- Triggers and snapshots (R345 to R351): a trigger while nothing is held latches every area of this tick, with its cause, its NT and the next SHT_SEQ; one on the tick of the snapshot held joins it; a later one is missed and counted. REARM lets the next one act. An AT trigger (R347) is armed within its limits and while none is pending, else refused with an error status; it acts on its instant and is consumed whether or not a snapshot results, and no other cause consumes it; ATCANCEL clears it, and the SHT_AT registers ignore writes while it is pending; the oldest matching event and the selected edge trigger; reading advances INDEX within the area. -/
def Obligations.ShutterTakesSnapshots : Prop :=
  (∀ (s : State) (dt : Nat), s.sys.powered = true →
    (s.bit Reg.SHT_STAT 0 = false → s.atActs = false → s.evActs = [] → Answers .shtNow s fun t => t.reg Reg.SHT_SEQ = s.reg Reg.SHT_SEQ + 1 ∧ t.bit Reg.SHT_STAT 0 = true ∧
      t.bit Reg.SHT_STAT 1 = true ∧ t.reg Reg.SHT_SNAP_CAUSE = 1 ∧ t.reg Reg.SHT_SNAP_NS = w32 s.ntSub ∧ t.reg (Reg.SHT_SNAP_NS + 4) = w32 s.ntSec ∧
      t.sht.copies = (List.range 0x14).map s.areaWords ∧ t.sht.snapTick = some s.clk.now ∧ Raised t 0x1001 ∧ t.bit Reg.SHT_STAT 2 = s.bit Reg.SHT_STAT 2 ∧ SameMem s t ∧
      KeepsRegs s t [Reg.SHT_SEQ, Reg.SHT_STAT, Reg.SHT_SNAP_CAUSE, Reg.SHT_SNAP_NS, Reg.SHT_SNAP_NS + 4, Reg.SHT_SNAP_NS + 8]) ∧
    (s.bit Reg.SHT_STAT 0 = true → s.sht.snapTick ≠ some s.clk.now → Answers .shtNow s fun t => t.reg Reg.SHT_MISS_CNT = satInc (s.reg Reg.SHT_MISS_CNT) ∧ t.sht.copies = s.sht.copies ∧
      KeepsRegs s t [Reg.SHT_MISS_CNT]) ∧
    (s.bit Reg.SHT_STAT 0 = true → s.sht.snapTick = some s.clk.now → Answers .shtNow s fun t => t.bit Reg.SHT_SNAP_CAUSE 0 = true ∧ t.sht.copies = s.sht.copies ∧
      KeepsRegs s t [Reg.SHT_SNAP_CAUSE]) ∧
    Answers .shtRearm s (fun t => t.bit Reg.SHT_STAT 0 = false ∧ t.bit Reg.SHT_STAT 1 = s.bit Reg.SHT_STAT 1 ∧ t.sht.copies = s.sht.copies ∧ KeepsRegs s t [Reg.SHT_STAT]) ∧
    (let inst := s.shtAtRegs * 2 ^ 32; let nt := (s.clk.nt : Int);
      ((s.bit Reg.SHT_STAT 2 = true ∨ inst ≤ nt ∨ nt + 10000000000 * 2 ^ 32 < inst ∨ 999999999 < (s.reg Reg.SHT_AT_NS).toNat) →
        Answers .shtAtarm s (fun t => t.sht.atInst = s.sht.atInst ∧ OnlyRegs s t ∧ KeepsRegs s t []) ∧
        ∀ w : Word, bitOf w 1 = true → Answers (.registerWrite Reg.SHT_CTL w) s fun t => t.shm.last = ⟨1, 0, []⟩ ∧ t.flights = s.flights ∧ t.sht = s.sht ∧ KeepsRegs s t []) ∧
      (s.bit Reg.SHT_STAT 2 = false → nt < inst → inst ≤ nt + 10000000000 * 2 ^ 32 → (s.reg Reg.SHT_AT_NS).toNat ≤ 999999999 →
        Answers .shtAtarm s (fun t => t.bit Reg.SHT_STAT 2 = true ∧ t.sht.atInst = s.shtAtRegs ∧ KeepsRegs s t [Reg.SHT_STAT]) ∧
        Answers (.registerWrite Reg.SHT_CTL 2) s fun t => t.shm.last = ⟨0, 1, []⟩ ∧ ∃ f, t.flights = s.flights ++ [f] ∧ f.addr = Reg.SHT_CTL ∧ f.data = 2)) ∧
    (∀ a w, s.bit Reg.SHT_STAT 2 = true → a ∈ run Reg.SHT_AT_NS 3 → Answers (.registerWrite a w) s fun t => t.flights = s.flights ∧ t.sht = s.sht ∧ KeepsRegs s t []) ∧
    (s.cmd.coming = [] → s.bit Reg.SHT_STAT 2 = true → s.bit Reg.SHT_STAT 0 = true → Answers .shtAt s fun t => t.bit Reg.SHT_STAT 2 = false ∧ t.sht.copies = s.sht.copies ∧
      t.clk.now = s.clk.now + s.ticksTo s.sht.atInst) ∧
    (s.cmd.coming = [] → s.bit Reg.SHT_STAT 2 = true → s.bit Reg.SHT_STAT 0 = false → Answers .shtAt s fun t => t.bit Reg.SHT_STAT 2 = false ∧ t.bit Reg.SHT_STAT 0 = true ∧ t.reg Reg.SHT_SEQ = s.reg Reg.SHT_SEQ + 1 ∧
      t.bit Reg.SHT_SNAP_CAUSE 1 = true ∧ t.clk.now = s.clk.now + s.ticksTo s.sht.atInst ∧ t.sht.snapTick = some t.clk.now) ∧
    (s.bit Reg.SHT_STAT 2 = false → Answers .shtAt s fun t => t.sht.copies = s.sht.copies ∧ OnlyRegs s t ∧ KeepsRegs s t []) ∧
    Answers .shtAtcancel s (fun t => t.bit Reg.SHT_STAT 2 = false ∧ t.bit Reg.SHT_STAT 0 = s.bit Reg.SHT_STAT 0 ∧ t.sht.copies = s.sht.copies ∧ KeepsRegs s t [Reg.SHT_STAT]) ∧
    (∀ p ps, s.cmd.coming = [] → s.sht.evPend = p :: ps → s.bit Reg.SHT_STAT 0 = false → Answers (.shtEvent dt) s fun t => t.reg Reg.SHT_SEQ = s.reg Reg.SHT_SEQ + 1 ∧ t.bit Reg.SHT_SNAP_CAUSE 2 = true ∧
      t.rf Reg.SHT_SNAP_CAUSE 16 16 = p.2 % 65536 ∧ t.bit Reg.SHT_STAT 0 = true ∧ ((t.clk.nt : Int) < s.sht.atInst * 2 ^ 32 → t.bit Reg.SHT_STAT 2 = s.bit Reg.SHT_STAT 2) ∧ t.clk.now = s.clk.now + min dt (p.1 + 10 - s.clk.now)) ∧
    (let i := s.rf Reg.SHT_RDSEL 16 12; let n := (s.sht.copies.getD (s.rf Reg.SHT_RDSEL 0 5) []).length;
      Answers .shtRddataRead s fun t => t.shm.last = ⟨0, 1, [s.shtWord i]⟩ ∧ t.rf Reg.SHT_RDSEL 16 12 = (if s.bit Reg.SHT_STAT 1 = true ∧ i < n then (i + 1) % 4096 else i) ∧
        t.sht.copies = s.sht.copies ∧ KeepsRegs s t [Reg.SHT_RDSEL])) ∧
  (∀ (s0 : State) (dt : Nat), s0.sys.powered = true →
    let s := s0.pass dt
    (∀ l, s.ef Reg.SHT_IOCFG 0 2 = 2 → Answers (.shtIoEdge dt l) s0 fun t => t.sht.copies = s.sht.copies ∧ KeepsRegs s t []) ∧
    (∀ l, s.ef Reg.SHT_IOCFG 0 2 = 1 → s.bit Reg.SHT_STAT 3 ≠ l → bitOf (s.eff Reg.SHT_IOCFG) 2 ≠ l → s.bit Reg.SHT_STAT 0 = false → Answers (.shtIoEdge dt l) s0 fun t =>
      t.reg Reg.SHT_SEQ = s.reg Reg.SHT_SEQ + 1 ∧ t.bit Reg.SHT_SNAP_CAUSE 3 = true ∧ t.bit Reg.SHT_STAT 3 = l ∧ ((t.clk.nt : Int) < s.sht.atInst * 2 ^ 32 → t.bit Reg.SHT_STAT 2 = s.bit Reg.SHT_STAT 2)))

/-! ### Registers, Shamel frames, the test port (00, 02, 10, 19) -/

/-- Writes and their effect (R3, R4, R22, R30, R32, R38, R372, R403, R406): a misaligned or far address is answered ERROR and nothing changes; an address without a register is ignored; a planning register outside READY is refused; inside it the write is performed at once and in effect only with its crossing, within its bound, the oldest of a domain first. A retention register keeps its value until then. Spreading changes at the next turn of the triangle. -/
def Obligations.WritesArePerformedThenTakeEffect : Prop :=
  ∀ (s : State) (dt : Nat), s.sys.powered = true →
    (∀ a w, (a % 4 ≠ 0 ∨ 0x130000 ≤ a) → Answers (.registerWrite a w) s fun t => t.shm.last = ⟨1, 0, []⟩ ∧ t.flights = s.flights ∧ SameMem s t ∧ KeepsRegs s t []) ∧
    (∀ a w, a % 4 = 0 → a < 0x130000 → regRow a = none → Answers (.registerWrite a w) s fun t => t.shm.last = ⟨0, 1, []⟩ ∧ t.flights = s.flights ∧ SameMem s t ∧ KeepsRegs s t []) ∧
    (∀ w, s.sys.dev ≠ .ready → Answers (.registerWrite Reg.TRN_FREEZE w) s fun t => t.shm.last = ⟨1, 0, []⟩ ∧ t.flights = s.flights ∧ KeepsRegs s t []) ∧
    (∀ w : Word, s.sys.dev = .ready → 20 ≤ fld w 0 8 → fld w 0 8 ≤ 200 → fld w 0 8 + 10 ≤ s.rf Reg.CMD_MIN_LEAD 0 10 → Answers (.registerWrite Reg.TRN_FREEZE w) s fun t =>
      t.shm.last = ⟨0, 1, []⟩ ∧ t.rf Reg.TRN_FREEZE 0 8 = fld w 0 8 ∧ t.eff Reg.TRN_FREEZE = s.eff Reg.TRN_FREEZE ∧
      (∃ f, t.flights = s.flights ++ [f] ∧ f.dom = .time ∧ f.addr = Reg.TRN_FREEZE ∧ f.issued = s.clk.now) ∧ KeepsRegs s t [Reg.TRN_FREEZE]) ∧
    (∀ d f fs, s.cmd.coming = [] → takeFlight d s.flights = some (f, fs) → f.addr = Reg.TRN_FREEZE → f.dom = .time → Answers (.registerEffect dt d) s fun t => t.flights = fs ∧
      (s.behindClear f = false → t.clk.now = s.clk.now + min dt (f.issued + 5 - s.clk.now)) ∧ t.clk.now ≤ max s.clk.now (f.issued + 5) ∧ SameMem s t ∧ KeepsRegs s t []) ∧
    (∀ d, s.cmd.coming = [] → takeFlight d s.flights = none → Answers (.registerEffect dt d) s fun t => t.flights = s.flights ∧ t.clk.now = s.clk.now + dt ∧ SameMem s t ∧ KeepsRegs s t []) ∧
    (∀ w, Answers (.registerWrite Reg.PWR_RET2 w) s fun t => t.shm.last = ⟨0, 1, []⟩ ∧ t.reg Reg.PWR_RET2 = s.reg Reg.PWR_RET2 ∧
      (∃ f, t.flights = s.flights ++ [f] ∧ f.dom = .aon ∧ f.data = w) ∧ KeepsRegs s t []) ∧
    (∀ f fs, s.cmd.coming = [] → s.behindClear f = false → takeFlight .aon s.flights = some (f, fs) → f.dom = .aon → f.addr = Reg.PWR_RET2 → f.mask = BitVec.allOnes 32 → Answers (.registerEffect dt .aon) s fun t =>
      t.reg Reg.PWR_RET2 = f.data ∧ t.flights = fs ∧ t.clk.now = s.clk.now + min dt (f.issued + 30500 - s.clk.now) ∧ KeepsRegs s t [Reg.PWR_RET2]) ∧
    (∀ w, s.sys.dev = .ready → Answers (.spreadWrite w) s fun t => t.shm.last = ⟨0, 1, []⟩ ∧ t.rf Reg.PWR_CTL 0 3 = fld w 0 3 ∧ t.eff Reg.PWR_CTL = s.eff Reg.PWR_CTL ∧
      (∃ f, t.flights = s.flights ++ [f] ∧ f.dom = .spread ∧ f.bound = (s.clk.now / 4000 + 1) * 4000) ∧ KeepsRegs s t [Reg.PWR_CTL]) ∧
    (∀ w, s.sys.dev ≠ .ready → Answers (.spreadWrite w) s fun t => t.shm.last = ⟨1, 0, []⟩ ∧ t.flights = s.flights ∧ KeepsRegs s t [])

/-- One op at a time, with no frame waiting (R7, R170, R201 to R203, R207): READ returns what a register shows and changes nothing (SYS_WIN_DATA, REC_DATA and SHT_RDDATA, whose reads act, apart); the second word of a pair is of the tick of the first, as are the words of NT; an access of a misaligned address or one at or above 0x130000 performs nothing and answers ERROR (R3, R403); an address that holds no register reads as 0 and ignores writes (R4, R403); MODIFY puts the bits of its mask; the window moves on by one word, and a word written to a free staging area stands there. -/
def Obligations.OpsReadWriteAndModify : Prop :=
  ∀ (s : State), s.sys.powered = true → s.frontFree = true → s.shm.waiting = [] → s.flights = [] →
    (∀ a : Word, a.toNat % 4 = 0 → a.toNat < 0x130000 → a.toNat ≠ Reg.SYS_WIN_DATA → (a.toNat < Reg.REC_DATA ∨ Reg.REC_DATA + 32 ≤ a.toNat) → a.toNat ≠ Reg.SHT_RDDATA → Answers (.read a 1) s fun t => t.shm.last = ⟨0, 1, [s.peek a.toNat]⟩ ∧ t.shm.cur = none ∧
      SameMem s t ∧ KeepsRegs s t []) ∧
    (∀ a : Word, pairLow.contains a.toNat = true → Answers (.twoWordLatch a) s fun t => t.shm.last = ⟨0, 2, [s.peek a.toNat, s.peek (a.toNat + 4)]⟩ ∧ KeepsRegs s t []) ∧
    Answers .ntLatchRead s (fun t => t.shm.last = ⟨0, 4, [w32 (s.clk.nt / 65536 % 65536), w32 s.ntSub, w32 s.ntSec, w32 (s.ntSec / 2 ^ 32)]⟩ ∧ t.clk = s.clk ∧ KeepsRegs s t []) ∧
    (∀ (a : Word) w k, (a.toNat % 4 ≠ 0 ∨ 0x130000 ≤ a.toNat) →
      Answers (.read a 1) s (fun t => t.shm.last = ⟨1, 0, [0]⟩ ∧ SameMem s t ∧ KeepsRegs s t []) ∧
      Answers (.write a [w]) s (fun t => t.shm.last = ⟨1, 0, []⟩ ∧ SameMem s t ∧ KeepsRegs s t [] ∧ t.flights = []) ∧
      Answers (.modify a k w) s (fun t => t.shm.last = ⟨1, 0, []⟩ ∧ SameMem s t ∧ KeepsRegs s t [] ∧ t.flights = [])) ∧
    (∀ (a : Word) w k, a.toNat % 4 = 0 → a.toNat < 0x130000 → regRow a.toNat = none →
      Answers (.read a 1) s (fun t => t.shm.last = ⟨0, 1, [0]⟩ ∧ SameMem s t ∧ KeepsRegs s t []) ∧
      Answers (.write a [w]) s (fun t => t.shm.last = ⟨0, 1, []⟩ ∧ SameMem s t ∧ KeepsRegs s t [] ∧ t.flights = []) ∧
      Answers (.modify a k w) s (fun t => t.shm.last = ⟨0, 2, []⟩ ∧ SameMem s t ∧ KeepsRegs s t [] ∧ t.flights = [])) ∧
    (∀ (m : Fin 256) w, Answers (.write (w32 (Reg.LOOP_HVAL + 4 * m)) [w]) s fun t => t.shm.last = ⟨0, 1, []⟩ ∧ t.slot (768 + m) = ⟨0, w⟩ ∧ t.reg (Reg.LOOP_HVAL + 4 * m) = w ∧
      KeepsRegs s t [Reg.LOOP_HVAL + 4 * m, Reg.LOOP_HINV + 4 * (m / 32)]) ∧
    (∀ (m : Fin 256) k v, Answers (.modify (w32 (Reg.LOOP_HVAL + 4 * m)) k v) s fun t => t.shm.last.status = 0 ∧
      t.reg (Reg.LOOP_HVAL + 4 * m) = (s.reg (Reg.LOOP_HVAL + 4 * m) &&& ~~~k) ||| (v &&& k)) ∧
    Answers (.readWin 1) s (fun t => t.shm.last = ⟨0, 1, [s.winHere]⟩ ∧ t.reg Reg.SYS_WIN_ADDR = s.reg Reg.SYS_WIN_ADDR + 4 ∧ SameMem s t ∧ KeepsRegs s t [Reg.SYS_WIN_ADDR]) ∧
    (∀ w, s.rf Reg.SYS_WIN_SEL 0 2 = 0 → 0xFE800000 ≤ (s.reg Reg.SYS_WIN_ADDR).toNat → (s.reg Reg.SYS_WIN_ADDR).toNat < 0xFF000000 → s.stagingBusy = false →
      Answers (.writeWin [w]) s fun t => t.shm.last = ⟨0, 1, []⟩ ∧ t.reg Reg.SYS_WIN_ADDR = s.reg Reg.SYS_WIN_ADDR + 4 ∧ t.bit Reg.IMG_STATUS 3 = false ∧
        (∀ k < 4, t.dramByte ((s.reg Reg.SYS_WIN_ADDR).toNat + k) = (leBytes 4 w.toNat).getD k 0) ∧
        (∀ b, b < (s.reg Reg.SYS_WIN_ADDR).toNat ∨ (s.reg Reg.SYS_WIN_ADDR).toNat + 4 ≤ b → t.dramByte b = s.dramByte b) ∧ KeepsRegs s t [Reg.SYS_WIN_ADDR, Reg.IMG_STATUS]) ∧
    (∀ w, s.rf Reg.SYS_WIN_SEL 0 2 = 0 → 0xFE800000 ≤ (s.reg Reg.SYS_WIN_ADDR).toNat → (s.reg Reg.SYS_WIN_ADDR).toNat < 0xFF000000 → s.stagingBusy = true →
      Answers (.writeWin [w]) s fun t => t.shm.last = ⟨2, 0, []⟩ ∧ (∀ b, t.dramByte b = s.dramByte b) ∧ KeepsRegs s t []) ∧
    Answers .shutterNow s (fun t => t.shm.last = ⟨0, 0, []⟩ ∧ (∃ f, t.flights = [f] ∧ f.dom = .time ∧ f.addr = Reg.SHT_CTL ∧ f.data = 1) ∧ t.sht.copies = s.sht.copies)

/-- Frames and fences (02 R31, R33 to R36; 10 R204 to R206). A frame with a wrong header, for another module, with a wrong CRC or beyond the room there is, is discarded and counted; one that cannot be read is refused. A frame that passes is performed one at a time in its order: one that reads or writes a host slot does so, and its response waits with the value read; behind a frame that waits it waits. A retry is answered from the stored response with RESENT and performs nothing. FENCE waits while a selected write is in flight and no longer; FENCE_AT answers ERROR, PAST, FAR and BUSY outside its range, else holds, and on its instant what it holds is released. A finished frame's response is sent, the oldest first. -/
def Obligations.FramesFencesAndRetries : Prop :=
  (∀ (s0 : State) (dt : Nat), s0.sys.powered = true →
    let s := s0.pass dt
    (∀ src pt p, ¬ ShamelOk s p → Answers (.shamelFrame dt src pt p) s0 fun t => t.shm = s.shm ∧
      t.reg (Reg.NET_DUP_CNT + 0x1C) = satInc (s.reg (Reg.NET_DUP_CNT + 0x1C)) ∧ KeepsRegs s t [Reg.NET_DUP_CNT + 0x1C] ∧ SameMem s t) ∧
    (∀ src (pt : BitVec 16) p, ShamelOk s p → (leAt p 10 2 &&& 0xFFDD ≠ 0 ∨ parseOps (leAt p 8 2) (p.drop 16) = none) → Answers (.shamelFrame dt src pt p) s0 fun t =>
      t.shm.last = s.shm.last ∧ t.shm.cur = s.shm.cur ∧ t.shm.waiting = s.shm.waiting ∧ t.flights = s.flights ∧ SameMem s t ∧
      t.reg (Reg.NET_DUP_CNT + 0x20) = satInc (s.reg (Reg.NET_DUP_CNT + 0x20)) ∧
      ((leAt p 10 2).testBit 1 = false → t.shm.sent = some ⟨src.ip, src.mac, pt.toNat, s.respBytes (leAt p 4 4) (5 + 32 * b2n ((leAt p 10 2).testBit 5)) []⟩)) ∧
    (∀ src (pt : BitVec 16) p ops, ShamelOps s p ops →
      let resp (e : Op × OpResult) : Response := ⟨src.ip, src.mac, pt.toNat, s.respBytes (leAt p 4 4) (1 + 32 * b2n ((leAt p 10 2).testBit 5)) [e]⟩
      ((∀ x, s.senderOf src.ip pt.toNat = some x → x.seq ≠ leAt p 4 4) →
        (s.frontFree = false → Answers (.shamelFrame dt src pt p) s0 fun t => (∃ f, t.shm.waiting = s.shm.waiting ++ [f] ∧ f.ops = ops ∧ f.seq = leAt p 4 4) ∧ t.shm.last = s.shm.last ∧
          t.flights = s.flights ∧ t.reg (Reg.NET_DUP_CNT + 0x18) = satInc (s.reg (Reg.NET_DUP_CNT + 0x18)) ∧ SameMem s t) ∧
        (s.frontFree = true → s.shm.waiting = [] → s.aonDone = true → (leAt p 10 2).testBit 1 = false → ∀ m : Fin 256,
          (ops = [.read (Reg.LOOP_HVAL + 4 * m) 1] → Answers (.shamelFrame dt src pt p) s0 fun t => (∃ f, t.shm.ready = s.shm.ready ++ [(f, resp (.read (Reg.LOOP_HVAL + 4 * m) 1, ⟨0, 1, [s.reg (Reg.LOOP_HVAL + 4 * m)]⟩))]) ∧
            t.shm.cur = none ∧ t.flights = s.flights ∧ t.reg (Reg.NET_DUP_CNT + 0x18) = satInc (s.reg (Reg.NET_DUP_CNT + 0x18)) ∧ SameMem s t) ∧
          (∀ w, ops = [.write (Reg.LOOP_HVAL + 4 * m) [w]] → Answers (.shamelFrame dt src pt p) s0 fun t => (∃ f, t.shm.ready = s.shm.ready ++ [(f, resp (.write (Reg.LOOP_HVAL + 4 * m) [w], ⟨0, 1, []⟩))]) ∧
            t.slot (768 + m) = ⟨0, w⟩ ∧ t.reg (Reg.LOOP_HVAL + 4 * m) = w ∧ t.shm.cur = none ∧ t.flights = s.flights))) ∧
      (∀ x b bs, s.senderOf src.ip pt.toNat = some x → x.seq = leAt p 4 4 → x.resp = some (b :: bs) → Answers (.shamelFrame dt src pt p) s0 fun t =>
        t.shm.sent = some ⟨src.ip, src.mac, pt.toNat, resentBytes (b :: bs)⟩ ∧ t.shm.last = s.shm.last ∧ t.shm.cur = s.shm.cur ∧ t.flights = s.flights ∧
        t.reg (Reg.NET_DUP_CNT + 0x28) = satInc (s.reg (Reg.NET_DUP_CNT + 0x28)) ∧ SameMem s t) ∧
      (∀ x, s.senderOf src.ip pt.toNat = some x → x.seq = leAt p 4 4 → x.resp = none → Answers (.shamelFrame dt src pt p) s0 fun t =>
        t.shm.sent = s.shm.sent ∧ t.shm.last = s.shm.last ∧ t.shm.waiting = s.shm.waiting ∧ t.flights = s.flights ∧
        t.reg (Reg.NET_DUP_CNT + 0x2C) = satInc (s.reg (Reg.NET_DUP_CNT + 0x2C)) ∧ SameMem s t))) ∧
  (∀ (s : State), s.sys.powered = true →
    (∀ f r rs, s.shm.ready = (f, r) :: rs → Answers .shamelResponse s fun t => t.shm.ready = rs ∧ t.shm.sent = some r ∧ SameMem s t) ∧
    (s.frontFree = true → s.shm.waiting = [] →
      (∀ m : Word, s.fenceOpen m.toNat s.clk.now = true → Answers (.fence m) s fun t => t.shm.cur = none ∧ t.shm.last = ⟨0, 0, []⟩ ∧ t.flights = s.flights ∧ KeepsRegs s t []) ∧
      (∀ m : Word, s.fenceOpen m.toNat s.clk.now = false → Answers (.fence m) s fun t =>
        (∃ h, t.shm.cur = some h ∧ h.wait = .fence m.toNat s.clk.now none ∧ h.frame.ops = []) ∧ t.flights = s.flights ∧ KeepsRegs s t []) ∧
      (∀ (sec : BitVec 64) (ns : Word), 999999999 < ns.toNat → Answers (.fenceAt sec ns) s fun t => t.shm.last = ⟨1, 0, []⟩ ∧ t.shm.cur = none ∧ t.shm.held = s.shm.held ∧ KeepsRegs s t []) ∧
      (∀ (sec : BitVec 64) (ns : Word), ns.toNat ≤ 999999999 → fenceInst sec.toNat ns.toNat * 2 ^ 32 ≤ (s.clk.nt : Int) →
        Answers (.fenceAt sec ns) s fun t => t.shm.last = ⟨4, 0, []⟩ ∧ t.shm.cur = none ∧ t.shm.held = s.shm.held ∧ KeepsRegs s t []) ∧
      (∀ (sec : BitVec 64) (ns : Word), ns.toNat ≤ 999999999 → (s.clk.nt : Int) + 10000000000 * 2 ^ 32 < fenceInst sec.toNat ns.toNat * 2 ^ 32 →
        Answers (.fenceAt sec ns) s fun t => t.shm.last = ⟨5, 0, []⟩ ∧ t.shm.cur = none ∧ t.shm.held = s.shm.held ∧ KeepsRegs s t []) ∧
      (∀ (sec : BitVec 64) (ns : Word), ns.toNat ≤ 999999999 → (s.clk.nt : Int) < fenceInst sec.toNat ns.toNat * 2 ^ 32 →
        fenceInst sec.toNat ns.toNat * 2 ^ 32 ≤ (s.clk.nt : Int) + 10000000000 * 2 ^ 32 →
        (16 ≤ s.heldCount → Answers (.fenceAt sec ns) s fun t => t.shm.last = ⟨2, 0, []⟩ ∧ t.shm.cur = none ∧ t.shm.held = s.shm.held ∧ KeepsRegs s t []) ∧
        (s.heldCount < 16 → s.fenceOpen 0 s.clk.now = true → Answers (.fenceAt sec ns) s fun t =>
          t.shm.last = ⟨0, 3, []⟩ ∧ t.shm.cur = none ∧ (∃ h, t.shm.held = s.shm.held ++ [h] ∧ h.wait = .instant (fenceInst sec.toNat ns.toNat)) ∧ KeepsRegs s t []) ∧
        (s.heldCount < 16 → s.fenceOpen 0 s.clk.now = false → Answers (.fenceAt sec ns) s fun t =>
          t.shm.last = ⟨0, 3, []⟩ ∧ (∃ h, t.shm.cur = some h ∧ h.wait = .fence 0 s.clk.now (some (fenceInst sec.toNat ns.toNat))) ∧ t.shm.held = s.shm.held ∧ KeepsRegs s t []))) ∧
    (∀ h m k, s.shm.held.any Held.blocks = false → s.shm.cur = some h → h.wait = .fence m k none → h.frame.ops = [] → h.frame.port = 65536 → s.shm.waiting = [] → s.fenceOpen m k = true →
      Answers .fenceComplete s fun t => t.shm.cur = none ∧ t.shm.held = s.shm.held ∧ KeepsRegs s t []) ∧
    (∀ h m k x, s.shm.held.any Held.blocks = false → s.shm.cur = some h → h.wait = .fence m k x → s.fenceOpen m k = false → Answers .fenceComplete s fun t => t.shm = s.shm ∧ KeepsRegs s t []) ∧
    (∀ h T, s.cmd.coming = [] → s.shm.held = [h] → h.wait = .instant T → h.frame.ops = [] → h.frame.port = 65536 → Answers .fenceAtRelease s fun t => t.shm.held = [] ∧ t.clk.now = s.clk.now + s.ticksTo T ∧
      KeepsRegs s t []))

/-- The test port (R400): it takes any instruction and changes nothing else; EXTEST, CLAMP and HIGHZ act as BYPASS while DRV_EN is high and as themselves while it is low; IDCODE returns the module's word, whose bit 0 is 1. -/
def Obligations.TestPortTakesInstructions : Prop :=
  ∀ (s : State) (i : TestInstr), s.sys.powered = true → Answers (.testPortInstruction i) s fun t => t.tap = some i ∧
    (testDrives i = true → s.sys.drvEnLow = false → t.testActs = some .bypass) ∧ ((testDrives i = false ∨ s.sys.drvEnLow = true) → t.testActs = some i) ∧
    (i = .idcode → t.testData = some 0x10960C6B#32) ∧ t.sys = s.sys ∧ t.drv = s.drv ∧ t.pending = s.pending ∧ SameMem s t ∧ KeepsRegs s t []
end

