-- ==== Sys2Proof/Laws/Bits.lean ====
section
/-! SUPPORT. Fields of words: what writing one field does to it and to the others. -/

namespace Sys2Proof.Machine

theorem setFld_toNat (w : Word) (l n v : Nat) (h : l + n ≤ 32) :
    (setFld w l n v).toNat = w.toNat - fld w l n * 2 ^ l + (v % 2 ^ n) * 2 ^ l ∧ fld w l n * 2 ^ l ≤ w.toNat := by
  have hw : w.toNat < 2 ^ 32 := w.isLt
  have h1 : w.toNat = 2 ^ l * (w.toNat / 2 ^ l) + w.toNat % 2 ^ l := (Nat.div_add_mod _ _).symm
  have h2 : w.toNat / 2 ^ l = 2 ^ n * (w.toNat / 2 ^ l / 2 ^ n) + fld w l n := (Nat.div_add_mod _ _).symm
  have hle : fld w l n * 2 ^ l ≤ w.toNat := by
    calc fld w l n * 2 ^ l ≤ (w.toNat / 2 ^ l) * 2 ^ l := Nat.mul_le_mul_right _ (Nat.mod_le _ _)
      _ ≤ w.toNat := Nat.div_mul_le_self _ _
  refine ⟨?_, hle⟩
  unfold setFld
  rw [BitVec.toNat_ofNat, Nat.mod_eq_of_lt]
  -- the value stays below 2 ^ 32
  have hv : v % 2 ^ n ≤ 2 ^ n - 1 := Nat.le_sub_one_of_lt (Nat.mod_lt _ (by positivity))
  set A := w.toNat / 2 ^ l / 2 ^ n
  set r := w.toNat % 2 ^ l
  have hr : r < 2 ^ l := Nat.mod_lt _ (by positivity)
  have hw2 : w.toNat = 2 ^ l * (2 ^ n * A + fld w l n) + r := by rw [← h2]; exact h1
  have e1 : w.toNat - fld w l n * 2 ^ l = 2 ^ (l + n) * A + r := by
    rw [hw2, pow_add]
    have : 2 ^ l * (2 ^ n * A + fld w l n) + r = (2 ^ l * 2 ^ n * A + r) + fld w l n * 2 ^ l := by ring
    rw [this, Nat.add_sub_cancel]
  rw [e1]
  have hA : A < 2 ^ (32 - (l + n)) := by
    by_contra hc
    have hc := Nat.le_of_not_lt hc
    have : 2 ^ (l + n) * 2 ^ (32 - (l + n)) ≤ 2 ^ (l + n) * A := Nat.mul_le_mul_left _ hc
    rw [← pow_add, Nat.add_sub_cancel' h] at this
    have : 2 ^ (l + n) * A ≤ w.toNat := by rw [hw2, pow_add]; nlinarith [Nat.zero_le (2 ^ l * fld w l n)]
    omega
  have h3 : (v % 2 ^ n) * 2 ^ l + r < 2 ^ (l + n) := by
    have : (v % 2 ^ n) * 2 ^ l ≤ (2 ^ n - 1) * 2 ^ l := Nat.mul_le_mul_right _ hv
    have e : (2 ^ n - 1) * 2 ^ l = 2 ^ (l + n) - 2 ^ l := by rw [Nat.sub_mul, one_mul, ← pow_add, Nat.add_comm n l]
    have : 2 ^ l ≤ 2 ^ (l + n) := Nat.pow_le_pow_right (by norm_num) (by omega)
    omega
  have h4 : 2 ^ (l + n) * (A + 1) ≤ 2 ^ (l + n) * 2 ^ (32 - (l + n)) := Nat.mul_le_mul_left _ hA
  rw [← pow_add, Nat.add_sub_cancel' h] at h4
  have : 2 ^ (l + n) * (A + 1) = 2 ^ (l + n) * A + 2 ^ (l + n) := by ring
  omega

/-- The bits of a word after one field is written. -/
theorem setFld_testBit (w : Word) (l n v i : Nat) (h : l + n ≤ 32) :
    (setFld w l n v).toNat.testBit i = if l ≤ i ∧ i < l + n then v.testBit (i - l) else w.toNat.testBit i := by
  obtain ⟨h1, h2⟩ := setFld_toNat w l n v h
  have hw : w.toNat = 2 ^ l * (w.toNat / 2 ^ l) + w.toNat % 2 ^ l := (Nat.div_add_mod _ _).symm
  have h3 : w.toNat / 2 ^ l = 2 ^ n * (w.toNat / 2 ^ l / 2 ^ n) + fld w l n := (Nat.div_add_mod _ _).symm
  set A := w.toNat / 2 ^ l / 2 ^ n with hA
  set r := w.toNat % 2 ^ l with hr
  have hrl : r < 2 ^ l := Nat.mod_lt _ (by positivity)
  have hw2 : w.toNat = 2 ^ l * (2 ^ n * A + fld w l n) + r := by rw [← h3]; exact hw
  have e1 : (setFld w l n v).toNat = 2 ^ l * (2 ^ n * A + v % 2 ^ n) + r := by
    rw [h1]
    have : w.toNat - fld w l n * 2 ^ l = 2 ^ l * (2 ^ n * A) + r := by
      rw [hw2]
      have : 2 ^ l * (2 ^ n * A + fld w l n) + r = (2 ^ l * (2 ^ n * A) + r) + fld w l n * 2 ^ l := by ring
      rw [this, Nat.add_sub_cancel]
    rw [this]; ring
  have hf : fld w l n < 2 ^ n := Nat.mod_lt _ (by positivity)
  have hv : v % 2 ^ n < 2 ^ n := Nat.mod_lt _ (by positivity)
  rw [e1, hw2]
  by_cases hi : i < l
  · rw [if_neg (by omega), Nat.testBit_two_pow_mul_add _ hrl, Nat.testBit_two_pow_mul_add _ hrl]; simp [hi]
  · rw [Nat.testBit_two_pow_mul_add _ hrl, Nat.testBit_two_pow_mul_add _ hrl]
    simp only [hi, if_false]
    rw [Nat.testBit_two_pow_mul_add _ hv, Nat.testBit_two_pow_mul_add _ hf]
    by_cases hj : i - l < n
    · rw [if_pos hj, if_pos (by omega), Nat.testBit_mod_two_pow]; simp [hj]
    · rw [if_neg hj, if_neg (by omega), if_neg hj]

theorem fld_eq_of_bits (w x : Word) (l n : Nat) (h : ∀ i, l ≤ i → i < l + n → w.toNat.testBit i = x.toNat.testBit i) : fld w l n = fld x l n := by
  apply Nat.eq_of_testBit_eq
  intro i
  simp only [fld, Nat.testBit_mod_two_pow, Nat.testBit_div_two_pow]
  by_cases hi : i < n
  · simp [hi, h (i + l) (by omega) (by omega)]
  · simp [hi]

/-- A field just written reads as what was written, modulo its width. -/
theorem fld_setFld_same (w : Word) (l n v : Nat) (h : l + n ≤ 32) : fld (setFld w l n v) l n = v % 2 ^ n := by
  apply Nat.eq_of_testBit_eq
  intro i
  simp only [fld, Nat.testBit_mod_two_pow, Nat.testBit_div_two_pow, setFld_testBit w l n v _ h]
  by_cases hi : i < n
  · simp [hi]
    intro h2; omega
  · simp [hi]

/-- A field outside the one written keeps its value. -/
theorem fld_setFld_out (w : Word) (l n v l' n' : Nat) (h : l + n ≤ 32) (hd : l' + n' ≤ l ∨ l + n ≤ l') : fld (setFld w l n v) l' n' = fld w l' n' := by
  apply fld_eq_of_bits
  intro i h1 h2
  rw [setFld_testBit w l n v i h, if_neg (by omega)]

/-- A bit after a field is written. -/
theorem bitOf_setFld (w : Word) (l n v i : Nat) (h : l + n ≤ 32) :
    bitOf (setFld w l n v) i = if l ≤ i ∧ i < l + n then v.testBit (i - l) else bitOf w i := by
  simp only [bitOf, BitVec.getLsbD]
  exact setFld_testBit w l n v i h

@[simp] theorem b2n_testBit_zero (b : Bool) : (b2n b).testBit 0 = b := by cases b <;> rfl

/-- A word read from a number below 2^32 is that number. -/
theorem w32_toNat (n : Nat) (h : n < 2 ^ 32) : (w32 n).toNat = n := by
  simp only [w32, BitVec.toNat_ofNat, Nat.mod_eq_of_lt h]

@[simp] theorem fld_zero (l n : Nat) : fld 0 l n = 0 := by simp [fld]

@[simp] theorem bitOf_zero (i : Nat) : bitOf 0 i = false := by simp [bitOf]

end Sys2Proof.Machine
end

