-- ==== Sys2Proof/Laws/State.lean ====
section
/-! SUPPORT. What each named update leaves alone: one lemma per field of the state. -/

namespace Sys2Proof.Machine

@[simp] theorem State.setReg_pending (s : State) (a : Nat) (w : Word) : (s.setReg a w).pending = s.pending := rfl
@[simp] theorem State.setReg_clk (s : State) (a : Nat) (w : Word) : (s.setReg a w).clk = s.clk := rfl
@[simp] theorem State.setReg_flights (s : State) (a : Nat) (w : Word) : (s.setReg a w).flights = s.flights := rfl
@[simp] theorem State.setReg_sys (s : State) (a : Nat) (w : Word) : (s.setReg a w).sys = s.sys := rfl
@[simp] theorem State.setReg_img (s : State) (a : Nat) (w : Word) : (s.setReg a w).img = s.img := rfl
@[simp] theorem State.setReg_cmd (s : State) (a : Nat) (w : Word) : (s.setReg a w).cmd = s.cmd := rfl
@[simp] theorem State.setReg_trn (s : State) (a : Nat) (w : Word) : (s.setReg a w).trn = s.trn := rfl
@[simp] theorem State.setReg_drv (s : State) (a : Nat) (w : Word) : (s.setReg a w).drv = s.drv := rfl
@[simp] theorem State.setReg_vsn (s : State) (a : Nat) (w : Word) : (s.setReg a w).vsn = s.vsn := rfl
@[simp] theorem State.setReg_shm (s : State) (a : Nat) (w : Word) : (s.setReg a w).shm = s.shm := rfl
@[simp] theorem State.setReg_rcd (s : State) (a : Nat) (w : Word) : (s.setReg a w).rcd = s.rcd := rfl
@[simp] theorem State.setReg_sht (s : State) (a : Nat) (w : Word) : (s.setReg a w).sht = s.sht := rfl
@[simp] theorem State.setReg_net (s : State) (a : Nat) (w : Word) : (s.setReg a w).net = s.net := rfl
@[simp] theorem State.setReg_tim (s : State) (a : Nat) (w : Word) : (s.setReg a w).tim = s.tim := rfl
@[simp] theorem State.setReg_gio (s : State) (a : Nat) (w : Word) : (s.setReg a w).gio = s.gio := rfl
@[simp] theorem State.setReg_fan (s : State) (a : Nat) (w : Word) : (s.setReg a w).fan = s.fan := rfl
@[simp] theorem State.setReg_eph (s : State) (a : Nat) (w : Word) : (s.setReg a w).eph = s.eph := rfl
@[simp] theorem State.setReg_loop (s : State) (a : Nat) (w : Word) : (s.setReg a w).loop = s.loop := rfl
@[simp] theorem State.setReg_afe (s : State) (a : Nat) (w : Word) : (s.setReg a w).afe = s.afe := rfl
@[simp] theorem State.setReg_can0 (s : State) (a : Nat) (w : Word) : (s.setReg a w).can0 = s.can0 := rfl
@[simp] theorem State.setReg_can1 (s : State) (a : Nat) (w : Word) : (s.setReg a w).can1 = s.can1 := rfl
@[simp] theorem State.setReg_second (s : State) (a : Nat) (w : Word) : (s.setReg a w).second = s.second := rfl
@[simp] theorem State.setReg_tap (s : State) (a : Nat) (w : Word) : (s.setReg a w).tap = s.tap := rfl
@[simp] theorem State.setReg_dram (s : State) (a : Nat) (w : Word) : (s.setReg a w).dram = s.dram := rfl
@[simp] theorem State.setReg_nor (s : State) (a : Nat) (w : Word) : (s.setReg a w).nor = s.nor := rfl
@[simp] theorem State.setReg_kennel (s : State) (a : Nat) (w : Word) : (s.setReg a w).kennel = s.kennel := rfl
@[simp] theorem State.setReg_fabric (s : State) (a : Nat) (w : Word) : (s.setReg a w).fabric = s.fabric := rfl
@[simp] theorem State.setReg_inputs (s : State) (a : Nat) (w : Word) : (s.setReg a w).inputs = s.inputs := rfl
@[simp] theorem State.setReg_bus (s : State) (a : Nat) (w : Word) : (s.setReg a w).bus = s.bus := rfl
@[simp] theorem State.setReg_episodes (s : State) (a : Nat) (w : Word) : (s.setReg a w).episodes = s.episodes := rfl
@[simp] theorem State.setReg_free (s : State) (a : Nat) (w : Word) : (s.setReg a w).free = s.free := rfl

@[simp] theorem State.setRf_pending (s : State) (a lsb n v : Nat) : (s.setRf a lsb n v).pending = s.pending := rfl
@[simp] theorem State.setRf_clk (s : State) (a lsb n v : Nat) : (s.setRf a lsb n v).clk = s.clk := rfl
@[simp] theorem State.setRf_flights (s : State) (a lsb n v : Nat) : (s.setRf a lsb n v).flights = s.flights := rfl
@[simp] theorem State.setRf_sys (s : State) (a lsb n v : Nat) : (s.setRf a lsb n v).sys = s.sys := rfl
@[simp] theorem State.setRf_img (s : State) (a lsb n v : Nat) : (s.setRf a lsb n v).img = s.img := rfl
@[simp] theorem State.setRf_cmd (s : State) (a lsb n v : Nat) : (s.setRf a lsb n v).cmd = s.cmd := rfl
@[simp] theorem State.setRf_trn (s : State) (a lsb n v : Nat) : (s.setRf a lsb n v).trn = s.trn := rfl
@[simp] theorem State.setRf_drv (s : State) (a lsb n v : Nat) : (s.setRf a lsb n v).drv = s.drv := rfl
@[simp] theorem State.setRf_vsn (s : State) (a lsb n v : Nat) : (s.setRf a lsb n v).vsn = s.vsn := rfl
@[simp] theorem State.setRf_shm (s : State) (a lsb n v : Nat) : (s.setRf a lsb n v).shm = s.shm := rfl
@[simp] theorem State.setRf_rcd (s : State) (a lsb n v : Nat) : (s.setRf a lsb n v).rcd = s.rcd := rfl
@[simp] theorem State.setRf_sht (s : State) (a lsb n v : Nat) : (s.setRf a lsb n v).sht = s.sht := rfl
@[simp] theorem State.setRf_net (s : State) (a lsb n v : Nat) : (s.setRf a lsb n v).net = s.net := rfl
@[simp] theorem State.setRf_tim (s : State) (a lsb n v : Nat) : (s.setRf a lsb n v).tim = s.tim := rfl
@[simp] theorem State.setRf_gio (s : State) (a lsb n v : Nat) : (s.setRf a lsb n v).gio = s.gio := rfl
@[simp] theorem State.setRf_fan (s : State) (a lsb n v : Nat) : (s.setRf a lsb n v).fan = s.fan := rfl
@[simp] theorem State.setRf_eph (s : State) (a lsb n v : Nat) : (s.setRf a lsb n v).eph = s.eph := rfl
@[simp] theorem State.setRf_loop (s : State) (a lsb n v : Nat) : (s.setRf a lsb n v).loop = s.loop := rfl
@[simp] theorem State.setRf_afe (s : State) (a lsb n v : Nat) : (s.setRf a lsb n v).afe = s.afe := rfl
@[simp] theorem State.setRf_can0 (s : State) (a lsb n v : Nat) : (s.setRf a lsb n v).can0 = s.can0 := rfl
@[simp] theorem State.setRf_can1 (s : State) (a lsb n v : Nat) : (s.setRf a lsb n v).can1 = s.can1 := rfl
@[simp] theorem State.setRf_second (s : State) (a lsb n v : Nat) : (s.setRf a lsb n v).second = s.second := rfl
@[simp] theorem State.setRf_tap (s : State) (a lsb n v : Nat) : (s.setRf a lsb n v).tap = s.tap := rfl
@[simp] theorem State.setRf_dram (s : State) (a lsb n v : Nat) : (s.setRf a lsb n v).dram = s.dram := rfl
@[simp] theorem State.setRf_nor (s : State) (a lsb n v : Nat) : (s.setRf a lsb n v).nor = s.nor := rfl
@[simp] theorem State.setRf_kennel (s : State) (a lsb n v : Nat) : (s.setRf a lsb n v).kennel = s.kennel := rfl
@[simp] theorem State.setRf_fabric (s : State) (a lsb n v : Nat) : (s.setRf a lsb n v).fabric = s.fabric := rfl
@[simp] theorem State.setRf_inputs (s : State) (a lsb n v : Nat) : (s.setRf a lsb n v).inputs = s.inputs := rfl
@[simp] theorem State.setRf_bus (s : State) (a lsb n v : Nat) : (s.setRf a lsb n v).bus = s.bus := rfl
@[simp] theorem State.setRf_episodes (s : State) (a lsb n v : Nat) : (s.setRf a lsb n v).episodes = s.episodes := rfl
@[simp] theorem State.setRf_free (s : State) (a lsb n v : Nat) : (s.setRf a lsb n v).free = s.free := rfl

@[simp] theorem State.setBit_pending (s : State) (a i : Nat) (b : Bool) : (s.setBit a i b).pending = s.pending := rfl
@[simp] theorem State.setBit_clk (s : State) (a i : Nat) (b : Bool) : (s.setBit a i b).clk = s.clk := rfl
@[simp] theorem State.setBit_flights (s : State) (a i : Nat) (b : Bool) : (s.setBit a i b).flights = s.flights := rfl
@[simp] theorem State.setBit_sys (s : State) (a i : Nat) (b : Bool) : (s.setBit a i b).sys = s.sys := rfl
@[simp] theorem State.setBit_img (s : State) (a i : Nat) (b : Bool) : (s.setBit a i b).img = s.img := rfl
@[simp] theorem State.setBit_cmd (s : State) (a i : Nat) (b : Bool) : (s.setBit a i b).cmd = s.cmd := rfl
@[simp] theorem State.setBit_trn (s : State) (a i : Nat) (b : Bool) : (s.setBit a i b).trn = s.trn := rfl
@[simp] theorem State.setBit_drv (s : State) (a i : Nat) (b : Bool) : (s.setBit a i b).drv = s.drv := rfl
@[simp] theorem State.setBit_vsn (s : State) (a i : Nat) (b : Bool) : (s.setBit a i b).vsn = s.vsn := rfl
@[simp] theorem State.setBit_shm (s : State) (a i : Nat) (b : Bool) : (s.setBit a i b).shm = s.shm := rfl
@[simp] theorem State.setBit_rcd (s : State) (a i : Nat) (b : Bool) : (s.setBit a i b).rcd = s.rcd := rfl
@[simp] theorem State.setBit_sht (s : State) (a i : Nat) (b : Bool) : (s.setBit a i b).sht = s.sht := rfl
@[simp] theorem State.setBit_net (s : State) (a i : Nat) (b : Bool) : (s.setBit a i b).net = s.net := rfl
@[simp] theorem State.setBit_tim (s : State) (a i : Nat) (b : Bool) : (s.setBit a i b).tim = s.tim := rfl
@[simp] theorem State.setBit_gio (s : State) (a i : Nat) (b : Bool) : (s.setBit a i b).gio = s.gio := rfl
@[simp] theorem State.setBit_fan (s : State) (a i : Nat) (b : Bool) : (s.setBit a i b).fan = s.fan := rfl
@[simp] theorem State.setBit_eph (s : State) (a i : Nat) (b : Bool) : (s.setBit a i b).eph = s.eph := rfl
@[simp] theorem State.setBit_loop (s : State) (a i : Nat) (b : Bool) : (s.setBit a i b).loop = s.loop := rfl
@[simp] theorem State.setBit_afe (s : State) (a i : Nat) (b : Bool) : (s.setBit a i b).afe = s.afe := rfl
@[simp] theorem State.setBit_can0 (s : State) (a i : Nat) (b : Bool) : (s.setBit a i b).can0 = s.can0 := rfl
@[simp] theorem State.setBit_can1 (s : State) (a i : Nat) (b : Bool) : (s.setBit a i b).can1 = s.can1 := rfl
@[simp] theorem State.setBit_second (s : State) (a i : Nat) (b : Bool) : (s.setBit a i b).second = s.second := rfl
@[simp] theorem State.setBit_tap (s : State) (a i : Nat) (b : Bool) : (s.setBit a i b).tap = s.tap := rfl
@[simp] theorem State.setBit_dram (s : State) (a i : Nat) (b : Bool) : (s.setBit a i b).dram = s.dram := rfl
@[simp] theorem State.setBit_nor (s : State) (a i : Nat) (b : Bool) : (s.setBit a i b).nor = s.nor := rfl
@[simp] theorem State.setBit_kennel (s : State) (a i : Nat) (b : Bool) : (s.setBit a i b).kennel = s.kennel := rfl
@[simp] theorem State.setBit_fabric (s : State) (a i : Nat) (b : Bool) : (s.setBit a i b).fabric = s.fabric := rfl
@[simp] theorem State.setBit_inputs (s : State) (a i : Nat) (b : Bool) : (s.setBit a i b).inputs = s.inputs := rfl
@[simp] theorem State.setBit_bus (s : State) (a i : Nat) (b : Bool) : (s.setBit a i b).bus = s.bus := rfl
@[simp] theorem State.setBit_episodes (s : State) (a i : Nat) (b : Bool) : (s.setBit a i b).episodes = s.episodes := rfl
@[simp] theorem State.setBit_free (s : State) (a i : Nat) (b : Bool) : (s.setBit a i b).free = s.free := rfl

@[simp] theorem State.count_pending (s : State) (a : Nat) : (s.count a).pending = s.pending := rfl
@[simp] theorem State.count_clk (s : State) (a : Nat) : (s.count a).clk = s.clk := rfl
@[simp] theorem State.count_flights (s : State) (a : Nat) : (s.count a).flights = s.flights := rfl
@[simp] theorem State.count_sys (s : State) (a : Nat) : (s.count a).sys = s.sys := rfl
@[simp] theorem State.count_img (s : State) (a : Nat) : (s.count a).img = s.img := rfl
@[simp] theorem State.count_cmd (s : State) (a : Nat) : (s.count a).cmd = s.cmd := rfl
@[simp] theorem State.count_trn (s : State) (a : Nat) : (s.count a).trn = s.trn := rfl
@[simp] theorem State.count_drv (s : State) (a : Nat) : (s.count a).drv = s.drv := rfl
@[simp] theorem State.count_vsn (s : State) (a : Nat) : (s.count a).vsn = s.vsn := rfl
@[simp] theorem State.count_shm (s : State) (a : Nat) : (s.count a).shm = s.shm := rfl
@[simp] theorem State.count_rcd (s : State) (a : Nat) : (s.count a).rcd = s.rcd := rfl
@[simp] theorem State.count_sht (s : State) (a : Nat) : (s.count a).sht = s.sht := rfl
@[simp] theorem State.count_net (s : State) (a : Nat) : (s.count a).net = s.net := rfl
@[simp] theorem State.count_tim (s : State) (a : Nat) : (s.count a).tim = s.tim := rfl
@[simp] theorem State.count_gio (s : State) (a : Nat) : (s.count a).gio = s.gio := rfl
@[simp] theorem State.count_fan (s : State) (a : Nat) : (s.count a).fan = s.fan := rfl
@[simp] theorem State.count_eph (s : State) (a : Nat) : (s.count a).eph = s.eph := rfl
@[simp] theorem State.count_loop (s : State) (a : Nat) : (s.count a).loop = s.loop := rfl
@[simp] theorem State.count_afe (s : State) (a : Nat) : (s.count a).afe = s.afe := rfl
@[simp] theorem State.count_can0 (s : State) (a : Nat) : (s.count a).can0 = s.can0 := rfl
@[simp] theorem State.count_can1 (s : State) (a : Nat) : (s.count a).can1 = s.can1 := rfl
@[simp] theorem State.count_second (s : State) (a : Nat) : (s.count a).second = s.second := rfl
@[simp] theorem State.count_tap (s : State) (a : Nat) : (s.count a).tap = s.tap := rfl
@[simp] theorem State.count_dram (s : State) (a : Nat) : (s.count a).dram = s.dram := rfl
@[simp] theorem State.count_nor (s : State) (a : Nat) : (s.count a).nor = s.nor := rfl
@[simp] theorem State.count_kennel (s : State) (a : Nat) : (s.count a).kennel = s.kennel := rfl
@[simp] theorem State.count_fabric (s : State) (a : Nat) : (s.count a).fabric = s.fabric := rfl
@[simp] theorem State.count_inputs (s : State) (a : Nat) : (s.count a).inputs = s.inputs := rfl
@[simp] theorem State.count_bus (s : State) (a : Nat) : (s.count a).bus = s.bus := rfl
@[simp] theorem State.count_episodes (s : State) (a : Nat) : (s.count a).episodes = s.episodes := rfl
@[simp] theorem State.count_free (s : State) (a : Nat) : (s.count a).free = s.free := rfl

@[simp] theorem State.count64_pending (s : State) (a : Nat) : (s.count64 a).pending = s.pending := rfl
@[simp] theorem State.count64_clk (s : State) (a : Nat) : (s.count64 a).clk = s.clk := rfl
@[simp] theorem State.count64_flights (s : State) (a : Nat) : (s.count64 a).flights = s.flights := rfl
@[simp] theorem State.count64_sys (s : State) (a : Nat) : (s.count64 a).sys = s.sys := rfl
@[simp] theorem State.count64_img (s : State) (a : Nat) : (s.count64 a).img = s.img := rfl
@[simp] theorem State.count64_cmd (s : State) (a : Nat) : (s.count64 a).cmd = s.cmd := rfl
@[simp] theorem State.count64_trn (s : State) (a : Nat) : (s.count64 a).trn = s.trn := rfl
@[simp] theorem State.count64_drv (s : State) (a : Nat) : (s.count64 a).drv = s.drv := rfl
@[simp] theorem State.count64_vsn (s : State) (a : Nat) : (s.count64 a).vsn = s.vsn := rfl
@[simp] theorem State.count64_shm (s : State) (a : Nat) : (s.count64 a).shm = s.shm := rfl
@[simp] theorem State.count64_rcd (s : State) (a : Nat) : (s.count64 a).rcd = s.rcd := rfl
@[simp] theorem State.count64_sht (s : State) (a : Nat) : (s.count64 a).sht = s.sht := rfl
@[simp] theorem State.count64_net (s : State) (a : Nat) : (s.count64 a).net = s.net := rfl
@[simp] theorem State.count64_tim (s : State) (a : Nat) : (s.count64 a).tim = s.tim := rfl
@[simp] theorem State.count64_gio (s : State) (a : Nat) : (s.count64 a).gio = s.gio := rfl
@[simp] theorem State.count64_fan (s : State) (a : Nat) : (s.count64 a).fan = s.fan := rfl
@[simp] theorem State.count64_eph (s : State) (a : Nat) : (s.count64 a).eph = s.eph := rfl
@[simp] theorem State.count64_loop (s : State) (a : Nat) : (s.count64 a).loop = s.loop := rfl
@[simp] theorem State.count64_afe (s : State) (a : Nat) : (s.count64 a).afe = s.afe := rfl
@[simp] theorem State.count64_can0 (s : State) (a : Nat) : (s.count64 a).can0 = s.can0 := rfl
@[simp] theorem State.count64_can1 (s : State) (a : Nat) : (s.count64 a).can1 = s.can1 := rfl
@[simp] theorem State.count64_second (s : State) (a : Nat) : (s.count64 a).second = s.second := rfl
@[simp] theorem State.count64_tap (s : State) (a : Nat) : (s.count64 a).tap = s.tap := rfl
@[simp] theorem State.count64_dram (s : State) (a : Nat) : (s.count64 a).dram = s.dram := rfl
@[simp] theorem State.count64_nor (s : State) (a : Nat) : (s.count64 a).nor = s.nor := rfl
@[simp] theorem State.count64_kennel (s : State) (a : Nat) : (s.count64 a).kennel = s.kennel := rfl
@[simp] theorem State.count64_fabric (s : State) (a : Nat) : (s.count64 a).fabric = s.fabric := rfl
@[simp] theorem State.count64_inputs (s : State) (a : Nat) : (s.count64 a).inputs = s.inputs := rfl
@[simp] theorem State.count64_bus (s : State) (a : Nat) : (s.count64 a).bus = s.bus := rfl
@[simp] theorem State.count64_episodes (s : State) (a : Nat) : (s.count64 a).episodes = s.episodes := rfl
@[simp] theorem State.count64_free (s : State) (a : Nat) : (s.count64 a).free = s.free := rfl

@[simp] theorem State.advance_pending (s : State) (k : Nat) : (s.advance k).pending = s.pending := rfl
@[simp] theorem State.advance_regs (s : State) (k : Nat) : (s.advance k).regs = s.regs := rfl
@[simp] theorem State.advance_flights (s : State) (k : Nat) : (s.advance k).flights = s.flights := rfl
@[simp] theorem State.advance_sys (s : State) (k : Nat) : (s.advance k).sys = s.sys := rfl
@[simp] theorem State.advance_img (s : State) (k : Nat) : (s.advance k).img = s.img := rfl
@[simp] theorem State.advance_cmd (s : State) (k : Nat) : (s.advance k).cmd = s.cmd := rfl
@[simp] theorem State.advance_trn (s : State) (k : Nat) : (s.advance k).trn = s.trn := rfl
@[simp] theorem State.advance_drv (s : State) (k : Nat) : (s.advance k).drv = s.drv := rfl
@[simp] theorem State.advance_vsn (s : State) (k : Nat) : (s.advance k).vsn = s.vsn := rfl
@[simp] theorem State.advance_shm (s : State) (k : Nat) : (s.advance k).shm = s.shm := rfl
@[simp] theorem State.advance_rcd (s : State) (k : Nat) : (s.advance k).rcd = s.rcd := rfl
@[simp] theorem State.advance_sht (s : State) (k : Nat) : (s.advance k).sht = s.sht := rfl
@[simp] theorem State.advance_net (s : State) (k : Nat) : (s.advance k).net = s.net := rfl
@[simp] theorem State.advance_tim (s : State) (k : Nat) : (s.advance k).tim = s.tim := rfl
@[simp] theorem State.advance_gio (s : State) (k : Nat) : (s.advance k).gio = s.gio := rfl
@[simp] theorem State.advance_fan (s : State) (k : Nat) : (s.advance k).fan = s.fan := rfl
@[simp] theorem State.advance_eph (s : State) (k : Nat) : (s.advance k).eph = s.eph := rfl
@[simp] theorem State.advance_loop (s : State) (k : Nat) : (s.advance k).loop = s.loop := rfl
@[simp] theorem State.advance_afe (s : State) (k : Nat) : (s.advance k).afe = s.afe := rfl
@[simp] theorem State.advance_can0 (s : State) (k : Nat) : (s.advance k).can0 = s.can0 := rfl
@[simp] theorem State.advance_can1 (s : State) (k : Nat) : (s.advance k).can1 = s.can1 := rfl
@[simp] theorem State.advance_second (s : State) (k : Nat) : (s.advance k).second = s.second := rfl
@[simp] theorem State.advance_tap (s : State) (k : Nat) : (s.advance k).tap = s.tap := rfl
@[simp] theorem State.advance_dram (s : State) (k : Nat) : (s.advance k).dram = s.dram := rfl
@[simp] theorem State.advance_nor (s : State) (k : Nat) : (s.advance k).nor = s.nor := rfl
@[simp] theorem State.advance_kennel (s : State) (k : Nat) : (s.advance k).kennel = s.kennel := rfl
@[simp] theorem State.advance_fabric (s : State) (k : Nat) : (s.advance k).fabric = s.fabric := rfl
@[simp] theorem State.advance_inputs (s : State) (k : Nat) : (s.advance k).inputs = s.inputs := rfl
@[simp] theorem State.advance_bus (s : State) (k : Nat) : (s.advance k).bus = s.bus := rfl
@[simp] theorem State.advance_episodes (s : State) (k : Nat) : (s.advance k).episodes = s.episodes := rfl
@[simp] theorem State.advance_free (s : State) (k : Nat) : (s.advance k).free = s.free := rfl

@[simp] theorem State.reachTick_pending (s : State) (n : Nat) : (s.reachTick n).pending = s.pending := rfl
@[simp] theorem State.reachTick_regs (s : State) (n : Nat) : (s.reachTick n).regs = s.regs := rfl
@[simp] theorem State.reachTick_flights (s : State) (n : Nat) : (s.reachTick n).flights = s.flights := rfl
@[simp] theorem State.reachTick_sys (s : State) (n : Nat) : (s.reachTick n).sys = s.sys := rfl
@[simp] theorem State.reachTick_img (s : State) (n : Nat) : (s.reachTick n).img = s.img := rfl
@[simp] theorem State.reachTick_cmd (s : State) (n : Nat) : (s.reachTick n).cmd = s.cmd := rfl
@[simp] theorem State.reachTick_trn (s : State) (n : Nat) : (s.reachTick n).trn = s.trn := rfl
@[simp] theorem State.reachTick_drv (s : State) (n : Nat) : (s.reachTick n).drv = s.drv := rfl
@[simp] theorem State.reachTick_vsn (s : State) (n : Nat) : (s.reachTick n).vsn = s.vsn := rfl
@[simp] theorem State.reachTick_shm (s : State) (n : Nat) : (s.reachTick n).shm = s.shm := rfl
@[simp] theorem State.reachTick_rcd (s : State) (n : Nat) : (s.reachTick n).rcd = s.rcd := rfl
@[simp] theorem State.reachTick_sht (s : State) (n : Nat) : (s.reachTick n).sht = s.sht := rfl
@[simp] theorem State.reachTick_net (s : State) (n : Nat) : (s.reachTick n).net = s.net := rfl
@[simp] theorem State.reachTick_tim (s : State) (n : Nat) : (s.reachTick n).tim = s.tim := rfl
@[simp] theorem State.reachTick_gio (s : State) (n : Nat) : (s.reachTick n).gio = s.gio := rfl
@[simp] theorem State.reachTick_fan (s : State) (n : Nat) : (s.reachTick n).fan = s.fan := rfl
@[simp] theorem State.reachTick_eph (s : State) (n : Nat) : (s.reachTick n).eph = s.eph := rfl
@[simp] theorem State.reachTick_loop (s : State) (n : Nat) : (s.reachTick n).loop = s.loop := rfl
@[simp] theorem State.reachTick_afe (s : State) (n : Nat) : (s.reachTick n).afe = s.afe := rfl
@[simp] theorem State.reachTick_can0 (s : State) (n : Nat) : (s.reachTick n).can0 = s.can0 := rfl
@[simp] theorem State.reachTick_can1 (s : State) (n : Nat) : (s.reachTick n).can1 = s.can1 := rfl
@[simp] theorem State.reachTick_second (s : State) (n : Nat) : (s.reachTick n).second = s.second := rfl
@[simp] theorem State.reachTick_tap (s : State) (n : Nat) : (s.reachTick n).tap = s.tap := rfl
@[simp] theorem State.reachTick_dram (s : State) (n : Nat) : (s.reachTick n).dram = s.dram := rfl
@[simp] theorem State.reachTick_nor (s : State) (n : Nat) : (s.reachTick n).nor = s.nor := rfl
@[simp] theorem State.reachTick_kennel (s : State) (n : Nat) : (s.reachTick n).kennel = s.kennel := rfl
@[simp] theorem State.reachTick_fabric (s : State) (n : Nat) : (s.reachTick n).fabric = s.fabric := rfl
@[simp] theorem State.reachTick_inputs (s : State) (n : Nat) : (s.reachTick n).inputs = s.inputs := rfl
@[simp] theorem State.reachTick_bus (s : State) (n : Nat) : (s.reachTick n).bus = s.bus := rfl
@[simp] theorem State.reachTick_episodes (s : State) (n : Nat) : (s.reachTick n).episodes = s.episodes := rfl
@[simp] theorem State.reachTick_free (s : State) (n : Nat) : (s.reachTick n).free = s.free := rfl

@[simp] theorem State.reachNt_pending (s : State) (t : Int) : (s.reachNt t).pending = s.pending := rfl
@[simp] theorem State.reachNt_regs (s : State) (t : Int) : (s.reachNt t).regs = s.regs := rfl
@[simp] theorem State.reachNt_flights (s : State) (t : Int) : (s.reachNt t).flights = s.flights := rfl
@[simp] theorem State.reachNt_sys (s : State) (t : Int) : (s.reachNt t).sys = s.sys := rfl
@[simp] theorem State.reachNt_img (s : State) (t : Int) : (s.reachNt t).img = s.img := rfl
@[simp] theorem State.reachNt_cmd (s : State) (t : Int) : (s.reachNt t).cmd = s.cmd := rfl
@[simp] theorem State.reachNt_trn (s : State) (t : Int) : (s.reachNt t).trn = s.trn := rfl
@[simp] theorem State.reachNt_drv (s : State) (t : Int) : (s.reachNt t).drv = s.drv := rfl
@[simp] theorem State.reachNt_vsn (s : State) (t : Int) : (s.reachNt t).vsn = s.vsn := rfl
@[simp] theorem State.reachNt_shm (s : State) (t : Int) : (s.reachNt t).shm = s.shm := rfl
@[simp] theorem State.reachNt_rcd (s : State) (t : Int) : (s.reachNt t).rcd = s.rcd := rfl
@[simp] theorem State.reachNt_sht (s : State) (t : Int) : (s.reachNt t).sht = s.sht := rfl
@[simp] theorem State.reachNt_net (s : State) (t : Int) : (s.reachNt t).net = s.net := rfl
@[simp] theorem State.reachNt_tim (s : State) (t : Int) : (s.reachNt t).tim = s.tim := rfl
@[simp] theorem State.reachNt_gio (s : State) (t : Int) : (s.reachNt t).gio = s.gio := rfl
@[simp] theorem State.reachNt_fan (s : State) (t : Int) : (s.reachNt t).fan = s.fan := rfl
@[simp] theorem State.reachNt_eph (s : State) (t : Int) : (s.reachNt t).eph = s.eph := rfl
@[simp] theorem State.reachNt_loop (s : State) (t : Int) : (s.reachNt t).loop = s.loop := rfl
@[simp] theorem State.reachNt_afe (s : State) (t : Int) : (s.reachNt t).afe = s.afe := rfl
@[simp] theorem State.reachNt_can0 (s : State) (t : Int) : (s.reachNt t).can0 = s.can0 := rfl
@[simp] theorem State.reachNt_can1 (s : State) (t : Int) : (s.reachNt t).can1 = s.can1 := rfl
@[simp] theorem State.reachNt_second (s : State) (t : Int) : (s.reachNt t).second = s.second := rfl
@[simp] theorem State.reachNt_tap (s : State) (t : Int) : (s.reachNt t).tap = s.tap := rfl
@[simp] theorem State.reachNt_dram (s : State) (t : Int) : (s.reachNt t).dram = s.dram := rfl
@[simp] theorem State.reachNt_nor (s : State) (t : Int) : (s.reachNt t).nor = s.nor := rfl
@[simp] theorem State.reachNt_kennel (s : State) (t : Int) : (s.reachNt t).kennel = s.kennel := rfl
@[simp] theorem State.reachNt_fabric (s : State) (t : Int) : (s.reachNt t).fabric = s.fabric := rfl
@[simp] theorem State.reachNt_inputs (s : State) (t : Int) : (s.reachNt t).inputs = s.inputs := rfl
@[simp] theorem State.reachNt_bus (s : State) (t : Int) : (s.reachNt t).bus = s.bus := rfl
@[simp] theorem State.reachNt_episodes (s : State) (t : Int) : (s.reachNt t).episodes = s.episodes := rfl
@[simp] theorem State.reachNt_free (s : State) (t : Int) : (s.reachNt t).free = s.free := rfl

@[simp] theorem State.raise_pending (s : State) (c : Nat) (args : List Byte) : (s.raise c args).pending = s.pending := rfl
@[simp] theorem State.raise_clk (s : State) (c : Nat) (args : List Byte) : (s.raise c args).clk = s.clk := rfl
@[simp] theorem State.raise_regs (s : State) (c : Nat) (args : List Byte) : (s.raise c args).regs = s.regs := rfl
@[simp] theorem State.raise_flights (s : State) (c : Nat) (args : List Byte) : (s.raise c args).flights = s.flights := rfl
@[simp] theorem State.raise_sys (s : State) (c : Nat) (args : List Byte) : (s.raise c args).sys = s.sys := rfl
@[simp] theorem State.raise_img (s : State) (c : Nat) (args : List Byte) : (s.raise c args).img = s.img := rfl
@[simp] theorem State.raise_cmd (s : State) (c : Nat) (args : List Byte) : (s.raise c args).cmd = s.cmd := rfl
@[simp] theorem State.raise_trn (s : State) (c : Nat) (args : List Byte) : (s.raise c args).trn = s.trn := rfl
@[simp] theorem State.raise_drv (s : State) (c : Nat) (args : List Byte) : (s.raise c args).drv = s.drv := rfl
@[simp] theorem State.raise_vsn (s : State) (c : Nat) (args : List Byte) : (s.raise c args).vsn = s.vsn := rfl
@[simp] theorem State.raise_shm (s : State) (c : Nat) (args : List Byte) : (s.raise c args).shm = s.shm := rfl
@[simp] theorem State.raise_rcd (s : State) (c : Nat) (args : List Byte) : (s.raise c args).rcd = s.rcd := rfl
@[simp] theorem State.raise_sht (s : State) (c : Nat) (args : List Byte) : (s.raise c args).sht = s.sht := rfl
@[simp] theorem State.raise_net (s : State) (c : Nat) (args : List Byte) : (s.raise c args).net = s.net := rfl
@[simp] theorem State.raise_tim (s : State) (c : Nat) (args : List Byte) : (s.raise c args).tim = s.tim := rfl
@[simp] theorem State.raise_gio (s : State) (c : Nat) (args : List Byte) : (s.raise c args).gio = s.gio := rfl
@[simp] theorem State.raise_fan (s : State) (c : Nat) (args : List Byte) : (s.raise c args).fan = s.fan := rfl
@[simp] theorem State.raise_eph (s : State) (c : Nat) (args : List Byte) : (s.raise c args).eph = s.eph := rfl
@[simp] theorem State.raise_loop (s : State) (c : Nat) (args : List Byte) : (s.raise c args).loop = s.loop := rfl
@[simp] theorem State.raise_afe (s : State) (c : Nat) (args : List Byte) : (s.raise c args).afe = s.afe := rfl
@[simp] theorem State.raise_can0 (s : State) (c : Nat) (args : List Byte) : (s.raise c args).can0 = s.can0 := rfl
@[simp] theorem State.raise_can1 (s : State) (c : Nat) (args : List Byte) : (s.raise c args).can1 = s.can1 := rfl
@[simp] theorem State.raise_second (s : State) (c : Nat) (args : List Byte) : (s.raise c args).second = s.second := rfl
@[simp] theorem State.raise_tap (s : State) (c : Nat) (args : List Byte) : (s.raise c args).tap = s.tap := rfl
@[simp] theorem State.raise_dram (s : State) (c : Nat) (args : List Byte) : (s.raise c args).dram = s.dram := rfl
@[simp] theorem State.raise_nor (s : State) (c : Nat) (args : List Byte) : (s.raise c args).nor = s.nor := rfl
@[simp] theorem State.raise_kennel (s : State) (c : Nat) (args : List Byte) : (s.raise c args).kennel = s.kennel := rfl
@[simp] theorem State.raise_fabric (s : State) (c : Nat) (args : List Byte) : (s.raise c args).fabric = s.fabric := rfl
@[simp] theorem State.raise_inputs (s : State) (c : Nat) (args : List Byte) : (s.raise c args).inputs = s.inputs := rfl
@[simp] theorem State.raise_episodes (s : State) (c : Nat) (args : List Byte) : (s.raise c args).episodes = s.episodes := rfl
@[simp] theorem State.raise_free (s : State) (c : Nat) (args : List Byte) : (s.raise c args).free = s.free := rfl

@[simp] theorem State.raiseEp_pending (s : State) (c : Nat) (args : List Byte) (n : Nat) : (s.raiseEp c args n).pending = s.pending := rfl
@[simp] theorem State.raiseEp_clk (s : State) (c : Nat) (args : List Byte) (n : Nat) : (s.raiseEp c args n).clk = s.clk := rfl
@[simp] theorem State.raiseEp_regs (s : State) (c : Nat) (args : List Byte) (n : Nat) : (s.raiseEp c args n).regs = s.regs := rfl
@[simp] theorem State.raiseEp_flights (s : State) (c : Nat) (args : List Byte) (n : Nat) : (s.raiseEp c args n).flights = s.flights := rfl
@[simp] theorem State.raiseEp_sys (s : State) (c : Nat) (args : List Byte) (n : Nat) : (s.raiseEp c args n).sys = s.sys := rfl
@[simp] theorem State.raiseEp_img (s : State) (c : Nat) (args : List Byte) (n : Nat) : (s.raiseEp c args n).img = s.img := rfl
@[simp] theorem State.raiseEp_cmd (s : State) (c : Nat) (args : List Byte) (n : Nat) : (s.raiseEp c args n).cmd = s.cmd := rfl
@[simp] theorem State.raiseEp_trn (s : State) (c : Nat) (args : List Byte) (n : Nat) : (s.raiseEp c args n).trn = s.trn := rfl
@[simp] theorem State.raiseEp_drv (s : State) (c : Nat) (args : List Byte) (n : Nat) : (s.raiseEp c args n).drv = s.drv := rfl
@[simp] theorem State.raiseEp_vsn (s : State) (c : Nat) (args : List Byte) (n : Nat) : (s.raiseEp c args n).vsn = s.vsn := rfl
@[simp] theorem State.raiseEp_shm (s : State) (c : Nat) (args : List Byte) (n : Nat) : (s.raiseEp c args n).shm = s.shm := rfl
@[simp] theorem State.raiseEp_rcd (s : State) (c : Nat) (args : List Byte) (n : Nat) : (s.raiseEp c args n).rcd = s.rcd := rfl
@[simp] theorem State.raiseEp_sht (s : State) (c : Nat) (args : List Byte) (n : Nat) : (s.raiseEp c args n).sht = s.sht := rfl
@[simp] theorem State.raiseEp_net (s : State) (c : Nat) (args : List Byte) (n : Nat) : (s.raiseEp c args n).net = s.net := rfl
@[simp] theorem State.raiseEp_tim (s : State) (c : Nat) (args : List Byte) (n : Nat) : (s.raiseEp c args n).tim = s.tim := rfl
@[simp] theorem State.raiseEp_gio (s : State) (c : Nat) (args : List Byte) (n : Nat) : (s.raiseEp c args n).gio = s.gio := rfl
@[simp] theorem State.raiseEp_fan (s : State) (c : Nat) (args : List Byte) (n : Nat) : (s.raiseEp c args n).fan = s.fan := rfl
@[simp] theorem State.raiseEp_eph (s : State) (c : Nat) (args : List Byte) (n : Nat) : (s.raiseEp c args n).eph = s.eph := rfl
@[simp] theorem State.raiseEp_loop (s : State) (c : Nat) (args : List Byte) (n : Nat) : (s.raiseEp c args n).loop = s.loop := rfl
@[simp] theorem State.raiseEp_afe (s : State) (c : Nat) (args : List Byte) (n : Nat) : (s.raiseEp c args n).afe = s.afe := rfl
@[simp] theorem State.raiseEp_can0 (s : State) (c : Nat) (args : List Byte) (n : Nat) : (s.raiseEp c args n).can0 = s.can0 := rfl
@[simp] theorem State.raiseEp_can1 (s : State) (c : Nat) (args : List Byte) (n : Nat) : (s.raiseEp c args n).can1 = s.can1 := rfl
@[simp] theorem State.raiseEp_second (s : State) (c : Nat) (args : List Byte) (n : Nat) : (s.raiseEp c args n).second = s.second := rfl
@[simp] theorem State.raiseEp_tap (s : State) (c : Nat) (args : List Byte) (n : Nat) : (s.raiseEp c args n).tap = s.tap := rfl
@[simp] theorem State.raiseEp_dram (s : State) (c : Nat) (args : List Byte) (n : Nat) : (s.raiseEp c args n).dram = s.dram := rfl
@[simp] theorem State.raiseEp_nor (s : State) (c : Nat) (args : List Byte) (n : Nat) : (s.raiseEp c args n).nor = s.nor := rfl
@[simp] theorem State.raiseEp_kennel (s : State) (c : Nat) (args : List Byte) (n : Nat) : (s.raiseEp c args n).kennel = s.kennel := rfl
@[simp] theorem State.raiseEp_fabric (s : State) (c : Nat) (args : List Byte) (n : Nat) : (s.raiseEp c args n).fabric = s.fabric := rfl
@[simp] theorem State.raiseEp_inputs (s : State) (c : Nat) (args : List Byte) (n : Nat) : (s.raiseEp c args n).inputs = s.inputs := rfl
@[simp] theorem State.raiseEp_episodes (s : State) (c : Nat) (args : List Byte) (n : Nat) : (s.raiseEp c args n).episodes = s.episodes := rfl
@[simp] theorem State.raiseEp_free (s : State) (c : Nat) (args : List Byte) (n : Nat) : (s.raiseEp c args n).free = s.free := rfl

@[simp] theorem State.answer_pending (s : State) (st n : Nat) (d : List Word) : (s.answer st n d).pending = s.pending := rfl
@[simp] theorem State.answer_clk (s : State) (st n : Nat) (d : List Word) : (s.answer st n d).clk = s.clk := rfl
@[simp] theorem State.answer_regs (s : State) (st n : Nat) (d : List Word) : (s.answer st n d).regs = s.regs := rfl
@[simp] theorem State.answer_flights (s : State) (st n : Nat) (d : List Word) : (s.answer st n d).flights = s.flights := rfl
@[simp] theorem State.answer_sys (s : State) (st n : Nat) (d : List Word) : (s.answer st n d).sys = s.sys := rfl
@[simp] theorem State.answer_img (s : State) (st n : Nat) (d : List Word) : (s.answer st n d).img = s.img := rfl
@[simp] theorem State.answer_cmd (s : State) (st n : Nat) (d : List Word) : (s.answer st n d).cmd = s.cmd := rfl
@[simp] theorem State.answer_trn (s : State) (st n : Nat) (d : List Word) : (s.answer st n d).trn = s.trn := rfl
@[simp] theorem State.answer_drv (s : State) (st n : Nat) (d : List Word) : (s.answer st n d).drv = s.drv := rfl
@[simp] theorem State.answer_vsn (s : State) (st n : Nat) (d : List Word) : (s.answer st n d).vsn = s.vsn := rfl
@[simp] theorem State.answer_rcd (s : State) (st n : Nat) (d : List Word) : (s.answer st n d).rcd = s.rcd := rfl
@[simp] theorem State.answer_sht (s : State) (st n : Nat) (d : List Word) : (s.answer st n d).sht = s.sht := rfl
@[simp] theorem State.answer_net (s : State) (st n : Nat) (d : List Word) : (s.answer st n d).net = s.net := rfl
@[simp] theorem State.answer_tim (s : State) (st n : Nat) (d : List Word) : (s.answer st n d).tim = s.tim := rfl
@[simp] theorem State.answer_gio (s : State) (st n : Nat) (d : List Word) : (s.answer st n d).gio = s.gio := rfl
@[simp] theorem State.answer_fan (s : State) (st n : Nat) (d : List Word) : (s.answer st n d).fan = s.fan := rfl
@[simp] theorem State.answer_eph (s : State) (st n : Nat) (d : List Word) : (s.answer st n d).eph = s.eph := rfl
@[simp] theorem State.answer_loop (s : State) (st n : Nat) (d : List Word) : (s.answer st n d).loop = s.loop := rfl
@[simp] theorem State.answer_afe (s : State) (st n : Nat) (d : List Word) : (s.answer st n d).afe = s.afe := rfl
@[simp] theorem State.answer_can0 (s : State) (st n : Nat) (d : List Word) : (s.answer st n d).can0 = s.can0 := rfl
@[simp] theorem State.answer_can1 (s : State) (st n : Nat) (d : List Word) : (s.answer st n d).can1 = s.can1 := rfl
@[simp] theorem State.answer_second (s : State) (st n : Nat) (d : List Word) : (s.answer st n d).second = s.second := rfl
@[simp] theorem State.answer_tap (s : State) (st n : Nat) (d : List Word) : (s.answer st n d).tap = s.tap := rfl
@[simp] theorem State.answer_dram (s : State) (st n : Nat) (d : List Word) : (s.answer st n d).dram = s.dram := rfl
@[simp] theorem State.answer_nor (s : State) (st n : Nat) (d : List Word) : (s.answer st n d).nor = s.nor := rfl
@[simp] theorem State.answer_kennel (s : State) (st n : Nat) (d : List Word) : (s.answer st n d).kennel = s.kennel := rfl
@[simp] theorem State.answer_fabric (s : State) (st n : Nat) (d : List Word) : (s.answer st n d).fabric = s.fabric := rfl
@[simp] theorem State.answer_inputs (s : State) (st n : Nat) (d : List Word) : (s.answer st n d).inputs = s.inputs := rfl
@[simp] theorem State.answer_bus (s : State) (st n : Nat) (d : List Word) : (s.answer st n d).bus = s.bus := rfl
@[simp] theorem State.answer_episodes (s : State) (st n : Nat) (d : List Word) : (s.answer st n d).episodes = s.episodes := rfl
@[simp] theorem State.answer_free (s : State) (st n : Nat) (d : List Word) : (s.answer st n d).free = s.free := rfl

@[simp] theorem State.takeOffer_pending (s : State) (d : Delivered) : (s.takeOffer d).pending = s.pending := rfl
@[simp] theorem State.takeOffer_clk (s : State) (d : Delivered) : (s.takeOffer d).clk = s.clk := rfl
@[simp] theorem State.takeOffer_regs (s : State) (d : Delivered) : (s.takeOffer d).regs = s.regs := rfl
@[simp] theorem State.takeOffer_flights (s : State) (d : Delivered) : (s.takeOffer d).flights = s.flights := rfl
@[simp] theorem State.takeOffer_sys (s : State) (d : Delivered) : (s.takeOffer d).sys = s.sys := rfl
@[simp] theorem State.takeOffer_img (s : State) (d : Delivered) : (s.takeOffer d).img = s.img := rfl
@[simp] theorem State.takeOffer_cmd (s : State) (d : Delivered) : (s.takeOffer d).cmd = s.cmd := rfl
@[simp] theorem State.takeOffer_trn (s : State) (d : Delivered) : (s.takeOffer d).trn = s.trn := rfl
@[simp] theorem State.takeOffer_drv (s : State) (d : Delivered) : (s.takeOffer d).drv = s.drv := rfl
@[simp] theorem State.takeOffer_vsn (s : State) (d : Delivered) : (s.takeOffer d).vsn = s.vsn := rfl
@[simp] theorem State.takeOffer_shm (s : State) (d : Delivered) : (s.takeOffer d).shm = s.shm := rfl
@[simp] theorem State.takeOffer_rcd (s : State) (d : Delivered) : (s.takeOffer d).rcd = s.rcd := rfl
@[simp] theorem State.takeOffer_sht (s : State) (d : Delivered) : (s.takeOffer d).sht = s.sht := rfl
@[simp] theorem State.takeOffer_tim (s : State) (d : Delivered) : (s.takeOffer d).tim = s.tim := rfl
@[simp] theorem State.takeOffer_gio (s : State) (d : Delivered) : (s.takeOffer d).gio = s.gio := rfl
@[simp] theorem State.takeOffer_fan (s : State) (d : Delivered) : (s.takeOffer d).fan = s.fan := rfl
@[simp] theorem State.takeOffer_eph (s : State) (d : Delivered) : (s.takeOffer d).eph = s.eph := rfl
@[simp] theorem State.takeOffer_loop (s : State) (d : Delivered) : (s.takeOffer d).loop = s.loop := rfl
@[simp] theorem State.takeOffer_afe (s : State) (d : Delivered) : (s.takeOffer d).afe = s.afe := rfl
@[simp] theorem State.takeOffer_can0 (s : State) (d : Delivered) : (s.takeOffer d).can0 = s.can0 := rfl
@[simp] theorem State.takeOffer_can1 (s : State) (d : Delivered) : (s.takeOffer d).can1 = s.can1 := rfl
@[simp] theorem State.takeOffer_second (s : State) (d : Delivered) : (s.takeOffer d).second = s.second := rfl
@[simp] theorem State.takeOffer_tap (s : State) (d : Delivered) : (s.takeOffer d).tap = s.tap := rfl
@[simp] theorem State.takeOffer_dram (s : State) (d : Delivered) : (s.takeOffer d).dram = s.dram := rfl
@[simp] theorem State.takeOffer_nor (s : State) (d : Delivered) : (s.takeOffer d).nor = s.nor := rfl
@[simp] theorem State.takeOffer_kennel (s : State) (d : Delivered) : (s.takeOffer d).kennel = s.kennel := rfl
@[simp] theorem State.takeOffer_fabric (s : State) (d : Delivered) : (s.takeOffer d).fabric = s.fabric := rfl
@[simp] theorem State.takeOffer_inputs (s : State) (d : Delivered) : (s.takeOffer d).inputs = s.inputs := rfl
@[simp] theorem State.takeOffer_bus (s : State) (d : Delivered) : (s.takeOffer d).bus = s.bus := rfl
@[simp] theorem State.takeOffer_episodes (s : State) (d : Delivered) : (s.takeOffer d).episodes = s.episodes := rfl
@[simp] theorem State.takeOffer_free (s : State) (d : Delivered) : (s.takeOffer d).free = s.free := rfl

@[simp] theorem State.dramPut_pending (s : State) (a : Nat) (bs : List Byte) : (s.dramPut a bs).pending = s.pending := rfl
@[simp] theorem State.dramPut_clk (s : State) (a : Nat) (bs : List Byte) : (s.dramPut a bs).clk = s.clk := rfl
@[simp] theorem State.dramPut_regs (s : State) (a : Nat) (bs : List Byte) : (s.dramPut a bs).regs = s.regs := rfl
@[simp] theorem State.dramPut_flights (s : State) (a : Nat) (bs : List Byte) : (s.dramPut a bs).flights = s.flights := rfl
@[simp] theorem State.dramPut_sys (s : State) (a : Nat) (bs : List Byte) : (s.dramPut a bs).sys = s.sys := rfl
@[simp] theorem State.dramPut_img (s : State) (a : Nat) (bs : List Byte) : (s.dramPut a bs).img = s.img := rfl
@[simp] theorem State.dramPut_cmd (s : State) (a : Nat) (bs : List Byte) : (s.dramPut a bs).cmd = s.cmd := rfl
@[simp] theorem State.dramPut_trn (s : State) (a : Nat) (bs : List Byte) : (s.dramPut a bs).trn = s.trn := rfl
@[simp] theorem State.dramPut_drv (s : State) (a : Nat) (bs : List Byte) : (s.dramPut a bs).drv = s.drv := rfl
@[simp] theorem State.dramPut_vsn (s : State) (a : Nat) (bs : List Byte) : (s.dramPut a bs).vsn = s.vsn := rfl
@[simp] theorem State.dramPut_shm (s : State) (a : Nat) (bs : List Byte) : (s.dramPut a bs).shm = s.shm := rfl
@[simp] theorem State.dramPut_rcd (s : State) (a : Nat) (bs : List Byte) : (s.dramPut a bs).rcd = s.rcd := rfl
@[simp] theorem State.dramPut_sht (s : State) (a : Nat) (bs : List Byte) : (s.dramPut a bs).sht = s.sht := rfl
@[simp] theorem State.dramPut_net (s : State) (a : Nat) (bs : List Byte) : (s.dramPut a bs).net = s.net := rfl
@[simp] theorem State.dramPut_tim (s : State) (a : Nat) (bs : List Byte) : (s.dramPut a bs).tim = s.tim := rfl
@[simp] theorem State.dramPut_gio (s : State) (a : Nat) (bs : List Byte) : (s.dramPut a bs).gio = s.gio := rfl
@[simp] theorem State.dramPut_fan (s : State) (a : Nat) (bs : List Byte) : (s.dramPut a bs).fan = s.fan := rfl
@[simp] theorem State.dramPut_eph (s : State) (a : Nat) (bs : List Byte) : (s.dramPut a bs).eph = s.eph := rfl
@[simp] theorem State.dramPut_loop (s : State) (a : Nat) (bs : List Byte) : (s.dramPut a bs).loop = s.loop := rfl
@[simp] theorem State.dramPut_afe (s : State) (a : Nat) (bs : List Byte) : (s.dramPut a bs).afe = s.afe := rfl
@[simp] theorem State.dramPut_can0 (s : State) (a : Nat) (bs : List Byte) : (s.dramPut a bs).can0 = s.can0 := rfl
@[simp] theorem State.dramPut_can1 (s : State) (a : Nat) (bs : List Byte) : (s.dramPut a bs).can1 = s.can1 := rfl
@[simp] theorem State.dramPut_second (s : State) (a : Nat) (bs : List Byte) : (s.dramPut a bs).second = s.second := rfl
@[simp] theorem State.dramPut_tap (s : State) (a : Nat) (bs : List Byte) : (s.dramPut a bs).tap = s.tap := rfl
@[simp] theorem State.dramPut_nor (s : State) (a : Nat) (bs : List Byte) : (s.dramPut a bs).nor = s.nor := rfl
@[simp] theorem State.dramPut_kennel (s : State) (a : Nat) (bs : List Byte) : (s.dramPut a bs).kennel = s.kennel := rfl
@[simp] theorem State.dramPut_fabric (s : State) (a : Nat) (bs : List Byte) : (s.dramPut a bs).fabric = s.fabric := rfl
@[simp] theorem State.dramPut_inputs (s : State) (a : Nat) (bs : List Byte) : (s.dramPut a bs).inputs = s.inputs := rfl
@[simp] theorem State.dramPut_bus (s : State) (a : Nat) (bs : List Byte) : (s.dramPut a bs).bus = s.bus := rfl
@[simp] theorem State.dramPut_episodes (s : State) (a : Nat) (bs : List Byte) : (s.dramPut a bs).episodes = s.episodes := rfl
@[simp] theorem State.dramPut_free (s : State) (a : Nat) (bs : List Byte) : (s.dramPut a bs).free = s.free := rfl

@[simp] theorem State.norPut_pending (s : State) (a : Nat) (bs : List Byte) : (s.norPut a bs).pending = s.pending := rfl
@[simp] theorem State.norPut_clk (s : State) (a : Nat) (bs : List Byte) : (s.norPut a bs).clk = s.clk := rfl
@[simp] theorem State.norPut_regs (s : State) (a : Nat) (bs : List Byte) : (s.norPut a bs).regs = s.regs := rfl
@[simp] theorem State.norPut_flights (s : State) (a : Nat) (bs : List Byte) : (s.norPut a bs).flights = s.flights := rfl
@[simp] theorem State.norPut_sys (s : State) (a : Nat) (bs : List Byte) : (s.norPut a bs).sys = s.sys := rfl
@[simp] theorem State.norPut_img (s : State) (a : Nat) (bs : List Byte) : (s.norPut a bs).img = s.img := rfl
@[simp] theorem State.norPut_cmd (s : State) (a : Nat) (bs : List Byte) : (s.norPut a bs).cmd = s.cmd := rfl
@[simp] theorem State.norPut_trn (s : State) (a : Nat) (bs : List Byte) : (s.norPut a bs).trn = s.trn := rfl
@[simp] theorem State.norPut_drv (s : State) (a : Nat) (bs : List Byte) : (s.norPut a bs).drv = s.drv := rfl
@[simp] theorem State.norPut_vsn (s : State) (a : Nat) (bs : List Byte) : (s.norPut a bs).vsn = s.vsn := rfl
@[simp] theorem State.norPut_shm (s : State) (a : Nat) (bs : List Byte) : (s.norPut a bs).shm = s.shm := rfl
@[simp] theorem State.norPut_rcd (s : State) (a : Nat) (bs : List Byte) : (s.norPut a bs).rcd = s.rcd := rfl
@[simp] theorem State.norPut_sht (s : State) (a : Nat) (bs : List Byte) : (s.norPut a bs).sht = s.sht := rfl
@[simp] theorem State.norPut_net (s : State) (a : Nat) (bs : List Byte) : (s.norPut a bs).net = s.net := rfl
@[simp] theorem State.norPut_tim (s : State) (a : Nat) (bs : List Byte) : (s.norPut a bs).tim = s.tim := rfl
@[simp] theorem State.norPut_gio (s : State) (a : Nat) (bs : List Byte) : (s.norPut a bs).gio = s.gio := rfl
@[simp] theorem State.norPut_fan (s : State) (a : Nat) (bs : List Byte) : (s.norPut a bs).fan = s.fan := rfl
@[simp] theorem State.norPut_eph (s : State) (a : Nat) (bs : List Byte) : (s.norPut a bs).eph = s.eph := rfl
@[simp] theorem State.norPut_loop (s : State) (a : Nat) (bs : List Byte) : (s.norPut a bs).loop = s.loop := rfl
@[simp] theorem State.norPut_afe (s : State) (a : Nat) (bs : List Byte) : (s.norPut a bs).afe = s.afe := rfl
@[simp] theorem State.norPut_can0 (s : State) (a : Nat) (bs : List Byte) : (s.norPut a bs).can0 = s.can0 := rfl
@[simp] theorem State.norPut_can1 (s : State) (a : Nat) (bs : List Byte) : (s.norPut a bs).can1 = s.can1 := rfl
@[simp] theorem State.norPut_second (s : State) (a : Nat) (bs : List Byte) : (s.norPut a bs).second = s.second := rfl
@[simp] theorem State.norPut_tap (s : State) (a : Nat) (bs : List Byte) : (s.norPut a bs).tap = s.tap := rfl
@[simp] theorem State.norPut_dram (s : State) (a : Nat) (bs : List Byte) : (s.norPut a bs).dram = s.dram := rfl
@[simp] theorem State.norPut_kennel (s : State) (a : Nat) (bs : List Byte) : (s.norPut a bs).kennel = s.kennel := rfl
@[simp] theorem State.norPut_fabric (s : State) (a : Nat) (bs : List Byte) : (s.norPut a bs).fabric = s.fabric := rfl
@[simp] theorem State.norPut_inputs (s : State) (a : Nat) (bs : List Byte) : (s.norPut a bs).inputs = s.inputs := rfl
@[simp] theorem State.norPut_bus (s : State) (a : Nat) (bs : List Byte) : (s.norPut a bs).bus = s.bus := rfl
@[simp] theorem State.norPut_episodes (s : State) (a : Nat) (bs : List Byte) : (s.norPut a bs).episodes = s.episodes := rfl
@[simp] theorem State.norPut_free (s : State) (a : Nat) (bs : List Byte) : (s.norPut a bs).free = s.free := rfl

@[simp] theorem State.kenPut_pending (s : State) (a : Nat) (bs : List Byte) : (s.kenPut a bs).pending = s.pending := rfl
@[simp] theorem State.kenPut_clk (s : State) (a : Nat) (bs : List Byte) : (s.kenPut a bs).clk = s.clk := rfl
@[simp] theorem State.kenPut_regs (s : State) (a : Nat) (bs : List Byte) : (s.kenPut a bs).regs = s.regs := rfl
@[simp] theorem State.kenPut_flights (s : State) (a : Nat) (bs : List Byte) : (s.kenPut a bs).flights = s.flights := rfl
@[simp] theorem State.kenPut_sys (s : State) (a : Nat) (bs : List Byte) : (s.kenPut a bs).sys = s.sys := rfl
@[simp] theorem State.kenPut_img (s : State) (a : Nat) (bs : List Byte) : (s.kenPut a bs).img = s.img := rfl
@[simp] theorem State.kenPut_cmd (s : State) (a : Nat) (bs : List Byte) : (s.kenPut a bs).cmd = s.cmd := rfl
@[simp] theorem State.kenPut_trn (s : State) (a : Nat) (bs : List Byte) : (s.kenPut a bs).trn = s.trn := rfl
@[simp] theorem State.kenPut_drv (s : State) (a : Nat) (bs : List Byte) : (s.kenPut a bs).drv = s.drv := rfl
@[simp] theorem State.kenPut_vsn (s : State) (a : Nat) (bs : List Byte) : (s.kenPut a bs).vsn = s.vsn := rfl
@[simp] theorem State.kenPut_shm (s : State) (a : Nat) (bs : List Byte) : (s.kenPut a bs).shm = s.shm := rfl
@[simp] theorem State.kenPut_rcd (s : State) (a : Nat) (bs : List Byte) : (s.kenPut a bs).rcd = s.rcd := rfl
@[simp] theorem State.kenPut_sht (s : State) (a : Nat) (bs : List Byte) : (s.kenPut a bs).sht = s.sht := rfl
@[simp] theorem State.kenPut_net (s : State) (a : Nat) (bs : List Byte) : (s.kenPut a bs).net = s.net := rfl
@[simp] theorem State.kenPut_tim (s : State) (a : Nat) (bs : List Byte) : (s.kenPut a bs).tim = s.tim := rfl
@[simp] theorem State.kenPut_gio (s : State) (a : Nat) (bs : List Byte) : (s.kenPut a bs).gio = s.gio := rfl
@[simp] theorem State.kenPut_fan (s : State) (a : Nat) (bs : List Byte) : (s.kenPut a bs).fan = s.fan := rfl
@[simp] theorem State.kenPut_eph (s : State) (a : Nat) (bs : List Byte) : (s.kenPut a bs).eph = s.eph := rfl
@[simp] theorem State.kenPut_loop (s : State) (a : Nat) (bs : List Byte) : (s.kenPut a bs).loop = s.loop := rfl
@[simp] theorem State.kenPut_afe (s : State) (a : Nat) (bs : List Byte) : (s.kenPut a bs).afe = s.afe := rfl
@[simp] theorem State.kenPut_can0 (s : State) (a : Nat) (bs : List Byte) : (s.kenPut a bs).can0 = s.can0 := rfl
@[simp] theorem State.kenPut_can1 (s : State) (a : Nat) (bs : List Byte) : (s.kenPut a bs).can1 = s.can1 := rfl
@[simp] theorem State.kenPut_second (s : State) (a : Nat) (bs : List Byte) : (s.kenPut a bs).second = s.second := rfl
@[simp] theorem State.kenPut_tap (s : State) (a : Nat) (bs : List Byte) : (s.kenPut a bs).tap = s.tap := rfl
@[simp] theorem State.kenPut_dram (s : State) (a : Nat) (bs : List Byte) : (s.kenPut a bs).dram = s.dram := rfl
@[simp] theorem State.kenPut_nor (s : State) (a : Nat) (bs : List Byte) : (s.kenPut a bs).nor = s.nor := rfl
@[simp] theorem State.kenPut_fabric (s : State) (a : Nat) (bs : List Byte) : (s.kenPut a bs).fabric = s.fabric := rfl
@[simp] theorem State.kenPut_inputs (s : State) (a : Nat) (bs : List Byte) : (s.kenPut a bs).inputs = s.inputs := rfl
@[simp] theorem State.kenPut_bus (s : State) (a : Nat) (bs : List Byte) : (s.kenPut a bs).bus = s.bus := rfl
@[simp] theorem State.kenPut_episodes (s : State) (a : Nat) (bs : List Byte) : (s.kenPut a bs).episodes = s.episodes := rfl
@[simp] theorem State.kenPut_free (s : State) (a : Nat) (bs : List Byte) : (s.kenPut a bs).free = s.free := rfl

@[simp] theorem State.putSlot_pending (s : State) (n : Nat) (v : Word) (t : Byte) : (s.putSlot n v t).pending = s.pending := rfl
@[simp] theorem State.putSlot_clk (s : State) (n : Nat) (v : Word) (t : Byte) : (s.putSlot n v t).clk = s.clk := rfl
@[simp] theorem State.putSlot_regs (s : State) (n : Nat) (v : Word) (t : Byte) : (s.putSlot n v t).regs = s.regs := rfl
@[simp] theorem State.putSlot_flights (s : State) (n : Nat) (v : Word) (t : Byte) : (s.putSlot n v t).flights = s.flights := rfl
@[simp] theorem State.putSlot_sys (s : State) (n : Nat) (v : Word) (t : Byte) : (s.putSlot n v t).sys = s.sys := rfl
@[simp] theorem State.putSlot_img (s : State) (n : Nat) (v : Word) (t : Byte) : (s.putSlot n v t).img = s.img := rfl
@[simp] theorem State.putSlot_cmd (s : State) (n : Nat) (v : Word) (t : Byte) : (s.putSlot n v t).cmd = s.cmd := rfl
@[simp] theorem State.putSlot_trn (s : State) (n : Nat) (v : Word) (t : Byte) : (s.putSlot n v t).trn = s.trn := rfl
@[simp] theorem State.putSlot_drv (s : State) (n : Nat) (v : Word) (t : Byte) : (s.putSlot n v t).drv = s.drv := rfl
@[simp] theorem State.putSlot_vsn (s : State) (n : Nat) (v : Word) (t : Byte) : (s.putSlot n v t).vsn = s.vsn := rfl
@[simp] theorem State.putSlot_shm (s : State) (n : Nat) (v : Word) (t : Byte) : (s.putSlot n v t).shm = s.shm := rfl
@[simp] theorem State.putSlot_rcd (s : State) (n : Nat) (v : Word) (t : Byte) : (s.putSlot n v t).rcd = s.rcd := rfl
@[simp] theorem State.putSlot_sht (s : State) (n : Nat) (v : Word) (t : Byte) : (s.putSlot n v t).sht = s.sht := rfl
@[simp] theorem State.putSlot_net (s : State) (n : Nat) (v : Word) (t : Byte) : (s.putSlot n v t).net = s.net := rfl
@[simp] theorem State.putSlot_tim (s : State) (n : Nat) (v : Word) (t : Byte) : (s.putSlot n v t).tim = s.tim := rfl
@[simp] theorem State.putSlot_gio (s : State) (n : Nat) (v : Word) (t : Byte) : (s.putSlot n v t).gio = s.gio := rfl
@[simp] theorem State.putSlot_fan (s : State) (n : Nat) (v : Word) (t : Byte) : (s.putSlot n v t).fan = s.fan := rfl
@[simp] theorem State.putSlot_eph (s : State) (n : Nat) (v : Word) (t : Byte) : (s.putSlot n v t).eph = s.eph := rfl
@[simp] theorem State.putSlot_loop (s : State) (n : Nat) (v : Word) (t : Byte) : (s.putSlot n v t).loop = s.loop := rfl
@[simp] theorem State.putSlot_afe (s : State) (n : Nat) (v : Word) (t : Byte) : (s.putSlot n v t).afe = s.afe := rfl
@[simp] theorem State.putSlot_can0 (s : State) (n : Nat) (v : Word) (t : Byte) : (s.putSlot n v t).can0 = s.can0 := rfl
@[simp] theorem State.putSlot_can1 (s : State) (n : Nat) (v : Word) (t : Byte) : (s.putSlot n v t).can1 = s.can1 := rfl
@[simp] theorem State.putSlot_second (s : State) (n : Nat) (v : Word) (t : Byte) : (s.putSlot n v t).second = s.second := rfl
@[simp] theorem State.putSlot_tap (s : State) (n : Nat) (v : Word) (t : Byte) : (s.putSlot n v t).tap = s.tap := rfl
@[simp] theorem State.putSlot_dram (s : State) (n : Nat) (v : Word) (t : Byte) : (s.putSlot n v t).dram = s.dram := rfl
@[simp] theorem State.putSlot_nor (s : State) (n : Nat) (v : Word) (t : Byte) : (s.putSlot n v t).nor = s.nor := rfl
@[simp] theorem State.putSlot_kennel (s : State) (n : Nat) (v : Word) (t : Byte) : (s.putSlot n v t).kennel = s.kennel := rfl
@[simp] theorem State.putSlot_inputs (s : State) (n : Nat) (v : Word) (t : Byte) : (s.putSlot n v t).inputs = s.inputs := rfl
@[simp] theorem State.putSlot_bus (s : State) (n : Nat) (v : Word) (t : Byte) : (s.putSlot n v t).bus = s.bus := rfl
@[simp] theorem State.putSlot_episodes (s : State) (n : Nat) (v : Word) (t : Byte) : (s.putSlot n v t).episodes = s.episodes := rfl
@[simp] theorem State.putSlot_free (s : State) (n : Nat) (v : Word) (t : Byte) : (s.putSlot n v t).free = s.free := rfl

@[simp] theorem State.putVal_pending (s : State) (n : Nat) (v : Int) : (s.putVal n v).pending = s.pending := rfl
@[simp] theorem State.putVal_clk (s : State) (n : Nat) (v : Int) : (s.putVal n v).clk = s.clk := rfl
@[simp] theorem State.putVal_regs (s : State) (n : Nat) (v : Int) : (s.putVal n v).regs = s.regs := rfl
@[simp] theorem State.putVal_flights (s : State) (n : Nat) (v : Int) : (s.putVal n v).flights = s.flights := rfl
@[simp] theorem State.putVal_sys (s : State) (n : Nat) (v : Int) : (s.putVal n v).sys = s.sys := rfl
@[simp] theorem State.putVal_img (s : State) (n : Nat) (v : Int) : (s.putVal n v).img = s.img := rfl
@[simp] theorem State.putVal_cmd (s : State) (n : Nat) (v : Int) : (s.putVal n v).cmd = s.cmd := rfl
@[simp] theorem State.putVal_trn (s : State) (n : Nat) (v : Int) : (s.putVal n v).trn = s.trn := rfl
@[simp] theorem State.putVal_drv (s : State) (n : Nat) (v : Int) : (s.putVal n v).drv = s.drv := rfl
@[simp] theorem State.putVal_vsn (s : State) (n : Nat) (v : Int) : (s.putVal n v).vsn = s.vsn := rfl
@[simp] theorem State.putVal_shm (s : State) (n : Nat) (v : Int) : (s.putVal n v).shm = s.shm := rfl
@[simp] theorem State.putVal_rcd (s : State) (n : Nat) (v : Int) : (s.putVal n v).rcd = s.rcd := rfl
@[simp] theorem State.putVal_sht (s : State) (n : Nat) (v : Int) : (s.putVal n v).sht = s.sht := rfl
@[simp] theorem State.putVal_net (s : State) (n : Nat) (v : Int) : (s.putVal n v).net = s.net := rfl
@[simp] theorem State.putVal_tim (s : State) (n : Nat) (v : Int) : (s.putVal n v).tim = s.tim := rfl
@[simp] theorem State.putVal_gio (s : State) (n : Nat) (v : Int) : (s.putVal n v).gio = s.gio := rfl
@[simp] theorem State.putVal_fan (s : State) (n : Nat) (v : Int) : (s.putVal n v).fan = s.fan := rfl
@[simp] theorem State.putVal_eph (s : State) (n : Nat) (v : Int) : (s.putVal n v).eph = s.eph := rfl
@[simp] theorem State.putVal_loop (s : State) (n : Nat) (v : Int) : (s.putVal n v).loop = s.loop := rfl
@[simp] theorem State.putVal_afe (s : State) (n : Nat) (v : Int) : (s.putVal n v).afe = s.afe := rfl
@[simp] theorem State.putVal_can0 (s : State) (n : Nat) (v : Int) : (s.putVal n v).can0 = s.can0 := rfl
@[simp] theorem State.putVal_can1 (s : State) (n : Nat) (v : Int) : (s.putVal n v).can1 = s.can1 := rfl
@[simp] theorem State.putVal_second (s : State) (n : Nat) (v : Int) : (s.putVal n v).second = s.second := rfl
@[simp] theorem State.putVal_tap (s : State) (n : Nat) (v : Int) : (s.putVal n v).tap = s.tap := rfl
@[simp] theorem State.putVal_dram (s : State) (n : Nat) (v : Int) : (s.putVal n v).dram = s.dram := rfl
@[simp] theorem State.putVal_nor (s : State) (n : Nat) (v : Int) : (s.putVal n v).nor = s.nor := rfl
@[simp] theorem State.putVal_kennel (s : State) (n : Nat) (v : Int) : (s.putVal n v).kennel = s.kennel := rfl
@[simp] theorem State.putVal_inputs (s : State) (n : Nat) (v : Int) : (s.putVal n v).inputs = s.inputs := rfl
@[simp] theorem State.putVal_bus (s : State) (n : Nat) (v : Int) : (s.putVal n v).bus = s.bus := rfl
@[simp] theorem State.putVal_episodes (s : State) (n : Nat) (v : Int) : (s.putVal n v).episodes = s.episodes := rfl
@[simp] theorem State.putVal_free (s : State) (n : Nat) (v : Int) : (s.putVal n v).free = s.free := rfl

@[simp] theorem State.setCond_pending (s : State) (n c : Nat) : (s.setCond n c).pending = s.pending := rfl
@[simp] theorem State.setCond_clk (s : State) (n c : Nat) : (s.setCond n c).clk = s.clk := rfl
@[simp] theorem State.setCond_regs (s : State) (n c : Nat) : (s.setCond n c).regs = s.regs := rfl
@[simp] theorem State.setCond_flights (s : State) (n c : Nat) : (s.setCond n c).flights = s.flights := rfl
@[simp] theorem State.setCond_sys (s : State) (n c : Nat) : (s.setCond n c).sys = s.sys := rfl
@[simp] theorem State.setCond_img (s : State) (n c : Nat) : (s.setCond n c).img = s.img := rfl
@[simp] theorem State.setCond_cmd (s : State) (n c : Nat) : (s.setCond n c).cmd = s.cmd := rfl
@[simp] theorem State.setCond_trn (s : State) (n c : Nat) : (s.setCond n c).trn = s.trn := rfl
@[simp] theorem State.setCond_drv (s : State) (n c : Nat) : (s.setCond n c).drv = s.drv := rfl
@[simp] theorem State.setCond_vsn (s : State) (n c : Nat) : (s.setCond n c).vsn = s.vsn := rfl
@[simp] theorem State.setCond_shm (s : State) (n c : Nat) : (s.setCond n c).shm = s.shm := rfl
@[simp] theorem State.setCond_rcd (s : State) (n c : Nat) : (s.setCond n c).rcd = s.rcd := rfl
@[simp] theorem State.setCond_sht (s : State) (n c : Nat) : (s.setCond n c).sht = s.sht := rfl
@[simp] theorem State.setCond_net (s : State) (n c : Nat) : (s.setCond n c).net = s.net := rfl
@[simp] theorem State.setCond_tim (s : State) (n c : Nat) : (s.setCond n c).tim = s.tim := rfl
@[simp] theorem State.setCond_gio (s : State) (n c : Nat) : (s.setCond n c).gio = s.gio := rfl
@[simp] theorem State.setCond_fan (s : State) (n c : Nat) : (s.setCond n c).fan = s.fan := rfl
@[simp] theorem State.setCond_eph (s : State) (n c : Nat) : (s.setCond n c).eph = s.eph := rfl
@[simp] theorem State.setCond_loop (s : State) (n c : Nat) : (s.setCond n c).loop = s.loop := rfl
@[simp] theorem State.setCond_afe (s : State) (n c : Nat) : (s.setCond n c).afe = s.afe := rfl
@[simp] theorem State.setCond_can0 (s : State) (n c : Nat) : (s.setCond n c).can0 = s.can0 := rfl
@[simp] theorem State.setCond_can1 (s : State) (n c : Nat) : (s.setCond n c).can1 = s.can1 := rfl
@[simp] theorem State.setCond_second (s : State) (n c : Nat) : (s.setCond n c).second = s.second := rfl
@[simp] theorem State.setCond_tap (s : State) (n c : Nat) : (s.setCond n c).tap = s.tap := rfl
@[simp] theorem State.setCond_dram (s : State) (n c : Nat) : (s.setCond n c).dram = s.dram := rfl
@[simp] theorem State.setCond_nor (s : State) (n c : Nat) : (s.setCond n c).nor = s.nor := rfl
@[simp] theorem State.setCond_kennel (s : State) (n c : Nat) : (s.setCond n c).kennel = s.kennel := rfl
@[simp] theorem State.setCond_inputs (s : State) (n c : Nat) : (s.setCond n c).inputs = s.inputs := rfl
@[simp] theorem State.setCond_bus (s : State) (n c : Nat) : (s.setCond n c).bus = s.bus := rfl
@[simp] theorem State.setCond_episodes (s : State) (n c : Nat) : (s.setCond n c).episodes = s.episodes := rfl
@[simp] theorem State.setCond_free (s : State) (n c : Nat) : (s.setCond n c).free = s.free := rfl

/-! ### Runs of registers -/

@[simp] theorem State.clearRegs_pending (s : State) (a n : Nat) : (s.clearRegs a n).pending = s.pending := by
  induction n with
  | zero => rfl
  | succ n ih => simpa [State.clearRegs] using ih

@[simp] theorem State.clearRegs_clk (s : State) (a n : Nat) : (s.clearRegs a n).clk = s.clk := by
  induction n with
  | zero => rfl
  | succ n ih => simpa [State.clearRegs] using ih

@[simp] theorem State.clearRegs_flights (s : State) (a n : Nat) : (s.clearRegs a n).flights = s.flights := by
  induction n with
  | zero => rfl
  | succ n ih => simpa [State.clearRegs] using ih

@[simp] theorem State.clearRegs_sys (s : State) (a n : Nat) : (s.clearRegs a n).sys = s.sys := by
  induction n with
  | zero => rfl
  | succ n ih => simpa [State.clearRegs] using ih

@[simp] theorem State.clearRegs_img (s : State) (a n : Nat) : (s.clearRegs a n).img = s.img := by
  induction n with
  | zero => rfl
  | succ n ih => simpa [State.clearRegs] using ih

@[simp] theorem State.clearRegs_cmd (s : State) (a n : Nat) : (s.clearRegs a n).cmd = s.cmd := by
  induction n with
  | zero => rfl
  | succ n ih => simpa [State.clearRegs] using ih

@[simp] theorem State.clearRegs_trn (s : State) (a n : Nat) : (s.clearRegs a n).trn = s.trn := by
  induction n with
  | zero => rfl
  | succ n ih => simpa [State.clearRegs] using ih

@[simp] theorem State.clearRegs_drv (s : State) (a n : Nat) : (s.clearRegs a n).drv = s.drv := by
  induction n with
  | zero => rfl
  | succ n ih => simpa [State.clearRegs] using ih

@[simp] theorem State.clearRegs_vsn (s : State) (a n : Nat) : (s.clearRegs a n).vsn = s.vsn := by
  induction n with
  | zero => rfl
  | succ n ih => simpa [State.clearRegs] using ih

@[simp] theorem State.clearRegs_shm (s : State) (a n : Nat) : (s.clearRegs a n).shm = s.shm := by
  induction n with
  | zero => rfl
  | succ n ih => simpa [State.clearRegs] using ih

@[simp] theorem State.clearRegs_rcd (s : State) (a n : Nat) : (s.clearRegs a n).rcd = s.rcd := by
  induction n with
  | zero => rfl
  | succ n ih => simpa [State.clearRegs] using ih

@[simp] theorem State.clearRegs_sht (s : State) (a n : Nat) : (s.clearRegs a n).sht = s.sht := by
  induction n with
  | zero => rfl
  | succ n ih => simpa [State.clearRegs] using ih

@[simp] theorem State.clearRegs_net (s : State) (a n : Nat) : (s.clearRegs a n).net = s.net := by
  induction n with
  | zero => rfl
  | succ n ih => simpa [State.clearRegs] using ih

@[simp] theorem State.clearRegs_tim (s : State) (a n : Nat) : (s.clearRegs a n).tim = s.tim := by
  induction n with
  | zero => rfl
  | succ n ih => simpa [State.clearRegs] using ih

@[simp] theorem State.clearRegs_gio (s : State) (a n : Nat) : (s.clearRegs a n).gio = s.gio := by
  induction n with
  | zero => rfl
  | succ n ih => simpa [State.clearRegs] using ih

@[simp] theorem State.clearRegs_fan (s : State) (a n : Nat) : (s.clearRegs a n).fan = s.fan := by
  induction n with
  | zero => rfl
  | succ n ih => simpa [State.clearRegs] using ih

@[simp] theorem State.clearRegs_eph (s : State) (a n : Nat) : (s.clearRegs a n).eph = s.eph := by
  induction n with
  | zero => rfl
  | succ n ih => simpa [State.clearRegs] using ih

@[simp] theorem State.clearRegs_loop (s : State) (a n : Nat) : (s.clearRegs a n).loop = s.loop := by
  induction n with
  | zero => rfl
  | succ n ih => simpa [State.clearRegs] using ih

@[simp] theorem State.clearRegs_afe (s : State) (a n : Nat) : (s.clearRegs a n).afe = s.afe := by
  induction n with
  | zero => rfl
  | succ n ih => simpa [State.clearRegs] using ih

@[simp] theorem State.clearRegs_can0 (s : State) (a n : Nat) : (s.clearRegs a n).can0 = s.can0 := by
  induction n with
  | zero => rfl
  | succ n ih => simpa [State.clearRegs] using ih

@[simp] theorem State.clearRegs_can1 (s : State) (a n : Nat) : (s.clearRegs a n).can1 = s.can1 := by
  induction n with
  | zero => rfl
  | succ n ih => simpa [State.clearRegs] using ih

@[simp] theorem State.clearRegs_second (s : State) (a n : Nat) : (s.clearRegs a n).second = s.second := by
  induction n with
  | zero => rfl
  | succ n ih => simpa [State.clearRegs] using ih

@[simp] theorem State.clearRegs_tap (s : State) (a n : Nat) : (s.clearRegs a n).tap = s.tap := by
  induction n with
  | zero => rfl
  | succ n ih => simpa [State.clearRegs] using ih

@[simp] theorem State.clearRegs_dram (s : State) (a n : Nat) : (s.clearRegs a n).dram = s.dram := by
  induction n with
  | zero => rfl
  | succ n ih => simpa [State.clearRegs] using ih

@[simp] theorem State.clearRegs_nor (s : State) (a n : Nat) : (s.clearRegs a n).nor = s.nor := by
  induction n with
  | zero => rfl
  | succ n ih => simpa [State.clearRegs] using ih

@[simp] theorem State.clearRegs_kennel (s : State) (a n : Nat) : (s.clearRegs a n).kennel = s.kennel := by
  induction n with
  | zero => rfl
  | succ n ih => simpa [State.clearRegs] using ih

@[simp] theorem State.clearRegs_fabric (s : State) (a n : Nat) : (s.clearRegs a n).fabric = s.fabric := by
  induction n with
  | zero => rfl
  | succ n ih => simpa [State.clearRegs] using ih

@[simp] theorem State.clearRegs_inputs (s : State) (a n : Nat) : (s.clearRegs a n).inputs = s.inputs := by
  induction n with
  | zero => rfl
  | succ n ih => simpa [State.clearRegs] using ih

@[simp] theorem State.clearRegs_bus (s : State) (a n : Nat) : (s.clearRegs a n).bus = s.bus := by
  induction n with
  | zero => rfl
  | succ n ih => simpa [State.clearRegs] using ih

@[simp] theorem State.clearRegs_episodes (s : State) (a n : Nat) : (s.clearRegs a n).episodes = s.episodes := by
  induction n with
  | zero => rfl
  | succ n ih => simpa [State.clearRegs] using ih

@[simp] theorem State.clearRegs_free (s : State) (a n : Nat) : (s.clearRegs a n).free = s.free := by
  induction n with
  | zero => rfl
  | succ n ih => simpa [State.clearRegs] using ih

@[simp] theorem State.putRegs_pending (s : State) (a : Nat) (ws : List Word) : (s.putRegs a ws).pending = s.pending := by
  induction ws generalizing s a with
  | nil => rfl
  | cons w ws ih => simp [State.putRegs, ih]

@[simp] theorem State.putRegs_clk (s : State) (a : Nat) (ws : List Word) : (s.putRegs a ws).clk = s.clk := by
  induction ws generalizing s a with
  | nil => rfl
  | cons w ws ih => simp [State.putRegs, ih]

@[simp] theorem State.putRegs_flights (s : State) (a : Nat) (ws : List Word) : (s.putRegs a ws).flights = s.flights := by
  induction ws generalizing s a with
  | nil => rfl
  | cons w ws ih => simp [State.putRegs, ih]

@[simp] theorem State.putRegs_sys (s : State) (a : Nat) (ws : List Word) : (s.putRegs a ws).sys = s.sys := by
  induction ws generalizing s a with
  | nil => rfl
  | cons w ws ih => simp [State.putRegs, ih]

@[simp] theorem State.putRegs_img (s : State) (a : Nat) (ws : List Word) : (s.putRegs a ws).img = s.img := by
  induction ws generalizing s a with
  | nil => rfl
  | cons w ws ih => simp [State.putRegs, ih]

@[simp] theorem State.putRegs_cmd (s : State) (a : Nat) (ws : List Word) : (s.putRegs a ws).cmd = s.cmd := by
  induction ws generalizing s a with
  | nil => rfl
  | cons w ws ih => simp [State.putRegs, ih]

@[simp] theorem State.putRegs_trn (s : State) (a : Nat) (ws : List Word) : (s.putRegs a ws).trn = s.trn := by
  induction ws generalizing s a with
  | nil => rfl
  | cons w ws ih => simp [State.putRegs, ih]

@[simp] theorem State.putRegs_drv (s : State) (a : Nat) (ws : List Word) : (s.putRegs a ws).drv = s.drv := by
  induction ws generalizing s a with
  | nil => rfl
  | cons w ws ih => simp [State.putRegs, ih]

@[simp] theorem State.putRegs_vsn (s : State) (a : Nat) (ws : List Word) : (s.putRegs a ws).vsn = s.vsn := by
  induction ws generalizing s a with
  | nil => rfl
  | cons w ws ih => simp [State.putRegs, ih]

@[simp] theorem State.putRegs_shm (s : State) (a : Nat) (ws : List Word) : (s.putRegs a ws).shm = s.shm := by
  induction ws generalizing s a with
  | nil => rfl
  | cons w ws ih => simp [State.putRegs, ih]

@[simp] theorem State.putRegs_rcd (s : State) (a : Nat) (ws : List Word) : (s.putRegs a ws).rcd = s.rcd := by
  induction ws generalizing s a with
  | nil => rfl
  | cons w ws ih => simp [State.putRegs, ih]

@[simp] theorem State.putRegs_sht (s : State) (a : Nat) (ws : List Word) : (s.putRegs a ws).sht = s.sht := by
  induction ws generalizing s a with
  | nil => rfl
  | cons w ws ih => simp [State.putRegs, ih]

@[simp] theorem State.putRegs_net (s : State) (a : Nat) (ws : List Word) : (s.putRegs a ws).net = s.net := by
  induction ws generalizing s a with
  | nil => rfl
  | cons w ws ih => simp [State.putRegs, ih]

@[simp] theorem State.putRegs_tim (s : State) (a : Nat) (ws : List Word) : (s.putRegs a ws).tim = s.tim := by
  induction ws generalizing s a with
  | nil => rfl
  | cons w ws ih => simp [State.putRegs, ih]

@[simp] theorem State.putRegs_gio (s : State) (a : Nat) (ws : List Word) : (s.putRegs a ws).gio = s.gio := by
  induction ws generalizing s a with
  | nil => rfl
  | cons w ws ih => simp [State.putRegs, ih]

@[simp] theorem State.putRegs_fan (s : State) (a : Nat) (ws : List Word) : (s.putRegs a ws).fan = s.fan := by
  induction ws generalizing s a with
  | nil => rfl
  | cons w ws ih => simp [State.putRegs, ih]

@[simp] theorem State.putRegs_eph (s : State) (a : Nat) (ws : List Word) : (s.putRegs a ws).eph = s.eph := by
  induction ws generalizing s a with
  | nil => rfl
  | cons w ws ih => simp [State.putRegs, ih]

@[simp] theorem State.putRegs_loop (s : State) (a : Nat) (ws : List Word) : (s.putRegs a ws).loop = s.loop := by
  induction ws generalizing s a with
  | nil => rfl
  | cons w ws ih => simp [State.putRegs, ih]

@[simp] theorem State.putRegs_afe (s : State) (a : Nat) (ws : List Word) : (s.putRegs a ws).afe = s.afe := by
  induction ws generalizing s a with
  | nil => rfl
  | cons w ws ih => simp [State.putRegs, ih]

@[simp] theorem State.putRegs_can0 (s : State) (a : Nat) (ws : List Word) : (s.putRegs a ws).can0 = s.can0 := by
  induction ws generalizing s a with
  | nil => rfl
  | cons w ws ih => simp [State.putRegs, ih]

@[simp] theorem State.putRegs_can1 (s : State) (a : Nat) (ws : List Word) : (s.putRegs a ws).can1 = s.can1 := by
  induction ws generalizing s a with
  | nil => rfl
  | cons w ws ih => simp [State.putRegs, ih]

@[simp] theorem State.putRegs_second (s : State) (a : Nat) (ws : List Word) : (s.putRegs a ws).second = s.second := by
  induction ws generalizing s a with
  | nil => rfl
  | cons w ws ih => simp [State.putRegs, ih]

@[simp] theorem State.putRegs_tap (s : State) (a : Nat) (ws : List Word) : (s.putRegs a ws).tap = s.tap := by
  induction ws generalizing s a with
  | nil => rfl
  | cons w ws ih => simp [State.putRegs, ih]

@[simp] theorem State.putRegs_dram (s : State) (a : Nat) (ws : List Word) : (s.putRegs a ws).dram = s.dram := by
  induction ws generalizing s a with
  | nil => rfl
  | cons w ws ih => simp [State.putRegs, ih]

@[simp] theorem State.putRegs_nor (s : State) (a : Nat) (ws : List Word) : (s.putRegs a ws).nor = s.nor := by
  induction ws generalizing s a with
  | nil => rfl
  | cons w ws ih => simp [State.putRegs, ih]

@[simp] theorem State.putRegs_kennel (s : State) (a : Nat) (ws : List Word) : (s.putRegs a ws).kennel = s.kennel := by
  induction ws generalizing s a with
  | nil => rfl
  | cons w ws ih => simp [State.putRegs, ih]

@[simp] theorem State.putRegs_fabric (s : State) (a : Nat) (ws : List Word) : (s.putRegs a ws).fabric = s.fabric := by
  induction ws generalizing s a with
  | nil => rfl
  | cons w ws ih => simp [State.putRegs, ih]

@[simp] theorem State.putRegs_inputs (s : State) (a : Nat) (ws : List Word) : (s.putRegs a ws).inputs = s.inputs := by
  induction ws generalizing s a with
  | nil => rfl
  | cons w ws ih => simp [State.putRegs, ih]

@[simp] theorem State.putRegs_bus (s : State) (a : Nat) (ws : List Word) : (s.putRegs a ws).bus = s.bus := by
  induction ws generalizing s a with
  | nil => rfl
  | cons w ws ih => simp [State.putRegs, ih]

@[simp] theorem State.putRegs_episodes (s : State) (a : Nat) (ws : List Word) : (s.putRegs a ws).episodes = s.episodes := by
  induction ws generalizing s a with
  | nil => rfl
  | cons w ws ih => simp [State.putRegs, ih]

@[simp] theorem State.putRegs_free (s : State) (a : Nat) (ws : List Word) : (s.putRegs a ws).free = s.free := by
  induction ws generalizing s a with
  | nil => rfl
  | cons w ws ih => simp [State.putRegs, ih]

end Sys2Proof.Machine
end

