-- ==== Sys2Proof/Laws/Store.lean ====
section
/-! SUPPORT. What reading and writing a store does, and that every write keeps the canonical form. -/

namespace Sys2Proof.Machine

theorem storeGet_drop_same {α : Type} (d : Nat → α) (l : Store α) (k : Nat) : storeGet d (storeDrop l k) k = d k := by
  induction l with
  | nil => rfl
  | cons e l ih =>
    obtain ⟨j, v⟩ := e
    by_cases h : j = k
    · simp [storeDrop, h, ih]
    · simp [storeDrop, h, storeGet, ih]

theorem storeGet_drop_ne {α : Type} (d : Nat → α) (l : Store α) {k k' : Nat} (h : k ≠ k') : storeGet d (storeDrop l k) k' = storeGet d l k' := by
  induction l with
  | nil => rfl
  | cons e l ih =>
    obtain ⟨j, v⟩ := e
    by_cases hj : j = k
    · subst hj; simp [storeDrop, storeGet, h, ih]
    · simp only [storeDrop, hj, if_false, storeGet, ih]

theorem storeGet_put_ne {α : Type} (d : Nat → α) (l : Store α) {k k' : Nat} (v : α) (h : k ≠ k') : storeGet d (storePut l k v) k' = storeGet d l k' := by
  induction l with
  | nil => simp [storePut, storeGet, h]
  | cons e l ih =>
    obtain ⟨j, w⟩ := e
    by_cases hj : k < j
    · simp [storePut, hj, storeGet, h]
    · simp only [storePut, hj, if_false, storeGet, ih]

/-- No entry of a list has a key. -/
def storeFree {α : Type} : Store α → Nat → Bool
  | [], _ => true
  | (j, _) :: l, k => !decide (j = k) && storeFree l k

theorem storeFree_drop {α : Type} (l : Store α) (k : Nat) : storeFree (storeDrop l k) k = true := by
  induction l with
  | nil => rfl
  | cons e l ih =>
    obtain ⟨j, v⟩ := e
    by_cases h : j = k <;> simp [storeDrop, h, storeFree, ih]

theorem storeGet_put_same {α : Type} (d : Nat → α) (l : Store α) (k : Nat) (v : α) (h : storeFree l k = true) : storeGet d (storePut l k v) k = v := by
  induction l with
  | nil => simp [storePut, storeGet]
  | cons e l ih =>
    obtain ⟨j, w⟩ := e
    simp [storeFree] at h
    by_cases hj : k < j
    · simp [storePut, hj, storeGet]
    · simp [storePut, hj, storeGet, h.1, ih h.2]

/-- A read after a write to the same key gives the value written. -/
@[simp] theorem storeGet_set_same {α : Type} [DecidableEq α] (d : Nat → α) (l : Store α) (k : Nat) (v : α) : storeGet d (storeSet d l k v) k = v := by
  unfold storeSet
  split
  · rename_i h; rw [storeGet_drop_same, h]
  · exact storeGet_put_same d _ k v (storeFree_drop l k)

/-- A write leaves every other key alone. -/
theorem storeGet_set_ne {α : Type} [DecidableEq α] (d : Nat → α) (l : Store α) {k k' : Nat} (v : α) (h : k ≠ k') :
    storeGet d (storeSet d l k v) k' = storeGet d l k' := by
  unfold storeSet
  split
  · exact storeGet_drop_ne d l h
  · rw [storeGet_put_ne d _ v h, storeGet_drop_ne d l h]

/-- What a read gives after a write. -/
theorem storeGet_set {α : Type} [DecidableEq α] (d : Nat → α) (l : Store α) (k k' : Nat) (v : α) :
    storeGet d (storeSet d l k v) k' = if k = k' then v else storeGet d l k' := by
  by_cases h : k = k'
  · subst h; simp
  · simp [h, storeGet_set_ne d l v h]

/-! ### The canonical form -/

theorem storeWfFrom_mono {α : Type} [DecidableEq α] (d : Nat → α) (l : Store α) {a b : Nat} (h : a ≤ b) (hl : storeWfFrom d b l = true) :
    storeWfFrom d a l = true := by
  cases l with
  | nil => rfl
  | cons e l =>
    obtain ⟨k, v⟩ := e
    simp [storeWfFrom] at hl ⊢
    exact ⟨⟨by omega, hl.1.2⟩, hl.2⟩

theorem storeWfFrom_drop {α : Type} [DecidableEq α] (d : Nat → α) (l : Store α) (k lo : Nat) (h : storeWfFrom d lo l = true) :
    storeWfFrom d lo (storeDrop l k) = true := by
  induction l generalizing lo with
  | nil => rfl
  | cons e l ih =>
    obtain ⟨j, v⟩ := e
    simp [storeWfFrom] at h
    by_cases hj : j = k
    · simp only [storeDrop, hj, if_true]
      exact ih _ (storeWfFrom_mono d l (by omega) h.2)
    · simp [storeDrop, hj, storeWfFrom, h.1, ih _ h.2]

theorem storeWfFrom_put {α : Type} [DecidableEq α] (d : Nat → α) (l : Store α) (k lo : Nat) (v : α) (hv : v ≠ d k) (hlo : lo ≤ k)
    (hf : storeFree l k = true) (h : storeWfFrom d lo l = true) : storeWfFrom d lo (storePut l k v) = true := by
  induction l generalizing lo with
  | nil => simp [storePut, storeWfFrom, hv, hlo]
  | cons e l ih =>
    obtain ⟨j, w⟩ := e
    simp [storeWfFrom] at h
    simp [storeFree] at hf
    by_cases hj : k < j
    · have : k + 1 ≤ j := hj
      simp [storePut, hj, storeWfFrom, hv, hlo, h.1.2, h.2] <;> omega
    · have : j + 1 ≤ k := by omega
      simp [storePut, hj, storeWfFrom, h.1, ih _ this hf.2 h.2]

/-- A write keeps the canonical form. -/
theorem storeWf_set {α : Type} [DecidableEq α] (d : Nat → α) (l : Store α) (k : Nat) (v : α) (h : storeWf d l = true) :
    storeWf d (storeSet d l k v) = true := by
  unfold storeWf storeSet at *
  split
  · exact storeWfFrom_drop d l k 0 h
  · exact storeWfFrom_put d _ k 0 v (by assumption) (Nat.zero_le _) (storeFree_drop l k) (storeWfFrom_drop d l k 0 h)

/-- Writing a run of keys keeps the canonical form. -/
theorem storeWf_setList {α : Type} [DecidableEq α] (d : Nat → α) (l : Store α) (k : Nat) (vs : List α) (h : storeWf d l = true) :
    storeWf d (storeSetList d l k vs) = true := by
  induction vs generalizing l k with
  | nil => exact h
  | cons v vs ih => exact ih _ _ (storeWf_set d l k v h)

/-- Writing a run of keys leaves every key outside it alone. -/
theorem storeGet_setList_out {α : Type} [DecidableEq α] (d : Nat → α) (l : Store α) (k : Nat) (vs : List α) (a : Nat)
    (h : a < k ∨ k + vs.length ≤ a) : storeGet d (storeSetList d l k vs) a = storeGet d l a := by
  induction vs generalizing l k with
  | nil => rfl
  | cons v vs ih =>
    simp only [List.length_cons] at h
    simp only [storeSetList]
    rw [ih _ _ (by omega), storeGet_set_ne d l v (by omega)]

/-- Clearing a range keeps the canonical form. -/
theorem storeWfFrom_clear {α : Type} [DecidableEq α] (d : Nat → α) (l : Store α) (lo hi a : Nat) (h : storeWfFrom d a l = true) :
    storeWfFrom d a (storeClear l lo hi) = true := by
  induction l generalizing a with
  | nil => rfl
  | cons e l ih =>
    obtain ⟨k, v⟩ := e
    simp [storeWfFrom] at h
    unfold storeClear
    rw [List.filter_cons]
    split
    · simp only [storeWfFrom, Bool.and_eq_true, decide_eq_true_eq, Bool.not_eq_true', decide_eq_false_iff_not]
      exact ⟨h.1, ih _ h.2⟩
    · exact ih _ (storeWfFrom_mono d l (by omega) h.2)

theorem storeWf_clear {α : Type} [DecidableEq α] (d : Nat → α) (l : Store α) (lo hi : Nat) (h : storeWf d l = true) :
    storeWf d (storeClear l lo hi) = true := storeWfFrom_clear d l lo hi 0 h

end Sys2Proof.Machine
end

