-- ==== Sys2Proof/Laws/Ops.lean ====
section
/-! SUPPORT. What the shared operations do: registers, time, the event bus and the outcome of a command. -/

namespace Sys2Proof.Machine

/-! ### Registers -/

@[simp] theorem State.reg_setReg_same (s : State) (a : Nat) (w : Word) : (s.setReg a w).reg a = w := storeGet_set_same _ _ _ _

theorem State.reg_setReg_ne (s : State) {a b : Nat} (w : Word) (h : a ≠ b) : (s.setReg a w).reg b = s.reg b := storeGet_set_ne _ _ _ h

theorem State.reg_setReg (s : State) (a b : Nat) (w : Word) : (s.setReg a w).reg b = if a = b then w else s.reg b := storeGet_set _ _ _ _ _

theorem State.reg_setRf_ne (s : State) {a b : Nat} (l n v : Nat) (h : a ≠ b) : (s.setRf a l n v).reg b = s.reg b := s.reg_setReg_ne _ h

@[simp] theorem State.reg_setRf_same (s : State) (a l n v : Nat) : (s.setRf a l n v).reg a = setFld (s.reg a) l n v := s.reg_setReg_same _ _

theorem State.reg_setBit_ne (s : State) {a b : Nat} (i : Nat) (x : Bool) (h : a ≠ b) : (s.setBit a i x).reg b = s.reg b := s.reg_setReg_ne _ h

@[simp] theorem State.reg_count_same (s : State) (a : Nat) : (s.count a).reg a = satInc (s.reg a) := s.reg_setReg_same _ _

theorem State.reg_count_ne (s : State) {a b : Nat} (h : a ≠ b) : (s.count a).reg b = s.reg b := s.reg_setReg_ne _ h

/-- Clearing a run of registers clears each of them and leaves every other one alone. -/
theorem State.reg_clearRegs (s : State) (a n b : Nat) :
    (s.clearRegs a n).reg b = if ∃ k < n, b = a + 4 * k then 0 else s.reg b := by
  induction n with
  | zero => simp [State.clearRegs]
  | succ n ih =>
    simp only [State.clearRegs, State.reg_setReg, ih]
    by_cases h : a + 4 * n = b
    · rw [if_pos h, if_pos ⟨n, Nat.lt_succ_self n, h.symm⟩]
    · rw [if_neg h]
      by_cases h2 : ∃ k < n, b = a + 4 * k
      · obtain ⟨k, hk, hb⟩ := h2
        rw [if_pos ⟨k, hk, hb⟩, if_pos ⟨k, Nat.lt_succ_of_lt hk, hb⟩]
      · rw [if_neg h2, if_neg]
        rintro ⟨k, hk, hb⟩
        rcases Nat.lt_succ_iff_lt_or_eq.mp hk with h3 | h3
        · exact h2 ⟨k, h3, hb⟩
        · subst h3; exact h hb.symm

/-- Clearing a run of registers leaves every register outside it alone. -/
theorem State.reg_clearRegs_out (s : State) (a n b : Nat) (h : b < a ∨ a + 4 * n ≤ b) : (s.clearRegs a n).reg b = s.reg b := by
  rw [s.reg_clearRegs, if_neg]
  rintro ⟨k, hk, rfl⟩
  omega

@[simp] theorem State.reg_raise (s : State) (c : Nat) (xs : List Byte) (a : Nat) : (s.raise c xs).reg a = s.reg a := rfl

@[simp] theorem State.reg_raiseEp (s : State) (c : Nat) (xs : List Byte) (n a : Nat) : (s.raiseEp c xs n).reg a = s.reg a := rfl

@[simp] theorem State.reg_advance (s : State) (k a : Nat) : (s.advance k).reg a = s.reg a := rfl

@[simp] theorem State.reg_reachTick (s : State) (k a : Nat) : (s.reachTick k).reg a = s.reg a := rfl

@[simp] theorem State.reg_reachNt (s : State) (k : Int) (a : Nat) : (s.reachNt k).reg a = s.reg a := rfl

@[simp] theorem State.reg_dramPut (s : State) (k : Nat) (bs : List Byte) (a : Nat) : (s.dramPut k bs).reg a = s.reg a := rfl

@[simp] theorem State.reg_norPut (s : State) (k : Nat) (bs : List Byte) (a : Nat) : (s.norPut k bs).reg a = s.reg a := rfl

@[simp] theorem State.reg_kenPut (s : State) (k : Nat) (bs : List Byte) (a : Nat) : (s.kenPut k bs).reg a = s.reg a := rfl

@[simp] theorem State.reg_putSlot (s : State) (k : Nat) (v : Word) (t : Byte) (a : Nat) : (s.putSlot k v t).reg a = s.reg a := rfl

@[simp] theorem State.reg_answer (s : State) (st n : Nat) (d : List Word) (a : Nat) : (s.answer st n d).reg a = s.reg a := rfl

@[simp] theorem State.reg_takeOffer (s : State) (d : Delivered) (a : Nat) : (s.takeOffer d).reg a = s.reg a := rfl

/-! ### Fields and bits of registers -/

theorem State.rf_setRf_same (s : State) (a l n v : Nat) (h : l + n ≤ 32) : (s.setRf a l n v).rf a l n = v % 2 ^ n := by
  simp [State.rf, fld_setFld_same _ _ _ _ h]

theorem State.rf_setRf_out (s : State) (a l n v l' n' : Nat) (h : l + n ≤ 32) (hd : l' + n' ≤ l ∨ l + n ≤ l') :
    (s.setRf a l n v).rf a l' n' = s.rf a l' n' := by
  simp [State.rf, fld_setFld_out _ _ _ _ _ _ h hd]

theorem State.rf_setRf_ne (s : State) {a b : Nat} (l n v l' n' : Nat) (h : a ≠ b) : (s.setRf a l n v).rf b l' n' = s.rf b l' n' := by
  simp [State.rf, State.reg_setRf_ne _ _ _ _ h]

theorem State.bit_setBit_same (s : State) (a i : Nat) (b : Bool) (h : i < 32) : (s.setBit a i b).bit a i = b := by
  simp [State.bit, State.setBit, bitOf_setFld _ _ _ _ _ (show i + 1 ≤ 32 from h)]
  cases b <;> rfl

theorem State.bit_setBit_other (s : State) (a i j : Nat) (b : Bool) (h : i < 32) (hij : i ≠ j) : (s.setBit a i b).bit a j = s.bit a j := by
  simp [State.bit, State.setBit, bitOf_setFld _ _ _ _ _ (show i + 1 ≤ 32 from h)]
  intro h1 h2
  omega

theorem State.bit_setBit_ne (s : State) {a c : Nat} (i j : Nat) (b : Bool) (h : a ≠ c) : (s.setBit a i b).bit c j = s.bit c j := by
  simp [State.bit, State.reg_setBit_ne _ _ _ h]

/-- What a bit reads after a bit is written. -/
theorem State.bit_setBit (s : State) (a c i j : Nat) (b : Bool) (h : i < 32) :
    (s.setBit a i b).bit c j = if a = c ∧ i = j then b else s.bit c j := by
  by_cases h1 : a = c
  · subst h1
    by_cases h2 : i = j
    · subst h2; simp [State.bit_setBit_same _ _ _ _ h]
    · simp [State.bit_setBit_other _ _ _ _ _ h h2, h2]
  · simp [State.bit_setBit_ne _ _ _ _ h1, h1]

/-! ### Slots and memories -/

@[simp] theorem State.slot_putSlot_same (s : State) (n : Nat) (v : Word) (t : Byte) : (s.putSlot n v t).slot n = ⟨t, v⟩ := storeGet_set_same _ _ _ _

theorem State.slot_putSlot_ne (s : State) {n m : Nat} (v : Word) (t : Byte) (h : n ≠ m) : (s.putSlot n v t).slot m = s.slot m := storeGet_set_ne _ _ _ h

/-- Bytes of DRAM outside a written run keep what they held. -/
theorem State.dramByte_dramPut_out (s : State) (a : Nat) (bs : List Byte) (b : Nat) (h : b < a ∨ a + bs.length ≤ b) :
    (s.dramPut a bs).dramByte b = s.dramByte b := storeGet_setList_out _ _ _ _ _ h

/-- Bytes of the NOR flash outside a written run keep what they held. -/
theorem State.norByte_norPut_out (s : State) (a : Nat) (bs : List Byte) (b : Nat) (h : b < a ∨ a + bs.length ≤ b) :
    (s.norPut a bs).norByte b = s.norByte b := storeGet_setList_out _ _ _ _ _ h

/-- Bytes of the Kennel outside a written run keep what they held. -/
theorem State.kenByte_kenPut_out (s : State) (a : Nat) (bs : List Byte) (b : Nat) (h : b < a ∨ a + bs.length ≤ b) :
    (s.kenPut a bs).kenByte b = s.kenByte b := storeGet_setList_out _ _ _ _ _ h

/-! ### The canonical form of the memories -/

theorem State.memWf_dramPut (s : State) (a : Nat) (bs : List Byte) (h : s.memWf = true) : (s.dramPut a bs).memWf = true := by
  simp only [State.memWf, Bool.and_eq_true] at h ⊢
  exact ⟨⟨storeWf_setList _ _ _ _ h.1.1, h.1.2⟩, h.2⟩

theorem State.memWf_norPut (s : State) (a : Nat) (bs : List Byte) (h : s.memWf = true) : (s.norPut a bs).memWf = true := by
  simp only [State.memWf, Bool.and_eq_true] at h ⊢
  exact ⟨⟨h.1.1, storeWf_setList _ _ _ _ h.1.2⟩, h.2⟩

theorem State.memWf_kenPut (s : State) (a : Nat) (bs : List Byte) (h : s.memWf = true) : (s.kenPut a bs).memWf = true := by
  simp only [State.memWf, Bool.and_eq_true] at h ⊢
  exact ⟨h.1, storeWf_setList _ _ _ _ h.2⟩

theorem State.memWf_reset : State.reset.memWf = true := rfl

/-! ### Time -/

@[simp] theorem State.advance_now (s : State) (k : Nat) : (s.advance k).clk.now = s.clk.now + k := rfl

@[simp] theorem State.advance_nt (s : State) (k : Nat) : (s.advance k).clk.nt = s.clk.nt + k * s.clk.inc := rfl

@[simp] theorem State.advance_zero (s : State) : s.advance 0 = s := by
  simp [State.advance]

/-! ### The event bus -/

/-- `t` is `s` after events have been handed on: at most the recorder, the Shutter, the event frames, the bus, the episodes and the registers of `busRegs` differ. -/
def Carried (s t : State) : Prop :=
  t = { s with regs := t.regs, rcd := t.rcd, sht := t.sht, net := t.net, bus := t.bus, episodes := t.episodes } ∧ ∀ a, a ∉ busRegs → t.reg a = s.reg a

theorem Carried.refl (s : State) : Carried s s := ⟨rfl, fun _ _ => rfl⟩

theorem Carried.trans {s t u : State} (h : Carried s t) (k : Carried t u) : Carried s u :=
  ⟨k.1.trans (by rw [h.1]), fun a ha => (k.2 a ha).trans (h.2 a ha)⟩

theorem State.count_carried (s : State) {a : Nat} (h : a ∈ busRegs) : Carried s (s.count a) :=
  ⟨rfl, fun b hb => State.reg_count_ne _ (by rintro rfl; exact hb h)⟩

theorem State.setBit_carried (s : State) {a : Nat} (i : Nat) (x : Bool) (h : a ∈ busRegs) : Carried s (s.setBit a i x) :=
  ⟨rfl, fun b hb => State.reg_setBit_ne _ _ _ (by rintro rfl; exact hb h)⟩

/-- An update of the recorder, the Shutter, the event frames, the bus and the episodes. -/
theorem State.with_carried (s : State) (r : Rec) (t : Sht) (n : Net) (b : List Event) (e : List Episode) :
    Carried s { s with rcd := r, sht := t, net := n, bus := b, episodes := e } := ⟨rfl, fun _ _ => rfl⟩

/-- Counting an occurrence in an episode changes the bus and the episodes only. -/
theorem State.episode_eq (s : State) (c k : Nat) (as : List Byte) (l : Nat) :
    s.episode c k as l = { s with bus := (s.episode c k as l).bus, episodes := (s.episode c k as l).episodes } := by
  unfold State.episode
  simp only
  generalize ({ code := c, key := k, args := as, opened := s.clk.now, last := s.clk.now, count := 1, level := l } : Episode) = e0
  cases findEp s.episodes c k <;> (simp only; split <;> rfl)

theorem State.episode_carried (s : State) (c k : Nat) (as : List Byte) (l : Nat) : Carried s (s.episode c k as l) := by
  rw [s.episode_eq]; exact s.with_carried s.rcd s.sht s.net _ _

theorem State.toRecorder_carried (s : State) (e : Event) : Carried s (s.toRecorder e) := by
  unfold State.toRecorder; split
  · exact s.with_carried _ s.sht s.net s.bus s.episodes
  · exact ((s.count_carried (by simp [busRegs])).trans (State.setBit_carried _ 6 true (by simp [busRegs]))).trans
      (State.with_carried _ _ _ _ _ _)

theorem State.toFrames_carried (s : State) (e : Event) : Carried s (s.toFrames e) := by
  unfold State.toFrames; split
  · exact s.with_carried s.rcd s.sht _ s.bus s.episodes
  · exact ((s.count_carried (by simp [busRegs])).trans (State.with_carried _ _ _ _ _ _)).trans (State.episode_carried _ _ _ _ _)

theorem State.carry_carried (s : State) (e : Event) : Carried s (s.carry e) := by
  have h1 : Carried s (({ s with net := { s.net with eseq := (s.net.eseq + 1) % 2 ^ 32 } }).toFrames e) :=
    (s.with_carried s.rcd s.sht _ s.bus s.episodes).trans (State.toFrames_carried _ e)
  unfold State.carry
  simp only
  generalize ({ s with net := { s.net with eseq := (s.net.eseq + 1) % 2 ^ 32 } } : State).toFrames e = x at h1 ⊢
  generalize (!(x.sht.evPend.any fun p => p.1 == e.tick) && x.shtMatches e) = c
  generalize ({ x.sht with evPend := x.sht.evPend ++ [(e.tick, e.code)] } : Sht) = sh
  have h2 : Carried s (if c = true then { x with sht := sh } else x) := by
    split
    · exact h1.trans (x.with_carried x.rcd sh x.net x.bus x.episodes)
    · exact h1
  generalize (if c = true then { x with sht := sh } else x) = y at h2 ⊢
  split
  · exact h2.trans (y.setBit_carried 2 true (by simp [busRegs]))
  · exact h2

theorem State.queueLost_carried (s : State) : Carried s s.queueLost := by
  unfold State.queueLost; split
  · exact ((s.carry_carried _).trans (State.setBit_carried _ 6 false (by simp [busRegs]))).trans (State.with_carried _ _ _ _ _ _)
  · exact .refl s

theorem State.deliver_carried (s : State) (e : Event) : Carried s (s.deliver e) :=
  (s.queueLost_carried.trans (State.toRecorder_carried _ _)).trans (State.carry_carried _ _)

/-- The flush of the event bus: everything it can do. -/
theorem State.flush_carried (s : State) : Carried s s.flush := by
  have h : ∀ (es : List Event) (x : State), Carried x (es.foldl State.deliver x) := by
    intro es; induction es with
    | nil => exact Carried.refl
    | cons e es ih => exact fun x => (x.deliver_carried e).trans (ih _)
  exact (s.with_carried s.rcd s.sht s.net _ s.episodes).trans (h _ _)

/-- The flush writes no register but those of `busRegs`. -/
theorem State.reg_flush (s : State) {a : Nat} (h : a ∉ busRegs) : s.flush.reg a = s.reg a := s.flush_carried.2 a h

@[simp] theorem State.reg_episode (s : State) (c k : Nat) (as : List Byte) (l a : Nat) : (s.episode c k as l).reg a = s.reg a := by
  rw [s.episode_eq]; rfl

/-- The flush of an empty bus changes nothing. -/
theorem State.flush_of_bus_nil (s : State) (h : s.bus = []) : s.flush = s := by
  unfold State.flush; rw [h]; show { s with bus := [] } = s; rw [← h]

@[simp] theorem State.flush_pending (s : State) : s.flush.pending = s.pending := (congrArg State.pending s.flush_carried.1 :)
@[simp] theorem State.flush_clk (s : State) : s.flush.clk = s.clk := (congrArg State.clk s.flush_carried.1 :)
@[simp] theorem State.flush_flights (s : State) : s.flush.flights = s.flights := (congrArg State.flights s.flush_carried.1 :)
@[simp] theorem State.flush_sys (s : State) : s.flush.sys = s.sys := (congrArg State.sys s.flush_carried.1 :)
@[simp] theorem State.flush_img (s : State) : s.flush.img = s.img := (congrArg State.img s.flush_carried.1 :)
@[simp] theorem State.flush_cmd (s : State) : s.flush.cmd = s.cmd := (congrArg State.cmd s.flush_carried.1 :)
@[simp] theorem State.flush_trn (s : State) : s.flush.trn = s.trn := (congrArg State.trn s.flush_carried.1 :)
@[simp] theorem State.flush_drv (s : State) : s.flush.drv = s.drv := (congrArg State.drv s.flush_carried.1 :)
@[simp] theorem State.flush_vsn (s : State) : s.flush.vsn = s.vsn := (congrArg State.vsn s.flush_carried.1 :)
@[simp] theorem State.flush_shm (s : State) : s.flush.shm = s.shm := (congrArg State.shm s.flush_carried.1 :)
@[simp] theorem State.flush_tim (s : State) : s.flush.tim = s.tim := (congrArg State.tim s.flush_carried.1 :)
@[simp] theorem State.flush_gio (s : State) : s.flush.gio = s.gio := (congrArg State.gio s.flush_carried.1 :)
@[simp] theorem State.flush_fan (s : State) : s.flush.fan = s.fan := (congrArg State.fan s.flush_carried.1 :)
@[simp] theorem State.flush_eph (s : State) : s.flush.eph = s.eph := (congrArg State.eph s.flush_carried.1 :)
@[simp] theorem State.flush_loop (s : State) : s.flush.loop = s.loop := (congrArg State.loop s.flush_carried.1 :)
@[simp] theorem State.flush_afe (s : State) : s.flush.afe = s.afe := (congrArg State.afe s.flush_carried.1 :)
@[simp] theorem State.flush_can0 (s : State) : s.flush.can0 = s.can0 := (congrArg State.can0 s.flush_carried.1 :)
@[simp] theorem State.flush_can1 (s : State) : s.flush.can1 = s.can1 := (congrArg State.can1 s.flush_carried.1 :)
@[simp] theorem State.flush_second (s : State) : s.flush.second = s.second := (congrArg State.second s.flush_carried.1 :)
@[simp] theorem State.flush_tap (s : State) : s.flush.tap = s.tap := (congrArg State.tap s.flush_carried.1 :)
@[simp] theorem State.flush_dram (s : State) : s.flush.dram = s.dram := (congrArg State.dram s.flush_carried.1 :)
@[simp] theorem State.flush_nor (s : State) : s.flush.nor = s.nor := (congrArg State.nor s.flush_carried.1 :)
@[simp] theorem State.flush_kennel (s : State) : s.flush.kennel = s.kennel := (congrArg State.kennel s.flush_carried.1 :)
@[simp] theorem State.flush_fabric (s : State) : s.flush.fabric = s.fabric := (congrArg State.fabric s.flush_carried.1 :)
@[simp] theorem State.flush_inputs (s : State) : s.flush.inputs = s.inputs := (congrArg State.inputs s.flush_carried.1 :)
@[simp] theorem State.flush_free (s : State) : s.flush.free = s.free := (congrArg State.free s.flush_carried.1 :)

@[simp] theorem State.episode_pending (s : State) (c k : Nat) (as : List Byte) (l : Nat) : (s.episode c k as l).pending = s.pending := (congrArg State.pending (s.episode_eq c k as l) :)
@[simp] theorem State.episode_clk (s : State) (c k : Nat) (as : List Byte) (l : Nat) : (s.episode c k as l).clk = s.clk := (congrArg State.clk (s.episode_eq c k as l) :)
@[simp] theorem State.episode_flights (s : State) (c k : Nat) (as : List Byte) (l : Nat) : (s.episode c k as l).flights = s.flights := (congrArg State.flights (s.episode_eq c k as l) :)
@[simp] theorem State.episode_sys (s : State) (c k : Nat) (as : List Byte) (l : Nat) : (s.episode c k as l).sys = s.sys := (congrArg State.sys (s.episode_eq c k as l) :)
@[simp] theorem State.episode_img (s : State) (c k : Nat) (as : List Byte) (l : Nat) : (s.episode c k as l).img = s.img := (congrArg State.img (s.episode_eq c k as l) :)
@[simp] theorem State.episode_cmd (s : State) (c k : Nat) (as : List Byte) (l : Nat) : (s.episode c k as l).cmd = s.cmd := (congrArg State.cmd (s.episode_eq c k as l) :)
@[simp] theorem State.episode_trn (s : State) (c k : Nat) (as : List Byte) (l : Nat) : (s.episode c k as l).trn = s.trn := (congrArg State.trn (s.episode_eq c k as l) :)
@[simp] theorem State.episode_drv (s : State) (c k : Nat) (as : List Byte) (l : Nat) : (s.episode c k as l).drv = s.drv := (congrArg State.drv (s.episode_eq c k as l) :)
@[simp] theorem State.episode_vsn (s : State) (c k : Nat) (as : List Byte) (l : Nat) : (s.episode c k as l).vsn = s.vsn := (congrArg State.vsn (s.episode_eq c k as l) :)
@[simp] theorem State.episode_shm (s : State) (c k : Nat) (as : List Byte) (l : Nat) : (s.episode c k as l).shm = s.shm := (congrArg State.shm (s.episode_eq c k as l) :)
@[simp] theorem State.episode_tim (s : State) (c k : Nat) (as : List Byte) (l : Nat) : (s.episode c k as l).tim = s.tim := (congrArg State.tim (s.episode_eq c k as l) :)
@[simp] theorem State.episode_gio (s : State) (c k : Nat) (as : List Byte) (l : Nat) : (s.episode c k as l).gio = s.gio := (congrArg State.gio (s.episode_eq c k as l) :)
@[simp] theorem State.episode_fan (s : State) (c k : Nat) (as : List Byte) (l : Nat) : (s.episode c k as l).fan = s.fan := (congrArg State.fan (s.episode_eq c k as l) :)
@[simp] theorem State.episode_eph (s : State) (c k : Nat) (as : List Byte) (l : Nat) : (s.episode c k as l).eph = s.eph := (congrArg State.eph (s.episode_eq c k as l) :)
@[simp] theorem State.episode_loop (s : State) (c k : Nat) (as : List Byte) (l : Nat) : (s.episode c k as l).loop = s.loop := (congrArg State.loop (s.episode_eq c k as l) :)
@[simp] theorem State.episode_afe (s : State) (c k : Nat) (as : List Byte) (l : Nat) : (s.episode c k as l).afe = s.afe := (congrArg State.afe (s.episode_eq c k as l) :)
@[simp] theorem State.episode_can0 (s : State) (c k : Nat) (as : List Byte) (l : Nat) : (s.episode c k as l).can0 = s.can0 := (congrArg State.can0 (s.episode_eq c k as l) :)
@[simp] theorem State.episode_can1 (s : State) (c k : Nat) (as : List Byte) (l : Nat) : (s.episode c k as l).can1 = s.can1 := (congrArg State.can1 (s.episode_eq c k as l) :)
@[simp] theorem State.episode_second (s : State) (c k : Nat) (as : List Byte) (l : Nat) : (s.episode c k as l).second = s.second := (congrArg State.second (s.episode_eq c k as l) :)
@[simp] theorem State.episode_tap (s : State) (c k : Nat) (as : List Byte) (l : Nat) : (s.episode c k as l).tap = s.tap := (congrArg State.tap (s.episode_eq c k as l) :)
@[simp] theorem State.episode_dram (s : State) (c k : Nat) (as : List Byte) (l : Nat) : (s.episode c k as l).dram = s.dram := (congrArg State.dram (s.episode_eq c k as l) :)
@[simp] theorem State.episode_nor (s : State) (c k : Nat) (as : List Byte) (l : Nat) : (s.episode c k as l).nor = s.nor := (congrArg State.nor (s.episode_eq c k as l) :)
@[simp] theorem State.episode_kennel (s : State) (c k : Nat) (as : List Byte) (l : Nat) : (s.episode c k as l).kennel = s.kennel := (congrArg State.kennel (s.episode_eq c k as l) :)
@[simp] theorem State.episode_fabric (s : State) (c k : Nat) (as : List Byte) (l : Nat) : (s.episode c k as l).fabric = s.fabric := (congrArg State.fabric (s.episode_eq c k as l) :)
@[simp] theorem State.episode_inputs (s : State) (c k : Nat) (as : List Byte) (l : Nat) : (s.episode c k as l).inputs = s.inputs := (congrArg State.inputs (s.episode_eq c k as l) :)
@[simp] theorem State.episode_free (s : State) (c k : Nat) (as : List Byte) (l : Nat) : (s.episode c k as l).free = s.free := (congrArg State.free (s.episode_eq c k as l) :)
@[simp] theorem State.episode_regs (s : State) (c k : Nat) (as : List Byte) (l : Nat) : (s.episode c k as l).regs = s.regs := (congrArg State.regs (s.episode_eq c k as l) :)
@[simp] theorem State.episode_rcd (s : State) (c k : Nat) (as : List Byte) (l : Nat) : (s.episode c k as l).rcd = s.rcd := (congrArg State.rcd (s.episode_eq c k as l) :)
@[simp] theorem State.episode_sht (s : State) (c k : Nat) (as : List Byte) (l : Nat) : (s.episode c k as l).sht = s.sht := (congrArg State.sht (s.episode_eq c k as l) :)
@[simp] theorem State.episode_net (s : State) (c k : Nat) (as : List Byte) (l : Nat) : (s.episode c k as l).net = s.net := (congrArg State.net (s.episode_eq c k as l) :)

/-- The flush keeps every field of a register that event delivery does not write. -/
theorem State.rf_flush (s : State) {a : Nat} (l n : Nat) (h : a ∉ busRegs) : s.flush.rf a l n = s.rf a l n := by
  simp [State.rf, State.reg_flush _ h]

/-- The flush keeps every bit of a register that event delivery does not write. -/
theorem State.bit_flush (s : State) {a : Nat} (i : Nat) (h : a ∉ busRegs) : s.flush.bit a i = s.bit a i := by
  simp [State.bit, State.reg_flush _ h]

/-! ### What passes before a command acts -/

/-- With no command of a frame still to enter the queue, none enters. -/
theorem State.enterTo_of_none (s : State) (n : Nat) (h : s.cmd.coming = []) : s.enterTo n = s := by
  unfold State.enterTo; rw [h]; show { s with cmd := { s.cmd with coming := [] } } = s; rw [← h]

@[simp] theorem State.pass_zero (s : State) : s.pass 0 = s := rfl

/-- Ticks on which no command reaches the queue and no event waits on the bus move the clock alone. -/
theorem State.pass_of_quiet (s : State) (k : Nat) (h : s.cmd.coming = []) (hb : s.bus = []) : s.pass k = s.advance k := by
  unfold State.pass
  split
  · next hk => rw [hk, State.advance_zero]
  · rw [s.enterTo_of_none _ h, State.reachTick, Nat.add_sub_cancel_left]
    exact State.flush_of_bus_nil _ hb

/-- Where no command reaches the queue, what takes time is done as it stands. -/
theorem State.during_of_none (s : State) (f : State → State) (h : s.cmd.coming = []) : s.during f = f s := by
  simp [State.during, h]

/-- Noting the switches changes their marks only. -/
theorem State.noteSwitches_eq (s t : State) : s.noteSwitches t = { t with drv := { t.drv with marks := (s.noteSwitches t).drv.marks } } := by
  unfold State.noteSwitches; split <;> rfl

/-- A command that moves no switch leaves no mark. -/
theorem State.noteSwitches_of_same (s t : State) (h1 : t.drv.ls = s.drv.ls) (h2 : t.drv.fw = s.drv.fw) (h3 : t.drv.hb = s.drv.hb) : s.noteSwitches t = t :=
  if_pos ⟨h1, h2, h3⟩

@[simp] theorem State.noteSwitches_pending (s t : State) : (s.noteSwitches t).pending = t.pending := by rw [State.noteSwitches_eq]
@[simp] theorem State.noteSwitches_clk (s t : State) : (s.noteSwitches t).clk = t.clk := by rw [State.noteSwitches_eq]
@[simp] theorem State.noteSwitches_regs (s t : State) : (s.noteSwitches t).regs = t.regs := by rw [State.noteSwitches_eq]
@[simp] theorem State.noteSwitches_flights (s t : State) : (s.noteSwitches t).flights = t.flights := by rw [State.noteSwitches_eq]
@[simp] theorem State.noteSwitches_sys (s t : State) : (s.noteSwitches t).sys = t.sys := by rw [State.noteSwitches_eq]
@[simp] theorem State.noteSwitches_img (s t : State) : (s.noteSwitches t).img = t.img := by rw [State.noteSwitches_eq]
@[simp] theorem State.noteSwitches_cmd (s t : State) : (s.noteSwitches t).cmd = t.cmd := by rw [State.noteSwitches_eq]
@[simp] theorem State.noteSwitches_trn (s t : State) : (s.noteSwitches t).trn = t.trn := by rw [State.noteSwitches_eq]
@[simp] theorem State.noteSwitches_vsn (s t : State) : (s.noteSwitches t).vsn = t.vsn := by rw [State.noteSwitches_eq]
@[simp] theorem State.noteSwitches_shm (s t : State) : (s.noteSwitches t).shm = t.shm := by rw [State.noteSwitches_eq]
@[simp] theorem State.noteSwitches_rcd (s t : State) : (s.noteSwitches t).rcd = t.rcd := by rw [State.noteSwitches_eq]
@[simp] theorem State.noteSwitches_sht (s t : State) : (s.noteSwitches t).sht = t.sht := by rw [State.noteSwitches_eq]
@[simp] theorem State.noteSwitches_net (s t : State) : (s.noteSwitches t).net = t.net := by rw [State.noteSwitches_eq]
@[simp] theorem State.noteSwitches_tim (s t : State) : (s.noteSwitches t).tim = t.tim := by rw [State.noteSwitches_eq]
@[simp] theorem State.noteSwitches_gio (s t : State) : (s.noteSwitches t).gio = t.gio := by rw [State.noteSwitches_eq]
@[simp] theorem State.noteSwitches_fan (s t : State) : (s.noteSwitches t).fan = t.fan := by rw [State.noteSwitches_eq]
@[simp] theorem State.noteSwitches_eph (s t : State) : (s.noteSwitches t).eph = t.eph := by rw [State.noteSwitches_eq]
@[simp] theorem State.noteSwitches_loop (s t : State) : (s.noteSwitches t).loop = t.loop := by rw [State.noteSwitches_eq]
@[simp] theorem State.noteSwitches_afe (s t : State) : (s.noteSwitches t).afe = t.afe := by rw [State.noteSwitches_eq]
@[simp] theorem State.noteSwitches_can0 (s t : State) : (s.noteSwitches t).can0 = t.can0 := by rw [State.noteSwitches_eq]
@[simp] theorem State.noteSwitches_can1 (s t : State) : (s.noteSwitches t).can1 = t.can1 := by rw [State.noteSwitches_eq]
@[simp] theorem State.noteSwitches_second (s t : State) : (s.noteSwitches t).second = t.second := by rw [State.noteSwitches_eq]
@[simp] theorem State.noteSwitches_tap (s t : State) : (s.noteSwitches t).tap = t.tap := by rw [State.noteSwitches_eq]
@[simp] theorem State.noteSwitches_dram (s t : State) : (s.noteSwitches t).dram = t.dram := by rw [State.noteSwitches_eq]
@[simp] theorem State.noteSwitches_nor (s t : State) : (s.noteSwitches t).nor = t.nor := by rw [State.noteSwitches_eq]
@[simp] theorem State.noteSwitches_kennel (s t : State) : (s.noteSwitches t).kennel = t.kennel := by rw [State.noteSwitches_eq]
@[simp] theorem State.noteSwitches_fabric (s t : State) : (s.noteSwitches t).fabric = t.fabric := by rw [State.noteSwitches_eq]
@[simp] theorem State.noteSwitches_inputs (s t : State) : (s.noteSwitches t).inputs = t.inputs := by rw [State.noteSwitches_eq]
@[simp] theorem State.noteSwitches_bus (s t : State) : (s.noteSwitches t).bus = t.bus := by rw [State.noteSwitches_eq]
@[simp] theorem State.noteSwitches_episodes (s t : State) : (s.noteSwitches t).episodes = t.episodes := by rw [State.noteSwitches_eq]
@[simp] theorem State.noteSwitches_free (s t : State) : (s.noteSwitches t).free = t.free := by rw [State.noteSwitches_eq]
@[simp] theorem State.noteSwitches_reg (s t : State) (a : Nat) : (s.noteSwitches t).reg a = t.reg a := by rw [State.noteSwitches_eq]; rfl
@[simp] theorem State.noteSwitches_ls (s t : State) : (s.noteSwitches t).drv.ls = t.drv.ls := by rw [State.noteSwitches_eq]
@[simp] theorem State.noteSwitches_fw (s t : State) : (s.noteSwitches t).drv.fw = t.drv.fw := by rw [State.noteSwitches_eq]
@[simp] theorem State.noteSwitches_hb (s t : State) : (s.noteSwitches t).drv.hb = t.drv.hb := by rw [State.noteSwitches_eq]

/-! ### Outcomes -/

/-- On a powered module a command answers its effect after its ticks; the events of ticks that are over have left the bus. -/
theorem act_powered (dt : Nat) (f : State → State) (s : State) (h : s.sys.powered = true) :
    act dt f s = .next (s.noteSwitches ((s.pass dt).during f).flush) := by
  simp [act, h]

/-- On the present tick, with no command of a frame still to enter the queue, a command answers its effect. -/
theorem act_now (f : State → State) (s : State) (h : s.sys.powered = true) (hc : s.cmd.coming = []) : act 0 f s = .next (s.noteSwitches (f s).flush) := by
  rw [act_powered 0 f s h, State.pass_zero, State.during_of_none s f hc]

/-- With nothing waiting on the bus and no command to enter, a command answers its effect after its ticks. -/
theorem act_quiet (dt : Nat) (f : State → State) (s : State) (h : s.sys.powered = true) (hc : s.cmd.coming = []) (hb : s.bus = []) :
    act dt f s = .next (s.noteSwitches (f (s.advance dt)).flush) := by
  rw [act_powered dt f s h, s.pass_of_quiet dt hc hb, State.during_of_none (s.advance dt) f (by simpa using hc)]

/-- An unpowered module stays as it is (18 R357). -/
theorem act_unpowered (dt : Nat) (f : State → State) (s : State) (h : s.sys.powered = false) : act dt f s = .next s := by
  simp [act, h]

/-- A command always answers a next state. -/
theorem act_next (dt : Nat) (f : State → State) (s : State) : ∃ t, act dt f s = .next t := ⟨_, rfl⟩

end Sys2Proof.Machine
end

