-- ==== Sys2Proof/Laws/Answers.lean ====
section
/-! SUPPORT. How a claim that a command answers is met: from its effect on a powered module. -/

namespace Sys2Proof.Machine

/-- A command that acts after `dt` quiet ticks answers what its effect gives. -/
theorem answers_act {c : Sys2Proof.Instr} {s : State} {P : State → Prop} (dt : Nat) (f : State → State) (he : exec c s = act dt f s)
    (hp : s.sys.powered = true) (hc : s.cmd.coming = []) (hb : s.bus = []) (h : P (s.noteSwitches (f (s.advance dt)).flush)) : Answers c s P :=
  ⟨_, he.trans (act_quiet dt f s hp hc hb), h⟩

/-- A command that acts on the present tick answers what its effect gives. -/
theorem answers_now {c : Sys2Proof.Instr} {s : State} {P : State → Prop} (f : State → State) (he : exec c s = act 0 f s)
    (hp : s.sys.powered = true) (hc : s.cmd.coming = []) (h : P (s.noteSwitches (f s).flush)) : Answers c s P :=
  ⟨_, he.trans (act_now f s hp hc), h⟩

/-- A flush changes nothing but registers and what event delivery changes. -/
theorem onlyRegs_flush (s : State) : OnlyRegs s s.flush := s.flush_carried.1

theorem OnlyRegs.refl (s : State) : OnlyRegs s s := rfl

theorem OnlyRegs.trans {s t u : State} (h : OnlyRegs s t) (k : OnlyRegs t u) : OnlyRegs s u := by
  unfold OnlyRegs at *
  rw [k, h]

/-- An effect that keeps to registers, before the flush. -/
theorem OnlyRegs.flush {s t : State} (h : OnlyRegs s t) : OnlyRegs s t.flush := h.trans (onlyRegs_flush t)

theorem onlyRegs_setReg (s : State) (a : Nat) (w : Word) : OnlyRegs s (s.setReg a w) := rfl

theorem onlyRegs_setRf (s : State) (a l n v : Nat) : OnlyRegs s (s.setRf a l n v) := rfl

theorem onlyRegs_clearRegs (s : State) (a n : Nat) : OnlyRegs s (s.clearRegs a n) := by
  induction n with
  | zero => rfl
  | succ n ih => exact ih.trans (onlyRegs_setReg _ _ _)

/-- What keeps to registers moves no switch, so none is noted. -/
theorem OnlyRegs.note {s t : State} (h : OnlyRegs s t) : s.noteSwitches t = t := by
  have hd : t.drv = s.drv := (congrArg State.drv h :)
  exact State.noteSwitches_of_same s t (by rw [hd]) (by rw [hd]) (by rw [hd])

/-- What keeps to registers keeps every memory and the fabric. -/
theorem OnlyRegs.sameMem {s t : State} (h : OnlyRegs s t) : SameMem s t := by
  unfold OnlyRegs at h
  refine ⟨fun a => ?_, fun a => ?_, fun a => ?_, fun n => ?_, fun n => ?_⟩ <;> rw [h] <;> rfl

end Sys2Proof.Machine
end

