-- ==== Sys2Proof/Laws/SoundOps.lean ====
section
/-! SUPPORT. Soundness (LS and FW of no channel closed together, every memory in canonical form) is kept by the shared operations and the intake of commands: one lemma per function that answers a state, named after it. -/

namespace Sys2Proof.Machine


/-- What `Sound` speaks of. -/
def SoundC (l f : BitVec 96) (d n k : List Host.Cell) : Prop :=
  l &&& f = 0 ∧ (storeWf dramNone d && storeWf norNone n && storeWf kennelNone k) = true

theorem sound_iff (s : State) : SoundC s.drv.ls s.drv.fw s.dram s.nor s.kennel ↔ Sound s := Iff.rfl

theorem sound_of {s t : State} (h : Sound s) (h1 : t.drv.ls = s.drv.ls) (h2 : t.drv.fw = s.drv.fw) (h3 : t.dram = s.dram) (h4 : t.nor = s.nor) (h5 : t.kennel = s.kennel) : Sound t := by
  unfold Sound State.memWf at *; rw [h1,h2,h3,h4,h5]; exact h

theorem sound_mk (pending : List Instr) (clk : Clock) (regs : Store Word) (flights : List Flight) (sys : Sys) (img : Img) (cmd : CmdState) (trn : Trn) (drv : Drv) (vsn : Vsn) (shm : Shm) (rcd : Rec) (sht : Sht)
    (net : Net) (tim : Tim) (gio : Gio) (fan : Fan) (eph : Eph) (loop : LoopSt) (afe : Afe) (can0 can1 : Can) (second : Nat) (tap : Option TestInstr) (dram nor kennel : List Host.Cell) (fabric inputs : Store Slot)
    (bus : List Event) (episodes : List Episode) (free : Nat) :
    Sound (State.mk pending clk regs flights sys img cmd trn drv vsn shm rcd sht net tim gio fan eph loop afe can0 can1 second tap dram nor kennel fabric inputs bus episodes free) ↔
      SoundC drv.ls drv.fw dram nor kennel := Iff.rfl

theorem soundC_refold (s : State) : SoundC s.drv.ls s.drv.fw s.dram s.nor s.kennel ↔ Sound s := Iff.rfl

theorem sound_ite (c : Prop) [Decidable c] (a b : State) (ha : Sound a) (hb : Sound b) : Sound (if c then a else b) := by
  split <;> assumption

theorem sound_foldl {α : Type} (g : State → α → State) (l : List α) (s : State) (hg : ∀ x a, Sound x → Sound (g x a)) (h : Sound s) : Sound (l.foldl g s) := by
  induction l generalizing s with
  | nil => exact h
  | cons a l ih => exact ih _ (hg _ _ h)

theorem sound_ite2 {α : Type} (c : Prop) [Decidable c] (a b : α × State) (ha : Sound a.2) (hb : Sound b.2) : Sound (if c then a else b).2 := by
  split <;> assumption

theorem sound_ite3 {α β : Type} (c : Prop) [Decidable c] (a b : α × β × State) (ha : Sound a.2.2) (hb : Sound b.2.2) : Sound (if c then a else b).2.2 := by
  split <;> assumption

theorem snd3 {α β : Type} (x : α) (y : β) (t : State) (h : Sound t) : Sound (x, y, t).2.2 := h

theorem sound_foldl_fst {α β : Type} (g : State × β → α → State × β) (l : List α) (p : State × β) (hg : ∀ x a, Sound x.1 → Sound (g x a).1) (h : Sound p.1) : Sound (l.foldl g p).1 := by
  induction l generalizing p with
  | nil => exact h
  | cons a l ih => exact ih _ (hg _ _ h)

theorem sound_foldl_snd {α β : Type} (g : β × State → α → β × State) (l : List α) (p : β × State) (hg : ∀ x a, Sound x.2 → Sound (g x a).2) (h : Sound p.2) : Sound (l.foldl g p).2 := by
  induction l generalizing p with
  | nil => exact h
  | cons a l ih => exact ih _ (hg _ _ h)

theorem storeWfFrom_filter {α : Type} [DecidableEq α] (d : Nat → α) (q : Nat × α → Bool) (l : Store α) (a : Nat) (h : storeWfFrom d a l = true) : storeWfFrom d a (l.filter q) = true := by
  induction l generalizing a with
  | nil => rfl
  | cons e l ih =>
    obtain ⟨j, v⟩ := e
    simp only [storeWfFrom, Bool.and_eq_true, decide_eq_true_eq] at h
    rw [List.filter_cons]
    split
    · simp only [storeWfFrom, Bool.and_eq_true, decide_eq_true_eq]
      exact ⟨h.1, ih _ h.2⟩
    · exact storeWfFrom_mono d _ (by omega) (ih _ h.2)

theorem storeWf_filter {α : Type} [DecidableEq α] (d : Nat → α) (q : Nat × α → Bool) (l : Store α) (h : storeWf d l = true) : storeWf d (l.filter q) = true :=
  storeWfFrom_filter d q l 0 h

theorem and_open {n : Nat} (a b m : BitVec n) (h : a &&& b = 0) : (a &&& ~~~m) &&& (b &&& ~~~m) = 0 := by
  apply BitVec.eq_of_getLsbD_eq
  intro i hi
  have h2 := congrArg (fun x => BitVec.getLsbD x i) h
  simp at h2 ⊢
  intro h3 _ _ h5
  simp [h3, h5] at h2

theorem and_ls {n : Nat} (a b m : BitVec n) (h : a &&& b = 0) : ((a &&& ~~~m) ||| m) &&& (b &&& ~~~m) = 0 := by
  apply BitVec.eq_of_getLsbD_eq
  intro i hi
  have h2 := congrArg (fun x => BitVec.getLsbD x i) h
  simp at h2 ⊢
  rintro (⟨h3, _, h4⟩ | h3) h5
  · simp [h3, h5] at h2
  · simp [h3, hi]

theorem and_fw {n : Nat} (a b m : BitVec n) (h : a &&& b = 0) : (a &&& ~~~m) &&& ((b &&& ~~~m) ||| m) = 0 := by
  rw [BitVec.and_comm] at h ⊢
  exact and_ls b a m h

/-! ### Ops -/

theorem State.setReg_sound (s : State) (a : Nat) (w : Word) (hS0 : Sound s) : Sound (State.setReg s a w) := by
  unfold State.setReg
  (try dsimp only)
  repeat' (first | with_reducible assumption | (simp only [sound_mk, soundC_refold]))

theorem State.setRf_sound (s : State) (a : Nat) (lsb : Nat) (n : Nat) (v : Nat) (hS0 : Sound s) : Sound (State.setRf s a lsb n v) := by
  unfold State.setRf
  (try dsimp only)
  repeat' (first | with_reducible assumption | with_reducible apply State.setReg_sound)

theorem State.setBit_sound (s : State) (a : Nat) (i : Nat) (b : Bool) (hS0 : Sound s) : Sound (State.setBit s a i b) := by
  unfold State.setBit
  (try dsimp only)
  repeat' (first | with_reducible assumption | with_reducible apply State.setRf_sound)

theorem State.count_sound (s : State) (a : Nat) (hS0 : Sound s) : Sound (State.count s a) := by
  unfold State.count
  (try dsimp only)
  repeat' (first | with_reducible assumption | with_reducible apply State.setReg_sound)

theorem State.clearRegs_sound (s : State) (a : Nat) (z0 : Nat) (hS0 : Sound s) : Sound (State.clearRegs s a z0) := by
  induction z0 with
  | zero => exact hS0
  | succ n ih => exact ih

theorem State.putRegs_sound (s : State) (a : Nat) (z0 : List Word) (hS0 : Sound s) : Sound (State.putRegs s a z0) := by
  induction z0 generalizing s a with
  | nil => exact hS0
  | cons w ws ih => exact ih (s.setReg a w) (a + 4) hS0

theorem State.count64_sound (s : State) (lo : Nat) (hS0 : Sound s) : Sound (State.count64 s lo) := by
  unfold State.count64
  (try dsimp only)
  repeat' (first | with_reducible assumption | with_reducible apply State.setReg_sound)

theorem State.advance_sound (s : State) (k : Nat) (hS0 : Sound s) : Sound (State.advance s k) := by
  unfold State.advance
  (try dsimp only)
  repeat' (first | with_reducible assumption | (simp only [sound_mk, soundC_refold]))

theorem State.reachNt_sound (s : State) (t : Int) (hS0 : Sound s) : Sound (State.reachNt s t) := by
  unfold State.reachNt
  (try dsimp only)
  repeat' (first | with_reducible assumption | with_reducible apply State.advance_sound)

theorem State.reachTick_sound (s : State) (n : Nat) (hS0 : Sound s) : Sound (State.reachTick s n) := by
  unfold State.reachTick
  (try dsimp only)
  repeat' (first | with_reducible assumption | with_reducible apply State.advance_sound)

theorem State.draw_sound (s : State) (hS0 : Sound s) : Sound (State.draw s).2 := by
  unfold State.draw
  (try dsimp only)
  repeat' (first | with_reducible assumption | (simp only [sound_mk, soundC_refold]))

theorem State.raise_sound (s : State) (code : Nat) (args : List Byte) (hS0 : Sound s) : Sound (State.raise s code args) := by
  unfold State.raise
  (try dsimp only)
  repeat' (first | with_reducible assumption | (simp only [sound_mk, soundC_refold]))

theorem State.raiseEp_sound (s : State) (code : Nat) (args : List Byte) (rep : Nat) (hS0 : Sound s) : Sound (State.raiseEp s code args rep) := by
  unfold State.raiseEp
  (try dsimp only)
  repeat' (first | with_reducible assumption | (simp only [sound_mk, soundC_refold]))

theorem State.closeEp_sound (s : State) (e : Episode) (hS0 : Sound s) : Sound (State.closeEp s e) := by
  unfold State.closeEp
  (try dsimp only)
  repeat' (first | with_reducible assumption | with_reducible apply State.raiseEp_sound | (simp only [sound_mk, soundC_refold]))

theorem State.episode_sound (s : State) (code : Nat) (key : Nat) (args : List Byte) (level : Nat) (hS0 : Sound s) : Sound (State.episode s code key args level) := by
  unfold State.episode
  (try dsimp only)
  repeat' (first | with_reducible assumption | with_reducible apply State.closeEp_sound | (split; all_goals (try dsimp only)) | (simp only [sound_mk, soundC_refold]))

theorem State.closeAllEps_sound (s : State) (hS0 : Sound s) : Sound (State.closeAllEps s) := by
  unfold State.closeAllEps
  (try dsimp only)
  repeat' (first | with_reducible assumption | with_reducible apply sound_foldl | with_reducible apply State.closeEp_sound)

theorem State.toRecorder_sound (s : State) (e : Event) (hS0 : Sound s) : Sound (State.toRecorder s e) := by
  unfold State.toRecorder
  (try dsimp only)
  repeat' (first | with_reducible assumption | with_reducible apply State.setBit_sound | with_reducible apply State.count_sound | (split; all_goals (try dsimp only)) | (simp only [sound_mk, soundC_refold]))

theorem State.toFrames_sound (s : State) (e : Event) (hS0 : Sound s) : Sound (State.toFrames s e) := by
  unfold State.toFrames
  (try dsimp only)
  repeat' (first | with_reducible assumption | with_reducible apply State.count_sound | with_reducible apply State.episode_sound | (split; all_goals (try dsimp only)) | (simp only [sound_mk, soundC_refold]))

theorem State.carry_sound (s : State) (e : Event) (hS0 : Sound s) : Sound (State.carry s e) := by
  unfold State.carry
  (try dsimp only)
  repeat' (first | with_reducible assumption | with_reducible apply State.setBit_sound | with_reducible apply State.toFrames_sound | (split; all_goals (try dsimp only)) | (simp only [sound_mk, soundC_refold]))

theorem State.queueLost_sound (s : State) (hS0 : Sound s) : Sound (State.queueLost s) := by
  unfold State.queueLost
  (try dsimp only)
  repeat' (first | with_reducible assumption | with_reducible apply State.setBit_sound | with_reducible apply State.carry_sound | (split; all_goals (try dsimp only)) | (simp only [sound_mk, soundC_refold]))

theorem State.deliver_sound (s : State) (e0 : Event) (hS0 : Sound s) : Sound (State.deliver s e0) := by
  unfold State.deliver
  (try dsimp only)
  repeat' (first | with_reducible assumption | with_reducible apply State.toRecorder_sound | with_reducible apply State.carry_sound | with_reducible apply State.queueLost_sound)

theorem State.flush_sound (s : State) (hS0 : Sound s) : Sound (State.flush s) := by
  unfold State.flush
  (try dsimp only)
  repeat' (first | with_reducible assumption | with_reducible apply sound_foldl | with_reducible apply State.deliver_sound | (simp only [sound_mk, soundC_refold]))

theorem State.flushAll_sound (s : State) (hS0 : Sound s) : Sound (State.flushAll s) := by
  unfold State.flushAll
  (try dsimp only)
  repeat' (first | with_reducible assumption | with_reducible apply sound_foldl | with_reducible apply State.deliver_sound | (simp only [sound_mk, soundC_refold]))

theorem State.takeOffer_sound (s : State) (d : Delivered) (hS0 : Sound s) : Sound (State.takeOffer s d) := by
  unfold State.takeOffer
  (try dsimp only)
  repeat' (first | with_reducible assumption | (simp only [sound_mk, soundC_refold]))

theorem State.answer_sound (s : State) (status : Nat) (done : Nat) (data : List Word) (hS0 : Sound s) : Sound (State.answer s status done data) := by
  unfold State.answer
  (try dsimp only)
  repeat' (first | with_reducible assumption | (simp only [sound_mk, soundC_refold]))

theorem State.dramPut_sound (s : State) (a : Nat) (bs : List Byte) (hS0 : Sound s) : Sound (State.dramPut s a bs) := by
  exact ⟨hS0.1, State.memWf_dramPut s a bs hS0.2⟩

theorem State.norPut_sound (s : State) (a : Nat) (bs : List Byte) (hS0 : Sound s) : Sound (State.norPut s a bs) := by
  exact ⟨hS0.1, State.memWf_norPut s a bs hS0.2⟩

theorem State.kenPut_sound (s : State) (a : Nat) (bs : List Byte) (hS0 : Sound s) : Sound (State.kenPut s a bs) := by
  exact ⟨hS0.1, State.memWf_kenPut s a bs hS0.2⟩

theorem State.putSlot_sound (s : State) (n : Nat) (v : Word) (tag : Byte) (hS0 : Sound s) : Sound (State.putSlot s n v tag) := by
  unfold State.putSlot
  (try dsimp only)
  repeat' (first | with_reducible assumption | (simp only [sound_mk, soundC_refold]))

theorem State.putVal_sound (s : State) (n : Nat) (v : Int) (hS0 : Sound s) : Sound (State.putVal s n v) := by
  unfold State.putVal
  (try dsimp only)
  repeat' (first | with_reducible assumption | with_reducible apply State.putSlot_sound)

theorem State.setCond_sound (s : State) (n : Nat) (c : Nat) (hS0 : Sound s) : Sound (State.setCond s n c) := by
  unfold State.setCond
  (try dsimp only)
  repeat' (first | with_reducible assumption | with_reducible apply State.putSlot_sound)

/-! ### Intake -/

theorem State.episodeLevel_sound (s : State) (n : Nat) (hS0 : Sound s) : Sound (State.episodeLevel s n) := by
  unfold State.episodeLevel
  (try dsimp only)
  repeat' (first | with_reducible assumption | (simp only [sound_mk, soundC_refold]))

theorem State.setShed_sound (s : State) (n : Nat) (hS0 : Sound s) : Sound (State.setShed s n) := by
  unfold State.setShed
  (try dsimp only)
  repeat' (first | with_reducible assumption | with_reducible apply State.setRf_sound | with_reducible apply State.setBit_sound | with_reducible apply State.raise_sound | with_reducible apply State.episodeLevel_sound | (split; all_goals (try dsimp only)) | (simp only [sound_mk, soundC_refold]))

theorem State.shedUp_sound (s : State) (hS0 : Sound s) : Sound (State.shedUp s) := by
  unfold State.shedUp
  (try dsimp only)
  repeat' (first | with_reducible assumption | with_reducible apply State.setShed_sound)

theorem State.shedDown_sound (s : State) (hS0 : Sound s) : Sound (State.shedDown s) := by
  unfold State.shedDown
  (try dsimp only)
  repeat' (first | with_reducible assumption | with_reducible apply State.setShed_sound | (split; all_goals (try dsimp only)))

theorem State.setQueue_sound (s : State) (q : List Cmd) (hS0 : Sound s) : Sound (State.setQueue s q) := by
  unfold State.setQueue
  (try dsimp only)
  repeat' (first | with_reducible assumption | with_reducible apply State.setRf_sound | with_reducible apply State.setBit_sound | with_reducible apply State.shedUp_sound | with_reducible apply State.shedDown_sound | (split; all_goals (try dsimp only)) | (simp only [sound_mk, soundC_refold]))

theorem State.shedHoldOver_sound (s : State) (hS0 : Sound s) : Sound (State.shedHoldOver s) := by
  unfold State.shedHoldOver
  (try dsimp only)
  repeat' (first | with_reducible assumption | with_reducible apply State.reachTick_sound | with_reducible apply State.shedUp_sound | with_reducible apply State.shedDown_sound | (split; all_goals (try dsimp only)))

theorem State.writeShed_sound (s : State) (w : Word) (hS0 : Sound s) : Sound (State.writeShed s w).2 := by
  unfold State.writeShed
  (try dsimp only)
  repeat' (first | with_reducible assumption | with_reducible apply State.setRf_sound | with_reducible apply State.setShed_sound | (split; all_goals (try dsimp only)))

theorem State.laneDrops_sound (s : State) (lane : Nat) (span : Nat) (hS0 : Sound s) : Sound (State.laneDrops s lane span) := by
  unfold State.laneDrops
  (try dsimp only)
  repeat' (first | with_reducible assumption | (intro) | with_reducible apply sound_foldl | with_reducible apply State.count_sound)

theorem State.refuse_sound (s : State) (cause : Nat) (source : Nat) (lane : Nat) (prio : Nat) (span : Nat) (hS0 : Sound s) : Sound (State.refuse s cause source lane prio span) := by
  unfold State.refuse
  (try dsimp only)
  repeat' (first | with_reducible assumption | with_reducible apply State.setReg_sound | with_reducible apply State.count_sound | with_reducible apply State.episode_sound | with_reducible apply State.laneDrops_sound | (split; all_goals (try dsimp only)))

theorem State.refuseCmd_sound (s : State) (cause : Nat) (c : Cmd) (hS0 : Sound s) : Sound (State.refuseCmd s cause c) := by
  unfold State.refuseCmd
  (try dsimp only)
  repeat' (first | with_reducible assumption | with_reducible apply State.refuse_sound)

theorem State.admitCmd_sound (s : State) (ring : Bool) (c : Cmd) (hS0 : Sound s) : Sound (State.admitCmd s ring c) := by
  unfold State.admitCmd
  (try dsimp only)
  repeat' (first | with_reducible assumption | with_reducible apply State.count64_sound | with_reducible apply State.setQueue_sound | with_reducible apply State.refuseCmd_sound | (split; all_goals (try dsimp only)))

theorem State.admitAll_sound (s : State) (ring : Bool) (z0 : List Cmd) (hS0 : Sound s) : Sound (State.admitAll s ring z0) := by
  cases z0 with
  | nil => exact hS0
  | cons c cs => exact State.admitCmd_sound s ring c hS0

theorem State.enterList_sound (s : State) (n : Nat) (z0 : List (Nat × Bool × Cmd)) (hS0 : Sound s) : Sound (State.enterList s n z0) := by
  induction z0 generalizing s with
  | nil => exact hS0
  | cons e es ih =>
    unfold State.enterList
    split
    · exact ih _ (State.admitCmd_sound _ _ _ (State.reachTick_sound _ _ hS0))
    · exact hS0

theorem State.enterTo_sound (s : State) (n : Nat) (hS0 : Sound s) : Sound (State.enterTo s n) := by
  unfold State.enterTo
  (try dsimp only)
  repeat' (first | with_reducible assumption | with_reducible apply State.enterList_sound)

theorem State.pass_sound (s : State) (k : Nat) (hS0 : Sound s) : Sound (State.pass s k) := by
  unfold State.pass
  (try dsimp only)
  repeat' (first | with_reducible assumption | with_reducible apply State.reachTick_sound | with_reducible apply State.flush_sound | with_reducible apply State.enterTo_sound | (split; all_goals (try dsimp only)))

theorem State.settle_sound (s : State) (hS0 : Sound s) : Sound (State.settle s) := by
  unfold State.settle
  (try dsimp only)
  repeat' (first | with_reducible assumption | with_reducible apply State.pass_sound | (split; all_goals (try dsimp only)))

theorem State.during_sound (s : State) (f : State → State) (hS0 : Sound s) (hf : ∀ x, Sound x → Sound (f x)) : Sound (State.during s f) := by
  unfold State.during
  dsimp only
  split
  · exact hf _ (State.enterTo_sound _ _ hS0)
  · exact hf _ hS0

theorem State.noteSwitches_sound (s : State) (t : State) (hS0 : Sound s) (hS1 : Sound t) : Sound (State.noteSwitches s t) := by
  unfold State.noteSwitches
  (try dsimp only)
  repeat' (first | with_reducible assumption | (split; all_goals (try dsimp only)) | (simp only [sound_mk, soundC_refold]))

theorem State.rplFull_sound (s : State) (hS0 : Sound s) : Sound (State.rplFull s) := by
  unfold State.rplFull
  (try dsimp only)
  repeat' (first | with_reducible assumption | with_reducible apply State.setBit_sound | with_reducible apply State.raise_sound)

theorem State.rplAppend_sound (s : State) (p : List Byte) (hS0 : Sound s) : Sound (State.rplAppend s p) := by
  unfold State.rplAppend
  (try dsimp only)
  repeat' (first | with_reducible assumption | with_reducible apply State.setReg_sound | with_reducible apply State.dramPut_sound | with_reducible apply State.rplFull_sound | (split; all_goals (try dsimp only)) | (simp only [sound_mk, soundC_refold]))

theorem State.takeFrame_sound (s : State) (ring : Bool) (p : List Byte) (hS0 : Sound s) : Sound (State.takeFrame s ring p) := by
  unfold State.takeFrame
  (try dsimp only)
  repeat' (first | with_reducible assumption | with_reducible apply State.count_sound | with_reducible apply State.refuse_sound | with_reducible apply State.admitAll_sound | with_reducible apply State.rplAppend_sound | (split; all_goals (try dsimp only)))

theorem State.rplRecStart_sound (s : State) (hS0 : Sound s) : Sound (State.rplRecStart s) := by
  unfold State.rplRecStart
  (try dsimp only)
  repeat' (first | with_reducible assumption | with_reducible apply State.setReg_sound | with_reducible apply State.setBit_sound | with_reducible apply State.dramPut_sound | with_reducible apply State.rplFull_sound | (split; all_goals (try dsimp only)) | (simp only [sound_mk, soundC_refold]))

theorem State.rplEnd_sound (s : State) (cause : Nat) (hS0 : Sound s) : Sound (State.rplEnd s cause) := by
  unfold State.rplEnd
  (try dsimp only)
  repeat' (first | with_reducible assumption | with_reducible apply State.setBit_sound | with_reducible apply State.raise_sound | (split; all_goals (try dsimp only)))

theorem State.rplAtEnd_sound (s : State) (hS0 : Sound s) : Sound (State.rplAtEnd s) := by
  unfold State.rplAtEnd
  (try dsimp only)
  repeat' (first | with_reducible assumption | with_reducible apply State.rplEnd_sound | (split; all_goals (try dsimp only)))

theorem State.rplPlay_sound (s : State) (hS0 : Sound s) : Sound (State.rplPlay s) := by
  unfold State.rplPlay
  (try dsimp only)
  repeat' (first | with_reducible assumption | with_reducible apply State.setReg_sound | with_reducible apply State.setBit_sound | with_reducible apply State.rplAtEnd_sound | (split; all_goals (try dsimp only)) | (simp only [sound_mk, soundC_refold]))

theorem State.rplEntry_sound (s : State) (hS0 : Sound s) : Sound (State.rplEntry s) := by
  unfold State.rplEntry
  (try dsimp only)
  repeat' (first | with_reducible assumption | with_reducible apply State.count_sound | with_reducible apply State.reachNt_sound | with_reducible apply State.raise_sound | with_reducible apply State.takeFrame_sound | with_reducible apply State.rplAtEnd_sound | (split; all_goals (try dsimp only)) | (simp only [sound_mk, soundC_refold]))

theorem State.discardAll_sound (s : State) (entered : Nat) (hS0 : Sound s) : Sound (State.discardAll s entered) := by
  unfold State.discardAll
  (try dsimp only)
  repeat' (first | with_reducible assumption | with_reducible apply State.setReg_sound | with_reducible apply State.raise_sound | with_reducible apply State.setQueue_sound | (split; all_goals (try dsimp only)) | (simp only [sound_mk, soundC_refold]))

theorem State.closeDue_sound (s : State) (hS0 : Sound s) : Sound (State.closeDue s) := by
  unfold State.closeDue
  (try dsimp only)
  repeat' (first | with_reducible assumption | with_reducible apply State.reachTick_sound | with_reducible apply State.closeEp_sound | (split; all_goals (try dsimp only)))

theorem State.recStart_sound (s : State) (hS0 : Sound s) : Sound (State.recStart s) := by
  unfold State.recStart
  (try dsimp only)
  repeat' (first | with_reducible assumption | with_reducible apply State.rplRecStart_sound | (split; all_goals (try dsimp only)))

theorem State.laneClear_sound (s : State) (hS0 : Sound s) : Sound (State.laneClear s) := by
  unfold State.laneClear
  (try dsimp only)
  repeat' (first | with_reducible assumption | with_reducible apply State.clearRegs_sound)

theorem State.cmdClear_sound (s : State) (hS0 : Sound s) : Sound (State.cmdClear s) := by
  unfold State.cmdClear
  (try dsimp only)
  repeat' (first | with_reducible assumption | with_reducible apply State.clearRegs_sound)

theorem State.qPeakClear_sound (s : State) (hS0 : Sound s) : Sound (State.qPeakClear s) := by
  unfold State.qPeakClear
  (try dsimp only)
  repeat' (first | with_reducible assumption | with_reducible apply State.setRf_sound)

/-- A command's meaning keeps soundness where its effect does. -/
theorem act_sound (dt : Nat) (f : State → State) (s t : State) (hf : ∀ x, Sound x → Sound (f x)) (hS0 : Sound s) (h : act dt f s = .next t) : Sound t := by
  unfold act at h
  injection h with h
  subst h
  apply sound_ite
  · exact State.noteSwitches_sound _ _ hS0 (State.flush_sound _ (State.during_sound _ _ (State.pass_sound _ _ hS0) hf))
  · exact hS0

end Sys2Proof.Machine
end

