-- ==== Sys2Proof/Laws/SoundRing.lean ====
section
/-! SUPPORT. Soundness (LS and FW of no channel closed together, every memory in canonical form) is kept by the recorder and the ring link: one lemma per function that answers a state, named after it. -/

namespace Sys2Proof.Machine

/-! ### Recorder -/

theorem State.drawBytes_sound (s : State) (z0 : Nat) (hS0 : Sound s) : Sound (State.drawBytes s z0).2 := by
  induction z0 generalizing s with
  | zero => exact hS0
  | succ n ih => exact ih _ (State.draw_sound _ hS0)

theorem State.markCopy_sound (s : State) (f : KenFault) (i : Nat) (c : Nat) (hS0 : Sound s) : Sound (State.markCopy s f i c) := by
  unfold State.markCopy
  (try dsimp only)
  repeat' (first | with_reducible assumption | with_reducible apply State.setBit_sound | with_reducible apply State.raise_sound | with_reducible apply State.kenPut_sound | (split; all_goals (try dsimp only)))

theorem State.markBad_sound (s : State) (f : KenFault) (i : Nat) (hS0 : Sound s) : Sound (State.markBad s f i) := by
  unfold State.markBad
  extract_lets was d s1 s2
  have h1 : Sound s1 := State.markCopy_sound _ _ _ _ (State.markCopy_sound _ _ _ _ (State.kenPut_sound _ _ _ (State.drawBytes_sound _ _ hS0)))
  have h2 : Sound s2 := by
    show Sound (if _ then _ else _)
    exact sound_ite _ _ _ h1 h1
  exact h2

theorem State.persist_sound (s : State) (fail : Bool) (hS0 : Sound s) : Sound (State.persist s fail) := by
  unfold State.persist
  extract_lets x s1 d s2 y s3
  have h1 : Sound s1 := hS0
  clear_value s1
  split
  · have h2 : Sound s2 := State.kenPut_sound _ _ _ (State.drawBytes_sound _ _ h1)
    exact State.kenPut_sound _ _ _ h2
  · exact State.kenPut_sound _ _ _ h1

theorem State.ownEvent_sound (s : State) (code : Nat) (args : List Byte) (hS0 : Sound s) : Sound (State.ownEvent s code args).2 := by
  unfold State.ownEvent
  (try dsimp only)
  repeat' (first | with_reducible assumption | with_reducible apply State.carry_sound)

theorem State.mirrorPut_sound (s : State) (e0 : Event) (hS0 : Sound s) : Sound (State.mirrorPut s e0) := by
  unfold State.mirrorPut
  (try dsimp only)
  repeat' (first | with_reducible assumption | with_reducible apply State.setRf_sound | with_reducible apply State.count_sound | with_reducible apply State.dramPut_sound | (split; all_goals (try dsimp only)) | (simp only [sound_mk, soundC_refold]))

theorem State.mediumFail_sound (s : State) (cause : Nat) (pend : Option Event) (hS0 : Sound s) : Sound (State.mediumFail s cause pend) := by
  unfold State.mediumFail
  (try dsimp only)
  repeat' (first | with_reducible assumption | with_reducible apply State.setReg_sound | with_reducible apply State.setBit_sound | with_reducible apply State.ownEvent_sound | with_reducible apply State.mirrorPut_sound | (split; all_goals (try dsimp only)))

theorem State.posAfter_sound (s : State) (k : Nat) (hS0 : Sound s) : Sound (State.posAfter s k) := by
  unfold State.posAfter
  (try dsimp only)
  repeat' (first | with_reducible assumption | with_reducible apply State.setReg_sound | (split; all_goals (try dsimp only)))

theorem State.circWrite_sound (s : State) (f : KenFault) (e : Event) (z0 : Nat) (z1 : Nat × Nat) (hS0 : Sound s) : Sound (State.circWrite s f e z0 z1).1 := by
  induction z0 generalizing s z1 with
  | zero => exact hS0
  | succ n ih =>
    unfold State.circWrite
    dsimp only
    split
    · split
      · exact State.posAfter_sound _ _ (State.markBad_sound _ _ _ hS0)
      · exact ih _ _ (State.posAfter_sound _ _ (State.markBad_sound _ _ _ hS0))
    · exact State.posAfter_sound _ _ (State.kenPut_sound _ _ _ hS0)

theorem State.slotBadEvent_sound (s : State) (area : Nat) (first : Nat) (len : Nat) (hS0 : Sound s) : Sound (State.slotBadEvent s area first len) := by
  unfold State.slotBadEvent
  (try dsimp only)
  repeat' (first | with_reducible assumption | with_reducible apply State.ownEvent_sound | (split; all_goals (try dsimp only)) | (simp only [sound_mk, soundC_refold]))

theorem State.circRecord_sound (s : State) (f : KenFault) (e : Event) (fd : Option Nat) (fresh : Bool) (hS0 : Sound s) : Sound (State.circRecord s f e fd fresh) := by
  have h1 := State.circWrite_sound s f e (f.slots.length + 1) (0, 0) hS0
  unfold State.circRecord
  generalize s.circWrite f e (f.slots.length + 1) (0, 0) = q at h1 ⊢
  obtain ⟨s1, k, run⟩ := q
  dsimp only at h1
  cases k with
  | none => exact State.mediumFail_sound _ _ _ h1
  | some k =>
    dsimp only
    apply State.slotBadEvent_sound
    have h2 : Sound (State.persist (if fresh = true then State.count { s1 with rcd := { s1.rcd with consec := 0, lastRec := some e, lastSlot := k, lastMirror := false } } (Reg.REC_LOST_CNT + 8)
        else { s1 with rcd := { s1.rcd with consec := 0, lastRec := some e, lastSlot := k, lastMirror := false } }) f.pos) := by
      apply State.persist_sound
      exact sound_ite _ _ _ h1 h1
    cases fd with
    | none => exact h2
    | some i => exact State.slotBadEvent_sound _ _ _ _ h2

theorem State.foundWrite_sound (s : State) (f : KenFault) (e : Event) (hS0 : Sound s) : Sound (State.foundWrite s f e).1 := by
  unfold State.foundWrite
  (try dsimp only)
  repeat' (first | with_reducible assumption | with_reducible apply State.setReg_sound | with_reducible apply State.setBit_sound | with_reducible apply State.kenPut_sound | with_reducible apply State.markBad_sound | (split; all_goals (try dsimp only)))

theorem State.append_sound (s : State) (f : KenFault) (e : Event) (hS0 : Sound s) : Sound (State.append s f e) := by
  unfold State.append
  (try dsimp only)
  repeat' (first | with_reducible assumption | with_reducible apply State.persist_sound | with_reducible apply State.mirrorPut_sound | with_reducible apply State.mediumFail_sound | with_reducible apply State.circRecord_sound | with_reducible apply State.foundWrite_sound | (split; all_goals (try dsimp only)))

theorem State.mergeWrite_sound (s : State) (f : KenFault) (p : Event) (hS0 : Sound s) : Sound (State.mergeWrite s f p) := by
  unfold State.mergeWrite
  (try dsimp only)
  repeat' (first | with_reducible assumption | with_reducible apply State.count_sound | with_reducible apply State.dramPut_sound | with_reducible apply State.kenPut_sound | with_reducible apply State.markBad_sound | with_reducible apply State.persist_sound | with_reducible apply State.mediumFail_sound | with_reducible apply State.slotBadEvent_sound | with_reducible apply State.circRecord_sound | (split; all_goals (try dsimp only)) | (simp only [sound_mk, soundC_refold]))

theorem State.record_sound (s : State) (f : KenFault) (e : Event) (hS0 : Sound s) : Sound (State.record s f e) := by
  unfold State.record
  (try dsimp only)
  repeat' (first | with_reducible assumption | with_reducible apply State.append_sound | with_reducible apply State.mergeWrite_sound | (split; all_goals (try dsimp only)))

theorem State.rebuild_sound (s : State) (powerOn : Bool) (hS0 : Sound s) : Sound (State.rebuild s powerOn).2 := by
  unfold State.rebuild
  (try dsimp only)
  repeat' (first | with_reducible assumption | with_reducible apply State.setReg_sound | (split; all_goals (try dsimp only)) | (simp only [sound_mk, soundC_refold]))

theorem State.queueOwn_sound (s : State) (code : Nat) (args : List Byte) (hS0 : Sound s) : Sound (State.queueOwn s code args) := by
  unfold State.queueOwn
  (try dsimp only)
  repeat' (first | with_reducible assumption | with_reducible apply State.toRecorder_sound | with_reducible apply State.ownEvent_sound)

theorem State.countCycle_sound (s : State) (powerOn : Bool) (hS0 : Sound s) : Sound (State.countCycle s powerOn) := by
  unfold State.countCycle
  (try dsimp only)
  repeat' (first | with_reducible assumption | (split; all_goals (try dsimp only)) | (simp only [sound_mk, soundC_refold]))

theorem State.recorderStart_sound (s0 : State) (hS0 : Sound s0) : Sound (State.recorderStart s0) := by
  unfold State.recorderStart
  (try dsimp only)
  repeat' (first | with_reducible assumption | with_reducible apply sound_foldl | with_reducible apply State.setReg_sound | with_reducible apply State.setBit_sound | with_reducible apply State.toRecorder_sound | with_reducible apply State.persist_sound | with_reducible apply State.ownEvent_sound | with_reducible apply State.rebuild_sound | with_reducible apply State.queueOwn_sound | with_reducible apply State.countCycle_sound | (split; all_goals (try dsimp only)) | (simp only [sound_mk, soundC_refold]))

theorem State.nextRecord_sound (s : State) (hS0 : Sound s) : ∀ e t, State.nextRecord s = some (e, t) → Sound t := by
  intro e t h
  unfold State.nextRecord at h
  split at h
  · cases h; exact hS0
  · cases h; exact hS0
  · cases h

theorem State.recordWrite_sound (s0 : State) (f : KenFault) (hS0 : Sound s0) : Sound (State.recordWrite s0 f) := by
  have h1 := State.recorderStart_sound _ (State.settle_sound s0 hS0)
  unfold State.recordWrite
  dsimp only
  split
  · split
    · exact State.record_sound _ _ _ (State.nextRecord_sound _ h1 _ _ (by assumption))
    · exact h1
  · exact h1

theorem State.drainRecords_sound (s : State) (f : KenFault) (z0 : Nat) (hS0 : Sound s) : Sound (State.drainRecords s f z0) := by
  induction z0 generalizing s with
  | zero => exact hS0
  | succ n ih =>
    unfold State.drainRecords
    split
    · exact ih _ (State.queueLost_sound _ (State.settle_sound _ (State.record_sound _ _ _ (State.nextRecord_sound _ hS0 _ _ (by assumption)))))
    · exact hS0

theorem State.mediumFailed_sound (s0 : State) (cause : Nat) (hS0 : Sound s0) : Sound (State.mediumFailed s0 cause) := by
  have h1 := State.recorderStart_sound s0 hS0
  unfold State.mediumFailed
  dsimp only
  split
  · exact h1
  · split
    · exact State.append_sound _ _ _ (State.nextRecord_sound _ h1 _ _ (by assumption))
    · apply State.mediumFail_sound
      exact sound_ite _ _ _ (State.markBad_sound _ _ _ h1) h1

theorem State.thaw_sound (s : State) (why : Nat) (hS0 : Sound s) : Sound (State.thaw s why) := by
  unfold State.thaw
  (try dsimp only)
  repeat' (first | with_reducible assumption | with_reducible apply State.setBit_sound | with_reducible apply State.raise_sound | (split; all_goals (try dsimp only)) | (simp only [sound_mk, soundC_refold]))

theorem State.freeze_sound (s : State) (hS0 : Sound s) : Sound (State.freeze s).2 := by
  unfold State.freeze
  (try dsimp only)
  repeat' (first | with_reducible assumption | with_reducible apply State.setBit_sound | (split; all_goals (try dsimp only)) | (simp only [sound_mk, soundC_refold]))

theorem State.freezeExpire_sound (s : State) (hS0 : Sound s) : Sound (State.freezeExpire s) := by
  unfold State.freezeExpire
  (try dsimp only)
  repeat' (first | with_reducible assumption | with_reducible apply State.reachTick_sound | with_reducible apply State.thaw_sound | (split; all_goals (try dsimp only)))

theorem State.opsecTick_sound (s : State) (hS0 : Sound s) : Sound (State.opsecTick s) := by
  unfold State.opsecTick
  (try dsimp only)
  repeat' (first | with_reducible assumption | with_reducible apply State.reachTick_sound | (simp only [sound_mk, soundC_refold]))

theorem State.posPersist_sound (s0 : State) (fail : Bool) (hS0 : Sound s0) : Sound (State.posPersist s0 fail) := by
  unfold State.posPersist
  (try dsimp only)
  repeat' (first | with_reducible assumption | with_reducible apply State.reachTick_sound | with_reducible apply State.persist_sound | with_reducible apply State.recorderStart_sound | (simp only [sound_mk, soundC_refold]))

theorem State.latchRecord_sound (s : State) (hS0 : Sound s) : Sound (State.latchRecord s) := by
  unfold State.latchRecord
  (try dsimp only)
  repeat' (first | with_reducible assumption | with_reducible apply State.setRf_sound | (simp only [sound_mk, soundC_refold]))

theorem State.readRecData_sound (s : State) (k : Nat) (hS0 : Sound s) : Sound (State.readRecData s k).2 := by
  unfold State.readRecData
  (try dsimp only)
  repeat' (first | with_reducible assumption | with_reducible apply State.setRf_sound | with_reducible apply State.latchRecord_sound | (split; all_goals (try dsimp only)))

theorem State.writeCursor_sound (s : State) (w : Word) (hS0 : Sound s) : Sound (State.writeCursor s w).2 := by
  unfold State.writeCursor
  (try dsimp only)
  repeat' (first | with_reducible assumption | with_reducible apply State.setRf_sound | (split; all_goals (try dsimp only)))

theorem State.recChal_sound (s : State) (hS0 : Sound s) : Sound (State.recChal s).2 := by
  unfold State.recChal
  (try dsimp only)
  repeat' (first | with_reducible assumption | (intro) | with_reducible apply sound_foldl | with_reducible apply State.setReg_sound | with_reducible apply State.setBit_sound | (split; all_goals (try dsimp only)) | (simp only [sound_mk, soundC_refold]))

theorem State.dropChal_sound (s : State) (hS0 : Sound s) : Sound (State.dropChal s) := by
  unfold State.dropChal
  (try dsimp only)
  repeat' (first | with_reducible assumption | with_reducible apply State.setBit_sound | with_reducible apply State.clearRegs_sound | (simp only [sound_mk, soundC_refold]))

theorem State.recClear_sound (s : State) (hS0 : Sound s) : Sound (State.recClear s).2 := by
  unfold State.recClear
  (try dsimp only)
  repeat' (first | with_reducible assumption | with_reducible apply State.setReg_sound | with_reducible apply State.setBit_sound | with_reducible apply State.raise_sound | with_reducible apply State.persist_sound | with_reducible apply State.dropChal_sound | (split; all_goals (try dsimp only)) | (simp only [sound_mk, soundC_refold]))

theorem State.eraseSlots_sound (s : State) (f : KenFault) (lo : Nat) (hi : Nat) (hS0 : Sound s) : Sound (State.eraseSlots s f lo hi) := by
  unfold State.eraseSlots
  extract_lets keep s1
  have h1 : Sound s1 := by
    refine ⟨hS0.1, ?_⟩
    have h := hS0.2
    simp only [State.memWf, Bool.and_eq_true] at h ⊢
    exact ⟨h.1, storeWf_filter _ _ _ h.2⟩
  exact sound_foldl _ _ _ (fun x a hx => State.markBad_sound _ _ _ hx) h1

theorem State.clearedRecord_sound (s : State) (f : KenFault) (erased : Nat) (hS0 : Sound s) : Sound (State.clearedRecord s f erased) := by
  unfold State.clearedRecord
  (try dsimp only)
  repeat' (first | with_reducible assumption | with_reducible apply State.ownEvent_sound | with_reducible apply State.append_sound)

theorem State.recCleared_sound (s0 : State) (f : KenFault) (hS0 : Sound s0) : Sound (State.recCleared s0 f) := by
  unfold State.recCleared
  (try dsimp only)
  repeat' (first | with_reducible assumption | with_reducible apply State.setBit_sound | with_reducible apply State.persist_sound | with_reducible apply State.mediumFail_sound | with_reducible apply State.slotBadEvent_sound | with_reducible apply State.recorderStart_sound | with_reducible apply State.eraseSlots_sound | with_reducible apply State.clearedRecord_sound | (split; all_goals (try dsimp only)) | (simp only [sound_mk, soundC_refold]))

theorem State.stopErase_sound (s : State) (f : KenFault) (erased : Nat) (hS0 : Sound s) : Sound (State.stopErase s f erased) := by
  unfold State.stopErase
  (try dsimp only)
  repeat' (first | with_reducible assumption | with_reducible apply State.eraseSlots_sound | with_reducible apply State.clearedRecord_sound | (split; all_goals (try dsimp only)) | (simp only [sound_mk, soundC_refold]))

theorem State.ckeyProg_sound (s : State) (hS0 : Sound s) : Sound (State.ckeyProg s).2 := by
  unfold State.ckeyProg
  (try dsimp only)
  repeat' (first | with_reducible assumption | with_reducible apply State.clearRegs_sound | (split; all_goals (try dsimp only)) | (simp only [sound_mk, soundC_refold]))

theorem State.recKeySet_sound (s : State) (hS0 : Sound s) : Sound (State.recKeySet s) := by
  unfold State.recKeySet
  (try dsimp only)
  repeat' (first | with_reducible assumption | with_reducible apply State.setReg_sound | with_reducible apply State.setBit_sound | with_reducible apply State.raise_sound | (split; all_goals (try dsimp only)) | (simp only [sound_mk, soundC_refold]))

theorem State.chalExpire_sound (s : State) (hS0 : Sound s) : Sound (State.chalExpire s) := by
  unfold State.chalExpire
  (try dsimp only)
  repeat' (first | with_reducible assumption | with_reducible apply State.reachTick_sound | with_reducible apply State.dropChal_sound | (split; all_goals (try dsimp only)))

theorem State.lockoutEnd_sound (s : State) (hS0 : Sound s) : Sound (State.lockoutEnd s) := by
  unfold State.lockoutEnd
  (try dsimp only)
  repeat' (first | with_reducible assumption | with_reducible apply State.reachTick_sound | (split; all_goals (try dsimp only)) | (simp only [sound_mk, soundC_refold]))

theorem State.recCounters_sound (s : State) (hS0 : Sound s) : Sound (State.recCounters s) := by
  unfold State.recCounters
  (try dsimp only)
  repeat' (first | with_reducible assumption | with_reducible apply State.clearRegs_sound)

/-! ### Ring -/

theorem State.setPort_sound (s : State) (p : Nat) (x : Port) (hS0 : Sound s) : Sound (State.setPort s p x) := by
  unfold State.setPort
  (try dsimp only)
  repeat' (first | with_reducible assumption | with_reducible apply State.setRf_sound | with_reducible apply State.setBit_sound | (split; all_goals (try dsimp only)) | (simp only [sound_mk, soundC_refold]))

theorem State.enqueue_sound (s : State) (p : Nat) (q : Nat) (f : QFrame) (hS0 : Sound s) : Sound (State.enqueue s p q f) := by
  unfold State.enqueue
  (try dsimp only)
  repeat' (first | with_reducible assumption | with_reducible apply State.count_sound | with_reducible apply State.episode_sound | with_reducible apply State.setPort_sound | (split; all_goals (try dsimp only)))

theorem State.sendOn_sound (s : State) (p : Nat) (q : Nat) (f : QFrame) (hS0 : Sound s) : Sound (State.sendOn s p q f) := by
  unfold State.sendOn
  (try dsimp only)
  repeat' (first | with_reducible assumption | with_reducible apply State.count_sound | with_reducible apply State.enqueue_sound | (split; all_goals (try dsimp only)))

theorem State.nextSeq_sound (s : State) (hS0 : Sound s) : Sound (State.nextSeq s) := by
  unfold State.nextSeq
  (try dsimp only)
  repeat' (first | with_reducible assumption | (simp only [sound_mk, soundC_refold]))

theorem State.originateOn_sound (s : State) (ports : List Nat) (pcp : Nat) (o : Outgoing) (hS0 : Sound s) : Sound (State.originateOn s ports pcp o) := by
  unfold State.originateOn
  (try dsimp only)
  repeat' (first | with_reducible assumption | (intro) | with_reducible apply sound_foldl | with_reducible apply State.sendOn_sound | with_reducible apply State.nextSeq_sound)

theorem State.originate_sound (s : State) (pcp : Nat) (o : Outgoing) (hS0 : Sound s) : Sound (State.originate s pcp o) := by
  unfold State.originate
  (try dsimp only)
  repeat' (first | with_reducible assumption | with_reducible apply State.originateOn_sound)

theorem State.dropQueues_sound (s : State) (p : Nat) (hS0 : Sound s) : Sound (State.dropQueues s p) := by
  unfold State.dropQueues
  (try dsimp only)
  repeat' (first | with_reducible assumption | (intro) | with_reducible apply sound_foldl | with_reducible apply State.count_sound | with_reducible apply State.setPort_sound)

theorem State.linkEvent_sound (s : State) (p : Nat) (hS0 : Sound s) : Sound (State.linkEvent s p) := by
  unfold State.linkEvent
  (try dsimp only)
  repeat' (first | with_reducible assumption | with_reducible apply State.raise_sound)

theorem State.linkUp_sound (s : State) (p : Nat) (speed : Nat) (hS0 : Sound s) : Sound (State.linkUp s p speed) := by
  unfold State.linkUp
  (try dsimp only)
  repeat' (first | with_reducible assumption | with_reducible apply State.setPort_sound | with_reducible apply State.linkEvent_sound | (split; all_goals (try dsimp only)))

theorem State.linkDown_sound (s : State) (p : Nat) (hS0 : Sound s) : Sound (State.linkDown s p) := by
  unfold State.linkDown
  (try dsimp only)
  repeat' (first | with_reducible assumption | with_reducible apply State.setPort_sound | with_reducible apply State.dropQueues_sound | with_reducible apply State.linkEvent_sound | (split; all_goals (try dsimp only)))

theorem State.modeAlternate_sound (s : State) (p : Nat) (hS0 : Sound s) : Sound (State.modeAlternate s p) := by
  unfold State.modeAlternate
  (try dsimp only)
  repeat' (first | with_reducible assumption | with_reducible apply State.reachTick_sound | with_reducible apply State.setPort_sound | (split; all_goals (try dsimp only)))

theorem State.noteSent_sound (s : State) (p : Nat) (src : Nat) (seq : Nat) (hS0 : Sound s) : Sound (State.noteSent s p src seq) := by
  unfold State.noteSent
  (try dsimp only)
  repeat' (first | with_reducible assumption | (simp only [sound_mk, soundC_refold]))

theorem State.noteDelivered_sound (s : State) (mac : Nat) (seq : Nat) (hS0 : Sound s) : Sound (State.noteDelivered s mac seq) := by
  unfold State.noteDelivered
  (try dsimp only)
  repeat' (first | with_reducible assumption | with_reducible apply State.count_sound | (split; all_goals (try dsimp only)) | (simp only [sound_mk, soundC_refold]))

theorem State.nodeAge_sound (s : State) (hS0 : Sound s) : Sound (State.nodeAge s) := by
  unfold State.nodeAge
  (try dsimp only)
  repeat' (first | with_reducible assumption | with_reducible apply State.reachTick_sound | (split; all_goals (try dsimp only)) | (simp only [sound_mk, soundC_refold]))

theorem State.offer_sound (s : State) (d : Delivered) (hS0 : Sound s) : Sound (State.offer s d) := by
  unfold State.offer
  (try dsimp only)
  repeat' (first | with_reducible assumption | (simp only [sound_mk, soundC_refold]))

theorem State.dupAddr_sound (s : State) (sha : Nat) (spa : Word) (hS0 : Sound s) : Sound (State.dupAddr s sha spa) := by
  unfold State.dupAddr
  (try dsimp only)
  repeat' (first | with_reducible assumption | with_reducible apply State.setBit_sound | with_reducible apply State.raise_sound | (split; all_goals (try dsimp only)))

theorem State.ipv4In_sound (s : State) (src : Nat) (b : List Byte) (hS0 : Sound s) : Sound (State.ipv4In s src b) := by
  unfold State.ipv4In
  (try dsimp only)
  repeat' (first | with_reducible assumption | with_reducible apply State.count_sound | with_reducible apply State.offer_sound | (split; all_goals (try dsimp only)))

theorem State.deliverFrame_sound (s : State) (f : RxFrame) (hS0 : Sound s) : Sound (State.deliverFrame s f) := by
  unfold State.deliverFrame
  (try dsimp only)
  repeat' (first | with_reducible assumption | with_reducible apply State.offer_sound | with_reducible apply State.ipv4In_sound | (split; all_goals (try dsimp only)))

theorem State.supervision_sound (s : State) (hS0 : Sound s) : Sound (State.supervision s) := by
  unfold State.supervision
  (try dsimp only)
  repeat' (first | with_reducible assumption | with_reducible apply State.reachTick_sound | with_reducible apply State.originate_sound | (simp only [sound_mk, soundC_refold]))

theorem State.garp_sound (s : State) (hS0 : Sound s) : Sound (State.garp s) := by
  unfold State.garp
  (try dsimp only)
  repeat' (first | with_reducible assumption | with_reducible apply State.originateOn_sound)

theorem State.arpIn_sound (s0 : State) (a : ArpSender) (spa : Word) (tpa : Word) (request : Bool) (hS0 : Sound s0) : Sound (State.arpIn s0 a spa tpa request) := by
  unfold State.arpIn
  (try dsimp only)
  repeat' (first | with_reducible assumption | with_reducible apply State.count_sound | with_reducible apply State.takeOffer_sound | with_reducible apply State.originate_sound | with_reducible apply State.dupAddr_sound | (split; all_goals (try dsimp only)))

theorem State.icmpIn_sound (s0 : State) (mac : Nat) (ip : Word) (data : List Byte) (hS0 : Sound s0) : Sound (State.icmpIn s0 mac ip data) := by
  unfold State.icmpIn
  (try dsimp only)
  repeat' (first | with_reducible assumption | with_reducible apply State.count_sound | with_reducible apply State.takeOffer_sound | with_reducible apply State.originate_sound | (split; all_goals (try dsimp only)))

theorem State.sendEvents_sound (s : State) (hS0 : Sound s) : Sound (State.sendEvents s) := by
  unfold State.sendEvents
  (try dsimp only)
  repeat' (first | with_reducible assumption | with_reducible apply State.count_sound | with_reducible apply State.originate_sound | (simp only [sound_mk, soundC_refold]))

theorem State.eventFrame_sound (s0 : State) (hS0 : Sound s0) : Sound (State.eventFrame s0) := by
  unfold State.eventFrame
  (try dsimp only)
  repeat' (first | with_reducible assumption | with_reducible apply State.reachTick_sound | with_reducible apply State.settle_sound | with_reducible apply State.sendEvents_sound | (split; all_goals (try dsimp only)))

theorem State.eventHeartbeat_sound (s : State) (hS0 : Sound s) : Sound (State.eventHeartbeat s) := by
  unfold State.eventHeartbeat
  (try dsimp only)
  repeat' (first | with_reducible assumption | with_reducible apply State.reachTick_sound | with_reducible apply State.sendEvents_sound | (split; all_goals (try dsimp only)))

theorem State.sendAllEvents_sound (s : State) (z0 : Nat) (hS0 : Sound s) : Sound (State.sendAllEvents s z0) := by
  induction z0 generalizing s with
  | zero => exact hS0
  | succ n ih =>
    unfold State.sendAllEvents
    split
    · exact hS0
    · exact ih _ (State.sendEvents_sound _ hS0)

theorem State.netRelease_sound (s : State) (hS0 : Sound s) : Sound (State.netRelease s) := by
  unfold State.netRelease
  (try dsimp only)
  repeat' (first | with_reducible assumption | with_reducible apply State.setBit_sound | with_reducible apply State.raise_sound | (simp only [sound_mk, soundC_refold]))

theorem State.portLoad_sound (s : State) (p : Nat) (hS0 : Sound s) : Sound (State.portLoad s p) := by
  unfold State.portLoad
  (try dsimp only)
  repeat' (first | with_reducible assumption | with_reducible apply State.setPort_sound | with_reducible apply State.linkDown_sound | (split; all_goals (try dsimp only)))

theorem State.netLoad_sound (s : State) (hS0 : Sound s) : Sound (State.netLoad s) := by
  unfold State.netLoad
  (try dsimp only)
  repeat' (first | with_reducible assumption | with_reducible apply State.setReg_sound | with_reducible apply State.setRf_sound | with_reducible apply State.setBit_sound | with_reducible apply State.garp_sound | with_reducible apply State.portLoad_sound | (split; all_goals (try dsimp only)) | (simp only [sound_mk, soundC_refold]))

theorem State.netClear_sound (s : State) (hS0 : Sound s) : Sound (State.netClear s) := by
  unfold State.netClear
  (try dsimp only)
  repeat' (first | with_reducible assumption | with_reducible apply State.clearRegs_sound)

end Sys2Proof.Machine
end

