-- ==== Sys2Proof/Laws/SoundEject.lean ====
section
/-! SUPPORT. Soundness (LS and FW of no channel closed together, every memory in canonical form) is kept by calendar, valves as sensors, banks, device states and drive faults: one lemma per function that answers a state, named after it. -/

namespace Sys2Proof.Machine

/-! ### Transit -/

theorem State.calInsert_sound (s : State) (e : CalEntry) (hS0 : Sound s) : Sound (State.calInsert s e) := by
  unfold State.calInsert
  (try dsimp only)
  repeat' (first | with_reducible assumption | with_reducible apply State.setRf_sound | with_reducible apply State.setBit_sound | (split; all_goals (try dsimp only)) | (simp only [sound_mk, soundC_refold]))

theorem State.jpush_sound (s : State) (j : JItem) (hS0 : Sound s) : Sound (State.jpush s j) := by
  unfold State.jpush
  (try dsimp only)
  repeat' (first | with_reducible assumption | (simp only [sound_mk, soundC_refold]))

theorem State.arrive_sound (s : State) (c : Cmd) (hS0 : Sound s) : Sound (State.arrive s c) := by
  unfold State.arrive
  (try dsimp only)
  repeat' (first | with_reducible assumption | with_reducible apply State.refuseCmd_sound | with_reducible apply State.calInsert_sound | with_reducible apply State.jpush_sound | (split; all_goals (try dsimp only)))

theorem State.take_sound (s : State) (hS0 : Sound s) : Sound (State.take s) := by
  unfold State.take
  (try dsimp only)
  repeat' (first | with_reducible assumption | with_reducible apply State.reachTick_sound | with_reducible apply State.setQueue_sound | with_reducible apply State.arrive_sound | (split; all_goals (try dsimp only)) | (simp only [sound_mk, soundC_refold]))

theorem State.putShot_sound (s : State) (h : Shot) (hS0 : Sound s) : Sound (State.putShot s h) := by
  unfold State.putShot
  (try dsimp only)
  repeat' (first | with_reducible assumption | (simp only [sound_mk, soundC_refold]))

theorem State.dropShot_sound (s : State) (id : Nat) (hS0 : Sound s) : Sound (State.dropShot s id) := by
  unfold State.dropShot
  (try dsimp only)
  repeat' (first | with_reducible assumption | (simp only [sound_mk, soundC_refold]))

theorem State.setReady_sound (s : State) (h : Shot) (hS0 : Sound s) : Sound (State.setReady s h) := by
  unfold State.setReady
  (try dsimp only)
  repeat' (first | with_reducible assumption | (split; all_goals (try dsimp only)) | (simp only [sound_mk, soundC_refold]))

theorem State.dropReq_sound (s : State) (r : Req) (hS0 : Sound s) : Sound (State.dropReq s r) := by
  unfold State.dropReq
  (try dsimp only)
  repeat' (first | with_reducible assumption | (simp only [sound_mk, soundC_refold]))

theorem State.replaceReq_sound (s : State) (r : Req) (rs : List Req) (hS0 : Sound s) : Sound (State.replaceReq s r rs) := by
  unfold State.replaceReq
  (try dsimp only)
  repeat' (first | with_reducible assumption | (simp only [sound_mk, soundC_refold]))

theorem State.voidReq_sound (s : State) (r : Req) (hS0 : Sound s) : Sound (State.voidReq s r) := by
  unfold State.voidReq
  (try dsimp only)
  repeat' (first | with_reducible assumption | with_reducible apply State.count_sound | with_reducible apply State.jpush_sound | with_reducible apply State.dropReq_sound)

theorem State.captureFor_sound (s : State) (h : Shot) (arm : Bool) (other : Bool) (hS0 : Sound s) : Sound (State.captureFor s h arm other).1 := by
  unfold State.captureFor
  (try dsimp only)
  repeat' (first | with_reducible assumption | with_reducible apply State.setBit_sound | with_reducible apply State.count_sound | with_reducible apply State.episode_sound | (split; all_goals (try dsimp only)) | (simp only [sound_mk, soundC_refold]))

theorem State.captureJoin_sound (s : State) (h : Shot) (r : Req) (hS0 : Sound s) : Sound (State.captureJoin s h r).1 := by
  unfold State.captureJoin
  (try dsimp only)
  repeat' (first | with_reducible assumption | with_reducible apply State.count_sound | with_reducible apply State.episode_sound | with_reducible apply State.captureFor_sound | (split; all_goals (try dsimp only)))

theorem State.joinReq_sound (s : State) (h0 : Shot) (r : Req) (hS0 : Sound s) : Sound (State.joinReq s h0 r) := by
  unfold State.joinReq
  (try dsimp only)
  repeat' (first | with_reducible assumption | with_reducible apply State.count_sound | with_reducible apply State.jpush_sound | with_reducible apply State.putShot_sound | with_reducible apply State.setReady_sound | with_reducible apply State.dropReq_sound | with_reducible apply State.replaceReq_sound | with_reducible apply State.captureJoin_sound | (split; all_goals (try dsimp only)))

theorem State.joinAll_sound (s : State) (id : Nat) (e : Int) (z0 : List Req) (hS0 : Sound s) : Sound (State.joinAll s id e z0) := by
  induction z0 generalizing s with
  | nil => exact hS0
  | cons r rs ih =>
    unfold State.joinAll
    repeat' split
    · exact hS0
    · exact ih _ (State.voidReq_sound _ _ hS0)
    · exact ih _ (State.joinReq_sound _ _ _ hS0)
    · exact ih _ hS0

theorem State.closePoint_sound (s : State) (hS0 : Sound s) : Sound (State.closePoint s) := by
  unfold State.closePoint
  (try dsimp only)
  repeat' (first | with_reducible assumption | with_reducible apply State.reachNt_sound | with_reducible apply State.reachTick_sound | with_reducible apply State.putShot_sound | with_reducible apply State.dropShot_sound | with_reducible apply State.joinAll_sound | (split; all_goals (try dsimp only)))

theorem State.substitute_sound (s : State) (r : Req) (hS0 : Sound s) : Sound (State.substitute s r) := by
  unfold State.substitute
  (try dsimp only)
  repeat' (first | with_reducible assumption | with_reducible apply State.setBit_sound | with_reducible apply State.count_sound | with_reducible apply State.raise_sound | with_reducible apply State.episode_sound | with_reducible apply State.jpush_sound | with_reducible apply State.dropReq_sound | with_reducible apply State.replaceReq_sound | (split; all_goals (try dsimp only)) | (simp only [sound_mk, soundC_refold]))

theorem State.captureAlloc_sound (s : State) (h : Shot) (hS0 : Sound s) : Sound (State.captureAlloc s h).1 := by
  unfold State.captureAlloc
  (try dsimp only)
  repeat' (first | with_reducible assumption | with_reducible apply State.captureFor_sound | (simp only [sound_mk, soundC_refold]))

theorem State.startShot_sound (s : State) (r : Req) (fz : Int) (hS0 : Sound s) : Sound (State.startShot s r fz) := by
  unfold State.startShot
  extract_lets i own fb limit e cut dp oRef o0 o1 b on dec df oF0 oF isF openAt deferSh dry h0
  have e0 := State.captureAlloc_sound s h0 hS0
  generalize s.captureAlloc h0 = q at e0 ⊢
  obtain ⟨s1, h⟩ := q
  dsimp only at e0 ⊢
  repeat' (first | with_reducible assumption | with_reducible apply sound_ite | with_reducible apply State.count_sound | with_reducible apply State.setRf_sound | with_reducible apply State.count64_sound | with_reducible apply State.setReady_sound | with_reducible apply State.replaceReq_sound | with_reducible apply State.dropReq_sound | (simp only [sound_mk, soundC_refold]))

theorem State.freezeReq_sound (s : State) (r : Req) (inst : Int) (hS0 : Sound s) : Sound (State.freezeReq s r inst) := by
  unfold State.freezeReq
  (try dsimp only)
  repeat' (first | with_reducible assumption | with_reducible apply State.voidReq_sound | with_reducible apply State.joinReq_sound | with_reducible apply State.substitute_sound | with_reducible apply State.startShot_sound | (split; all_goals (try dsimp only)))

theorem State.freezePoint_sound (s : State) (hS0 : Sound s) : Sound (State.freezePoint s) := by
  unfold State.freezePoint
  (try dsimp only)
  repeat' (first | with_reducible assumption | with_reducible apply State.reachNt_sound | with_reducible apply State.freezeReq_sound | (split; all_goals (try dsimp only)))

theorem State.retire_sound (s : State) (h : Shot) (hS0 : Sound s) : Sound (State.retire s h) := by
  unfold State.retire
  (try dsimp only)
  repeat' (first | with_reducible assumption | with_reducible apply State.jpush_sound | with_reducible apply State.putShot_sound | with_reducible apply State.dropShot_sound | (split; all_goals (try dsimp only)))

theorem State.block_sound (s : State) (h : Shot) (bits : List Nat) (hS0 : Sound s) : Sound (State.block s h bits) := by
  unfold State.block
  (try dsimp only)
  repeat' (first | with_reducible assumption | with_reducible apply State.putShot_sound)

theorem State.withhold_sound (s : State) (h : Shot) (bits : List Nat) (hS0 : Sound s) : Sound (State.withhold s h bits) := by
  unfold State.withhold
  (try dsimp only)
  repeat' (first | with_reducible assumption | with_reducible apply State.retire_sound)

theorem State.handover_sound (s : State) (hS0 : Sound s) : Sound (State.handover s) := by
  unfold State.handover
  (try dsimp only)
  repeat' (first | with_reducible assumption | with_reducible apply State.setBit_sound | with_reducible apply State.count_sound | with_reducible apply State.raise_sound | with_reducible apply State.putShot_sound | with_reducible apply State.block_sound | (split; all_goals (try dsimp only)))

theorem State.cancelExpire_sound (s : State) (hS0 : Sound s) : Sound (State.cancelExpire s) := by
  unfold State.cancelExpire
  (try dsimp only)
  repeat' (first | with_reducible assumption | with_reducible apply State.reachNt_sound | (split; all_goals (try dsimp only)) | (simp only [sound_mk, soundC_refold]))

theorem State.marker_sound (s : State) (hS0 : Sound s) : Sound (State.marker s) := by
  unfold State.marker
  (try dsimp only)
  repeat' (first | with_reducible assumption | with_reducible apply State.reachNt_sound | with_reducible apply State.jpush_sound | (split; all_goals (try dsimp only)) | (simp only [sound_mk, soundC_refold]))

theorem State.trnClear_sound (s : State) (hS0 : Sound s) : Sound (State.trnClear s) := by
  unfold State.trnClear
  (try dsimp only)
  repeat' (first | with_reducible assumption | with_reducible apply State.setRf_sound | with_reducible apply State.clearRegs_sound)

theorem State.calPeakClear_sound (s : State) (hS0 : Sound s) : Sound (State.calPeakClear s) := by
  unfold State.calPeakClear
  (try dsimp only)
  repeat' (first | with_reducible assumption | with_reducible apply State.setRf_sound)

theorem State.waitClear_sound (s : State) (hS0 : Sound s) : Sound (State.waitClear s) := by
  unfold State.waitClear
  (try dsimp only)
  repeat' (first | with_reducible assumption | with_reducible apply State.setRf_sound)

/-! ### Valve -/

theorem State.setFailed_sound (s : State) (v : Nat) (b : Bool) (hS0 : Sound s) : Sound (State.setFailed s v b) := by
  unfold State.setFailed
  (try dsimp only)
  repeat' (first | with_reducible assumption | with_reducible apply State.setBit_sound | (split; all_goals (try dsimp only)) | (simp only [sound_mk, soundC_refold]))

theorem State.setCondition_sound (s : State) (v : Nat) (c : Nat) (b : Bool) (ev : Option (Nat × List Byte)) (hS0 : Sound s) : Sound (State.setCondition s v c b ev) := by
  unfold State.setCondition
  (try dsimp only)
  repeat' (first | with_reducible assumption | with_reducible apply State.setBit_sound | with_reducible apply State.raise_sound | with_reducible apply State.setFailed_sound | (split; all_goals (try dsimp only)) | (simp only [sound_mk, soundC_refold]))

theorem State.evalDrift_sound (s : State) (v : Nat) (hS0 : Sound s) : Sound (State.evalDrift s v) := by
  unfold State.evalDrift
  (try dsimp only)
  repeat' (first | with_reducible assumption | with_reducible apply State.setCondition_sound | (split; all_goals (try dsimp only)))

theorem State.depthStep_sound (s : State) (v : Nat) (depth : Nat) (hS0 : Sound s) : Sound (State.depthStep s v depth) := by
  unfold State.depthStep
  (try dsimp only)
  repeat' (first | with_reducible assumption | with_reducible apply State.setRf_sound | with_reducible apply State.setBit_sound | (split; all_goals (try dsimp only)))

theorem State.evalValve_sound (s : State) (v : Nat) (hS0 : Sound s) : Sound (State.evalValve s v) := by
  unfold State.evalValve
  (try dsimp only)
  repeat' (first | with_reducible assumption | with_reducible apply State.setCondition_sound | with_reducible apply State.evalDrift_sound | (split; all_goals (try dsimp only)))

theorem State.evalAll_sound (s : State) (hS0 : Sound s) : Sound (State.evalAll s) := by
  unfold State.evalAll
  (try dsimp only)
  repeat' (first | with_reducible assumption | with_reducible apply sound_foldl | with_reducible apply State.evalValve_sound)

theorem State.evalShot_sound (s : State) (h : Shot) (hS0 : Sound s) : Sound (State.evalShot s h) := by
  unfold State.evalShot
  (try dsimp only)
  repeat' (first | with_reducible assumption | with_reducible apply State.setRf_sound | with_reducible apply State.setCondition_sound | with_reducible apply State.depthStep_sound | with_reducible apply State.evalValve_sound | (split; all_goals (try dsimp only)) | (simp only [sound_mk, soundC_refold]))

theorem State.arrival_sound (s : State) (v : Nat) (xs : List Sample) (hS0 : Sound s) : Sound (State.arrival s v xs) := by
  unfold State.arrival
  (try dsimp only)
  repeat' (first | with_reducible assumption | with_reducible apply State.count_sound | with_reducible apply State.reachTick_sound | with_reducible apply State.putShot_sound | (split; all_goals (try dsimp only)))

theorem State.learnUpdate_sound (s : State) (v : Nat) (hS0 : Sound s) : Sound (State.learnUpdate s v) := by
  unfold State.learnUpdate
  (try dsimp only)
  repeat' (first | with_reducible assumption | with_reducible apply State.setRf_sound | with_reducible apply State.count_sound | with_reducible apply State.putShot_sound | (split; all_goals (try dsimp only)) | (simp only [sound_mk, soundC_refold]))

theorem State.unlearn_sound (s : State) (n : Nat) (id : Nat) (hS0 : Sound s) : Sound (State.unlearn s n id) := by
  unfold State.unlearn
  (try dsimp only)
  repeat' (first | with_reducible assumption | with_reducible apply State.setReg_sound | with_reducible apply State.count_sound | (simp only [sound_mk, soundC_refold]))

theorem State.hostWrote_sound (s : State) (ns : List Nat) (hS0 : Sound s) : Sound (State.hostWrote s ns) := by
  unfold State.hostWrote
  (try dsimp only)
  repeat' (first | with_reducible assumption | (intro) | with_reducible apply sound_foldl | with_reducible apply State.unlearn_sound | (simp only [sound_mk, soundC_refold]))

theorem State.setTable_sound (s : State) (base : Nat) (f : Nat → Nat) (ns : List Nat) (hS0 : Sound s) : Sound (State.setTable s base f ns) := by
  unfold State.setTable
  (try dsimp only)
  repeat' (first | with_reducible assumption | (intro) | with_reducible apply sound_foldl | with_reducible apply State.setReg_sound)

theorem State.writeDelay_sound (s : State) (n : Nat) (w : Word) (hS0 : Sound s) : Sound (State.writeDelay s n w).2 := by
  unfold State.writeDelay
  (try dsimp only)
  repeat' (first | with_reducible assumption | with_reducible apply State.setReg_sound | with_reducible apply State.evalValve_sound | with_reducible apply State.hostWrote_sound | (split; all_goals (try dsimp only)))

theorem State.writeRef_sound (s : State) (n : Nat) (w : Word) (hS0 : Sound s) : Sound (State.writeRef s n w).2 := by
  unfold State.writeRef
  (try dsimp only)
  repeat' (first | with_reducible assumption | with_reducible apply State.setReg_sound | with_reducible apply State.evalValve_sound | (split; all_goals (try dsimp only)))

theorem State.writeFailed_sound (s : State) (k : Nat) (w : Word) (hS0 : Sound s) : Sound (State.writeFailed s k w) := by
  unfold State.writeFailed
  (try dsimp only)
  repeat' (first | with_reducible assumption | (intro) | with_reducible apply sound_foldl | with_reducible apply State.setFailed_sound)

theorem State.writeSaved_sound (s : State) (n : Nat) (w : Word) (hS0 : Sound s) : Sound (State.writeSaved s n w).2 := by
  unfold State.writeSaved
  (try dsimp only)
  repeat' (first | with_reducible assumption | with_reducible apply State.setReg_sound | with_reducible apply State.setBit_sound | (split; all_goals (try dsimp only)))

theorem State.writeSFailed_sound (s : State) (k : Nat) (w : Word) (hS0 : Sound s) : Sound (State.writeSFailed s k w) := by
  unfold State.writeSFailed
  (try dsimp only)
  repeat' (first | with_reducible assumption | with_reducible apply State.setReg_sound | with_reducible apply State.setBit_sound)

theorem State.ldOps_sound (s : State) (o : LdOps) (v : Nat) (hS0 : Sound s) : Sound (State.ldOps s o v).2 := by
  unfold State.ldOps
  extract_lets live until_ vs s1 s2 a s3 b s4 s5 x s6
  split
  · exact hS0
  split
  · exact hS0
  have h1 : Sound s1 := by
    apply sound_ite
    · with_reducible apply State.raise_sound
      with_reducible apply State.hostWrote_sound
      with_reducible exact State.setTable_sound _ _ _ _ hS0
    · exact hS0
  clear_value s1
  have h2 : Sound s2 := by
    apply sound_ite
    · with_reducible apply State.raise_sound
      with_reducible apply State.hostWrote_sound
      with_reducible exact State.setTable_sound _ _ _ _ h1
    · exact h1
  clear_value s2
  have ha : Sound a := by
    with_reducible apply State.raise_sound
    with_reducible apply State.hostWrote_sound
    with_reducible exact State.setTable_sound _ _ _ _ h2
  clear_value a
  have h3 : Sound s3 := by
    apply sound_ite
    · exact sound_foldl _ _ _ (fun x b hx => State.writeFailed_sound _ _ _ hx) ha
    · exact h2
  clear_value s3
  have hb : Sound b := by
    with_reducible apply State.raise_sound
    with_reducible apply State.setBit_sound
    with_reducible exact State.setTable_sound _ _ _ _ h3
  clear_value b
  have h4 : Sound s4 := by
    apply sound_ite
    · exact sound_foldl _ _ _ (fun x b hx => State.setReg_sound _ _ _ hx) hb
    · exact h3
  clear_value s4
  have h5 : Sound s5 := by
    apply sound_ite
    · with_reducible apply State.raise_sound
      with_reducible exact State.setTable_sound _ _ _ _ h4
    · exact h4
  clear_value s5
  have h6 : Sound s6 := h5
  clear_value s6
  apply sound_ite
  · exact State.evalAll_sound _ h6
  · exact h6

theorem State.jwrite_sound (s : State) (qfull : Bool) (body : List Byte) (hS0 : Sound s) : Sound (State.jwrite s qfull body) := by
  unfold State.jwrite
  (try dsimp only)
  repeat' (first | with_reducible assumption | with_reducible apply State.setReg_sound | with_reducible apply State.count_sound | with_reducible apply State.episode_sound | with_reducible apply State.dramPut_sound | (split; all_goals (try dsimp only)))

theorem State.storeCapture_sound (s : State) (samples : List (BitVec 16)) (record : List Byte) (idx : Option Nat) (hS0 : Sound s) : Sound (State.storeCapture s samples record idx) := by
  unfold State.storeCapture
  (try dsimp only)
  repeat' (first | with_reducible assumption | with_reducible apply State.setReg_sound | with_reducible apply State.setRf_sound | with_reducible apply State.count_sound | with_reducible apply State.dramPut_sound | (split; all_goals (try dsimp only)))

theorem State.setEngine_sound (s : State) (i : Nat) (e : Option CapEng) (hS0 : Sound s) : Sound (State.setEngine s i e) := by
  unfold State.setEngine
  (try dsimp only)
  repeat' (first | with_reducible assumption | (simp only [sound_mk, soundC_refold]))

theorem State.journalShot_sound (s : State) (qfull : Bool) (h0 : Shot) (hS0 : Sound s) : Sound (State.journalShot s qfull h0) := by
  unfold State.journalShot
  (try dsimp only)
  repeat' (first | with_reducible assumption | (intro) | with_reducible apply sound_foldl | with_reducible apply State.count_sound | with_reducible apply State.evalShot_sound | with_reducible apply State.jwrite_sound | with_reducible apply State.storeCapture_sound | with_reducible apply State.setEngine_sound | (split; all_goals (try dsimp only)))

theorem State.noteImax_sound (s : State) (h : Shot) (code : Option (BitVec 12)) (hS0 : Sound s) : Sound (State.noteImax s h code).2 := by
  unfold State.noteImax
  (try dsimp only)
  repeat' (first | with_reducible assumption | with_reducible apply State.draw_sound | (split; all_goals (try dsimp only)))

theorem State.journalWrite_sound (s : State) (q : JournalIn) (hS0 : Sound s) : Sound (State.journalWrite s q) := by
  unfold State.journalWrite
  (try dsimp only)
  repeat' (first | with_reducible assumption | with_reducible apply State.jwrite_sound | with_reducible apply State.journalShot_sound | with_reducible apply State.noteImax_sound | (split; all_goals (try dsimp only)) | (simp only [sound_mk, soundC_refold]))

theorem State.journalRestart_sound (s : State) (hS0 : Sound s) : Sound (State.journalRestart s).2 := by
  unfold State.journalRestart
  (try dsimp only)
  repeat' (first | with_reducible assumption | with_reducible apply State.setReg_sound | (split; all_goals (try dsimp only)))

theorem State.captureDone_sound (s : State) (i : Nat) (xs : List (BitVec 12)) (hS0 : Sound s) : Sound (State.captureDone s i xs) := by
  unfold State.captureDone
  (try dsimp only)
  repeat' (first | with_reducible assumption | with_reducible apply State.reachTick_sound | with_reducible apply State.storeCapture_sound | with_reducible apply State.setEngine_sound | (split; all_goals (try dsimp only)))

theorem State.captureArm_sound (s : State) (v : Nat) (hS0 : Sound s) : Sound (State.captureArm s v) := by
  unfold State.captureArm
  (try dsimp only)
  repeat' (first | with_reducible assumption | with_reducible apply State.setRf_sound | with_reducible apply State.setBit_sound)

theorem State.vsnClear_sound (s : State) (hS0 : Sound s) : Sound (State.vsnClear s) := by
  unfold State.vsnClear
  (try dsimp only)
  repeat' (first | with_reducible assumption | (intro) | with_reducible apply sound_foldl | with_reducible apply State.setRf_sound | with_reducible apply State.clearRegs_sound)

/-! ### Drive -/

theorem State.openCh_sound (s : State) (v : Nat) (hS0 : Sound s) : Sound (State.openCh s v) := by
  exact ⟨and_open _ _ _ hS0.1, hS0.2⟩

theorem State.closeLs_sound (s : State) (v : Nat) (hS0 : Sound s) : Sound (State.closeLs s v) := by
  exact ⟨and_ls _ _ _ hS0.1, hS0.2⟩

theorem State.closeFw_sound (s : State) (v : Nat) (hS0 : Sound s) : Sound (State.closeFw s v) := by
  exact ⟨and_fw _ _ _ hS0.1, hS0.2⟩

theorem State.clampLs_sound (s : State) (v : Nat) (q : Nat) (hS0 : Sound s) : Sound (State.clampLs s v q) := by
  unfold State.clampLs
  (try dsimp only)
  repeat' (first | with_reducible assumption | with_reducible apply State.openCh_sound | (simp only [sound_mk, soundC_refold]))

theorem State.closeHb_sound (s : State) (b : Nat) (v : Nat) (hS0 : Sound s) : Sound (State.closeHb s b v) := by
  unfold State.closeHb
  (try dsimp only)
  repeat' (first | with_reducible assumption | (simp only [sound_mk, soundC_refold]))

theorem State.openHb_sound (s : State) (b : Nat) (hS0 : Sound s) : Sound (State.openHb s b) := by
  unfold State.openHb
  (try dsimp only)
  repeat' (first | with_reducible assumption | (simp only [sound_mk, soundC_refold]))

theorem State.dropHb_sound (s : State) (v : Nat) (hS0 : Sound s) : Sound (State.dropHb s v) := by
  unfold State.dropHb
  (try dsimp only)
  repeat' (first | with_reducible assumption | with_reducible apply State.openHb_sound | (split; all_goals (try dsimp only)))

theorem State.setChSt_sound (s : State) (v : Nat) (n : Nat) (hS0 : Sound s) : Sound (State.setChSt s v n) := by
  unfold State.setChSt
  (try dsimp only)
  repeat' (first | with_reducible assumption | with_reducible apply State.setRf_sound)

theorem State.setBkSt_sound (s : State) (b : Nat) (n : Nat) (hS0 : Sound s) : Sound (State.setBkSt s b n) := by
  unfold State.setBkSt
  (try dsimp only)
  repeat' (first | with_reducible assumption | with_reducible apply State.setRf_sound)

theorem State.showSafe_sound (s : State) (b : Nat) (hS0 : Sound s) : Sound (State.showSafe s b) := by
  unfold State.showSafe
  (try dsimp only)
  repeat' (first | with_reducible assumption | (intro) | with_reducible apply sound_foldl | with_reducible apply State.setBit_sound)

theorem State.refreshHs_sound (s : State) (hS0 : Sound s) : Sound (State.refreshHs s) := by
  unfold State.refreshHs
  (try dsimp only)
  repeat' (first | with_reducible assumption | (simp only [sound_mk, soundC_refold]))

theorem State.setVls_sound (s : State) (b : Nat) (q : Nat) (hS0 : Sound s) : Sound (State.setVls s b q) := by
  unfold State.setVls
  (try dsimp only)
  repeat' (first | with_reducible assumption | with_reducible apply State.putVal_sound)

theorem State.sense_sound (s : State) (cur : Option Nat) (bound : Nat) (hS0 : Sound s) : Sound (State.sense s cur bound).2 := by
  unfold State.sense
  (try dsimp only)
  repeat' (first | with_reducible assumption | with_reducible apply State.draw_sound | (split; all_goals (try dsimp only)))

theorem State.fastDecay_sound (s : State) (v : Nat) (hS0 : Sound s) : Sound (State.fastDecay s v) := by
  unfold State.fastDecay
  (try dsimp only)
  repeat' (first | with_reducible assumption | with_reducible apply State.count_sound | with_reducible apply State.openCh_sound | with_reducible apply State.clampLs_sound | (split; all_goals (try dsimp only)))

theorem State.relSwitches_sound (s : State) (v : Nat) (p : List Byte) (hS0 : Sound s) : Sound (State.relSwitches s v p) := by
  unfold State.relSwitches
  (try dsimp only)
  repeat' (first | with_reducible assumption | with_reducible apply State.openCh_sound | with_reducible apply State.closeFw_sound | with_reducible apply State.clampLs_sound | with_reducible apply State.fastDecay_sound | (split; all_goals (try dsimp only)))

theorem State.stepDecay_sound (s : State) (h : Shot) (fast : Bool) (hS0 : Sound s) : Sound (State.stepDecay s h fast).1 := by
  unfold State.stepDecay
  (try dsimp only)
  repeat' (first | with_reducible assumption | with_reducible apply State.closeFw_sound | with_reducible apply State.fastDecay_sound | (split; all_goals (try dsimp only)))

theorem State.toClamps_sound (s : State) (hS0 : Sound s) : Sound (State.toClamps s) := by
  unfold State.toClamps
  (try dsimp only)
  repeat' (first | with_reducible assumption | (intro) | with_reducible apply sound_foldl | with_reducible apply State.count_sound | with_reducible apply State.putShot_sound | with_reducible apply State.clampLs_sound | (split; all_goals (try dsimp only)))

theorem State.toFast_sound (s : State) (hS0 : Sound s) : Sound (State.toFast s) := by
  unfold State.toFast
  (try dsimp only)
  repeat' (first | with_reducible assumption | (intro) | with_reducible apply sound_foldl | with_reducible apply State.openCh_sound | (split; all_goals (try dsimp only)))

theorem State.nboost_sound (s : State) (b : Nat) (v : Nat) (hS0 : Sound s) : Sound (State.nboost s b v) := by
  unfold State.nboost
  (try dsimp only)
  repeat' (first | with_reducible assumption | (simp only [sound_mk, soundC_refold]))

theorem State.boostHb_sound (s : State) (b : Nat) (v : Nat) (hS0 : Sound s) : Sound (State.boostHb s b v) := by
  unfold State.boostHb
  (try dsimp only)
  repeat' (first | with_reducible assumption | with_reducible apply State.closeHb_sound | with_reducible apply State.nboost_sound)

theorem State.hbLead_sound (s : State) (hS0 : Sound s) : Sound (State.hbLead s) := by
  unfold State.hbLead
  (try dsimp only)
  repeat' (first | with_reducible assumption | with_reducible apply State.reachNt_sound | with_reducible apply State.putShot_sound | with_reducible apply State.boostHb_sound | (split; all_goals (try dsimp only)))

theorem State.inhibit_sound (s : State) (h : Shot) (bits : List Nat) (hS0 : Sound s) : Sound (State.inhibit s h bits) := by
  unfold State.inhibit
  (try dsimp only)
  repeat' (first | with_reducible assumption | with_reducible apply State.count_sound | with_reducible apply State.episode_sound | with_reducible apply State.withhold_sound)

theorem State.pendShot_sound (s0 : State) (h : Shot) (t : Int) (hS0 : Sound s0) : Sound (State.pendShot s0 h t) := by
  unfold State.pendShot
  (try dsimp only)
  repeat' (first | with_reducible assumption | with_reducible apply State.count_sound | with_reducible apply State.raise_sound | with_reducible apply State.putShot_sound | with_reducible apply State.withhold_sound | with_reducible apply State.dropHb_sound | (split; all_goals (try dsimp only)))

theorem State.openEngine_sound (s : State) (h : Shot) (hS0 : Sound s) : Sound (State.openEngine s h) := by
  unfold State.openEngine
  (try dsimp only)
  repeat' (first | with_reducible assumption | with_reducible apply State.setEngine_sound | (split; all_goals (try dsimp only)))

theorem State.fire_sound (s : State) (h0 : Shot) (fb : Bool) (hS0 : Sound s) : Sound (State.fire s h0 fb) := by
  unfold State.fire
  extract_lets v b xp p boost ph h _ _ s1 s2
  have h1 : Sound s1 := hS0
  clear_value s1
  have h2 : Sound s2 := sound_ite _ _ _ (State.boostHb_sound _ _ _ h1) (sound_ite _ _ _ h1 (State.dropHb_sound _ _ h1))
  clear_value s2
  exact sound_ite _ _ _ h1 (State.closeLs_sound _ _ (State.openEngine_sound _ _ h2))

theorem State.openChecks_sound (s : State) (h : Shot) (v : Nat) (b : Nat) (hS0 : Sound s) : Sound (State.openChecks s h v b) := by
  unfold State.openChecks
  (try dsimp only)
  repeat' (first | with_reducible assumption | with_reducible apply State.count_sound | with_reducible apply State.raise_sound | with_reducible apply State.episode_sound | with_reducible apply State.dropHb_sound | with_reducible apply State.fire_sound | (split; all_goals (try dsimp only)))

theorem State.openInstant_sound (s : State) (hS0 : Sound s) : Sound (State.openInstant s) := by
  unfold State.openInstant
  (try dsimp only)
  repeat' (first | with_reducible assumption | with_reducible apply State.reachNt_sound | with_reducible apply State.putShot_sound | with_reducible apply State.retire_sound | with_reducible apply State.withhold_sound | with_reducible apply State.dropHb_sound | with_reducible apply State.inhibit_sound | with_reducible apply State.pendShot_sound | with_reducible apply State.fire_sound | with_reducible apply State.openChecks_sound | (split; all_goals (try dsimp only)))

theorem State.nextPhase_sound (s : State) (h : Shot) (afterBoost : Bool) (cur : Nat) (hS0 : Sound s) : Sound (State.nextPhase s h afterBoost cur) := by
  unfold State.nextPhase
  (try dsimp only)
  repeat' (first | with_reducible assumption | with_reducible apply State.putShot_sound | with_reducible apply State.closeFw_sound | with_reducible apply State.stepDecay_sound | (split; all_goals (try dsimp only)))

theorem State.boostEnd_sound (dt : Nat) (s : State) (x : Sensed) (hS0 : Sound s) : Sound (State.boostEnd dt s x) := by
  unfold State.boostEnd
  (try dsimp only)
  repeat' (first | with_reducible assumption | with_reducible apply State.setRf_sound | with_reducible apply State.count_sound | with_reducible apply State.advance_sound | with_reducible apply State.dropHb_sound | with_reducible apply State.sense_sound | with_reducible apply State.nextPhase_sound | (split; all_goals (try dsimp only)))

theorem State.peakEnd_sound (s : State) (x : Sensed) (hS0 : Sound s) : Sound (State.peakEnd s x) := by
  unfold State.peakEnd
  (try dsimp only)
  repeat' (first | with_reducible assumption | with_reducible apply State.reachTick_sound | with_reducible apply State.sense_sound | with_reducible apply State.nextPhase_sound | (split; all_goals (try dsimp only)))

theorem State.endStep_sound (s : State) (v : Nat) (hS0 : Sound s) : Sound (State.endStep s v) := by
  unfold State.endStep
  (try dsimp only)
  repeat' (first | with_reducible assumption | with_reducible apply State.putShot_sound | with_reducible apply State.closeFw_sound | (split; all_goals (try dsimp only)))

theorem State.chopClose_sound (s : State) (v : Nat) (p : List Byte) (hS0 : Sound s) : Sound (State.chopClose s v p) := by
  unfold State.chopClose
  (try dsimp only)
  repeat' (first | with_reducible assumption | with_reducible apply State.reachTick_sound | with_reducible apply State.closeLs_sound | (split; all_goals (try dsimp only)))

theorem State.chopOpen_sound (s : State) (v : Nat) (p : List Byte) (hS0 : Sound s) : Sound (State.chopOpen s v p) := by
  unfold State.chopOpen
  (try dsimp only)
  repeat' (first | with_reducible assumption | with_reducible apply State.reachTick_sound | with_reducible apply State.closeFw_sound | (split; all_goals (try dsimp only)))

theorem State.chop_sound (s : State) (v : Nat) (cur : Nat) (hS0 : Sound s) : Sound (State.chop s v cur) := by
  unfold State.chop
  (try dsimp only)
  repeat' (first | with_reducible assumption | with_reducible apply State.endStep_sound | with_reducible apply State.chopClose_sound | with_reducible apply State.chopOpen_sound | (split; all_goals (try dsimp only)))

theorem State.finish_sound (s : State) (h : Shot) (hS0 : Sound s) : Sound (State.finish s h) := by
  unfold State.finish
  (try dsimp only)
  repeat' (first | with_reducible assumption | with_reducible apply State.retire_sound | (simp only [sound_mk, soundC_refold]))

theorem State.beginRelease_sound (s : State) (h : Shot) (hS0 : Sound s) : Sound (State.beginRelease s h) := by
  unfold State.beginRelease
  (try dsimp only)
  repeat' (first | with_reducible assumption | with_reducible apply State.putShot_sound | with_reducible apply State.dropHb_sound | with_reducible apply State.relSwitches_sound | with_reducible apply State.finish_sound | (split; all_goals (try dsimp only)))

theorem State.releaseStart_sound (s : State) (v : Nat) (hS0 : Sound s) : Sound (State.releaseStart s v) := by
  unfold State.releaseStart
  (try dsimp only)
  repeat' (first | with_reducible assumption | with_reducible apply State.reachNt_sound | with_reducible apply State.beginRelease_sound | (split; all_goals (try dsimp only)))

theorem State.noReopen_sound (s : State) (v : Nat) (hS0 : Sound s) : Sound (State.noReopen s v) := by
  unfold State.noReopen
  (try dsimp only)
  repeat' (first | with_reducible assumption | (simp only [sound_mk, soundC_refold]))

theorem State.noBkReopen_sound (s : State) (b : Nat) (hS0 : Sound s) : Sound (State.noBkReopen s b) := by
  unfold State.noBkReopen
  (try dsimp only)
  repeat' (first | with_reducible assumption | (simp only [sound_mk, soundC_refold]))

theorem State.wakeShot_sound (s : State) (h : Shot) (hS0 : Sound s) : Sound (State.wakeShot s h) := by
  unfold State.wakeShot
  (try dsimp only)
  repeat' (first | with_reducible assumption | with_reducible apply State.putShot_sound | with_reducible apply State.pendShot_sound | (split; all_goals (try dsimp only)))

theorem State.wakePending_sound (s : State) (vs : List Nat) (hS0 : Sound s) : Sound (State.wakePending s vs) := by
  unfold State.wakePending
  (try dsimp only)
  repeat' (first | with_reducible assumption | with_reducible apply sound_foldl | with_reducible apply State.wakeShot_sound)

theorem State.bankRelease_sound (s : State) (b : Nat) (m : Nat) (hS0 : Sound s) : Sound (State.bankRelease s b m) := by
  unfold State.bankRelease
  extract_lets _ _ s1
  have h1 : Sound s1 := hS0
  clear_value s1
  repeat' apply sound_ite
  · exact hS0
  · exact State.raise_sound _ _ _ (State.refreshHs_sound _ (State.setBkSt_sound _ _ _ (State.noBkReopen_sound _ _ hS0)))
  · exact State.wakePending_sound _ _ (State.raise_sound _ _ _ (State.refreshHs_sound _ h1))
  · exact hS0

theorem State.chRelease_sound (s : State) (v : Nat) (m : Nat) (hS0 : Sound s) : Sound (State.chRelease s v m) := by
  have h1 := State.openCh_sound s v hS0
  unfold State.chRelease
  extract_lets s1 x s2 s3
  have h2 : Sound s2 := h1
  apply State.bankRelease_sound
  show Sound (if s2.chSt v = 2 then _ else _)
  apply sound_ite
  · exact h2
  · apply sound_ite
    · apply State.wakePending_sound
      exact h2
    · exact h2

theorem State.endRelease_sound (s : State) (v : Nat) (relx : Bool) (hS0 : Sound s) : Sound (State.endRelease s v relx) := by
  unfold State.endRelease
  (try dsimp only)
  repeat' (first | with_reducible assumption | with_reducible apply State.setRf_sound | with_reducible apply State.count_sound | with_reducible apply State.finish_sound | with_reducible apply State.chRelease_sound | (split; all_goals (try dsimp only)))

theorem State.releaseEnd_sound (dt : Nat) (s : State) (v : Nat) (hS0 : Sound s) : Sound (State.releaseEnd dt s v) := by
  unfold State.releaseEnd
  (try dsimp only)
  repeat' (first | with_reducible assumption | with_reducible apply State.advance_sound | with_reducible apply State.endRelease_sound | (split; all_goals (try dsimp only)))

theorem State.relx_sound (s : State) (v : Nat) (hS0 : Sound s) : Sound (State.relx s v) := by
  unfold State.relx
  (try dsimp only)
  repeat' (first | with_reducible assumption | with_reducible apply State.reachTick_sound | with_reducible apply State.endRelease_sound | (split; all_goals (try dsimp only)))

theorem State.setVbst_sound (s : State) (x : Nat) (hS0 : Sound s) : Sound (State.setVbst s x) := by
  unfold State.setVbst
  (try dsimp only)
  repeat' (first | with_reducible assumption | with_reducible apply State.setReg_sound | with_reducible apply State.setBit_sound | with_reducible apply State.putVal_sound)

theorem State.noteIlim_sound (s : State) (cs : Nat) (hS0 : Sound s) : Sound (State.noteIlim s cs) := by
  unfold State.noteIlim
  (try dsimp only)
  repeat' (first | with_reducible assumption | with_reducible apply State.setBit_sound | (split; all_goals (try dsimp only)))

theorem State.absorbTest_sound (s : State) (hS0 : Sound s) : Sound (State.absorbTest s) := by
  unfold State.absorbTest
  (try dsimp only)
  repeat' (first | with_reducible assumption | with_reducible apply State.setBit_sound | with_reducible apply State.episode_sound | with_reducible apply State.toClamps_sound | with_reducible apply State.toFast_sound | (split; all_goals (try dsimp only)))

theorem State.readRail_sound (s : State) (r : Rail) (hS0 : Sound s) : Sound (State.readRail s r) := by
  unfold State.readRail
  (try dsimp only)
  repeat' (first | with_reducible assumption | with_reducible apply State.setVbst_sound | with_reducible apply State.noteIlim_sound | with_reducible apply State.absorbTest_sound)

theorem State.propRelease_sound (s : State) (v : Nat) (hS0 : Sound s) : Sound (State.propRelease s v) := by
  unfold State.propRelease
  (try dsimp only)
  repeat' (first | with_reducible assumption | with_reducible apply State.relSwitches_sound | (simp only [sound_mk, soundC_refold]))

theorem State.propOpen_sound (s : State) (v : Nat) (hS0 : Sound s) : Sound (State.propOpen s v) := by
  unfold State.propOpen
  (try dsimp only)
  repeat' (first | with_reducible assumption | with_reducible apply State.openCh_sound | (split; all_goals (try dsimp only)) | (simp only [sound_mk, soundC_refold]))

theorem State.cutChannel_sound (s : State) (v : Nat) (hS0 : Sound s) : Sound (State.cutChannel s v) := by
  unfold State.cutChannel
  (try dsimp only)
  repeat' (first | with_reducible assumption | with_reducible apply State.beginRelease_sound | with_reducible apply State.propRelease_sound | (split; all_goals (try dsimp only)))

theorem State.dropWaiting_sound (s : State) (vs : List Nat) (hS0 : Sound s) : Sound (State.dropWaiting s vs) := by
  unfold State.dropWaiting
  (try dsimp only)
  repeat' (first | with_reducible assumption | (intro) | with_reducible apply sound_foldl | with_reducible apply State.inhibit_sound)

theorem State.chDisable_sound (s : State) (v : Nat) (hS0 : Sound s) : Sound (State.chDisable s v) := by
  unfold State.chDisable
  (try dsimp only)
  repeat' (first | with_reducible assumption | with_reducible apply State.setChSt_sound | with_reducible apply State.noReopen_sound | with_reducible apply State.cutChannel_sound | with_reducible apply State.dropWaiting_sound | (split; all_goals (try dsimp only)))

theorem State.chEnable_sound (s : State) (v : Nat) (hS0 : Sound s) : Sound (State.chEnable s v) := by
  unfold State.chEnable
  dsimp only
  repeat' split
  all_goals exact hS0

theorem State.writeChen_sound (s : State) (k : Nat) (w : Word) (hS0 : Sound s) : Sound (State.writeChen s k w) := by
  unfold State.writeChen
  (try dsimp only)
  repeat' (first | with_reducible assumption | (intro) | with_reducible apply sound_foldl | with_reducible apply State.setReg_sound | with_reducible apply State.chDisable_sound | with_reducible apply State.chEnable_sound | (split; all_goals (try dsimp only)))

theorem State.bkDisable_sound (s : State) (b : Nat) (hS0 : Sound s) : Sound (State.bkDisable s b) := by
  unfold State.bkDisable
  (try dsimp only)
  repeat' (first | with_reducible assumption | with_reducible apply sound_foldl | with_reducible apply State.setBkSt_sound | with_reducible apply State.noBkReopen_sound | with_reducible apply State.bankRelease_sound | with_reducible apply State.cutChannel_sound | with_reducible apply State.dropWaiting_sound | (split; all_goals (try dsimp only)))

theorem State.bkEnable_sound (s : State) (b : Nat) (hS0 : Sound s) : Sound (State.bkEnable s b) := by
  unfold State.bkEnable
  dsimp only
  repeat' split
  all_goals exact hS0

theorem State.writeBken_sound (s : State) (w : Word) (hS0 : Sound s) : Sound (State.writeBken s w) := by
  unfold State.writeBken
  (try dsimp only)
  repeat' (first | with_reducible assumption | (intro) | with_reducible apply sound_foldl | with_reducible apply State.setReg_sound | with_reducible apply State.bkDisable_sound | with_reducible apply State.bkEnable_sound | (split; all_goals (try dsimp only)))

theorem State.dryOpen_sound (s : State) (hS0 : Sound s) : Sound (State.dryOpen s) := by
  unfold State.dryOpen
  (try dsimp only)
  repeat' (first | with_reducible assumption | (intro) | with_reducible apply sound_foldl | with_reducible apply State.propOpen_sound | (split; all_goals (try dsimp only)))

theorem State.writeDry_sound (s : State) (w : Word) (hS0 : Sound s) : Sound (State.writeDry s w) := by
  unfold State.writeDry
  (try dsimp only)
  repeat' (first | with_reducible assumption | with_reducible apply State.setReg_sound | with_reducible apply State.dryOpen_sound)

theorem State.noteOl_sound (s : State) (v : Nat) (hS0 : Sound s) : Sound (State.noteOl s v) := by
  unfold State.noteOl
  (try dsimp only)
  repeat' (first | with_reducible assumption | (split; all_goals (try dsimp only)) | (simp only [sound_mk, soundC_refold]))

theorem State.propUpdate_sound (s : State) (route : Nat → Option Nat) (hS0 : Sound s) : Sound (State.propUpdate s route) := by
  unfold State.propUpdate
  (try dsimp only)
  repeat' (first | with_reducible assumption | (intro) | with_reducible apply sound_foldl | with_reducible apply State.setReg_sound | with_reducible apply State.noteOl_sound | (split; all_goals (try dsimp only)))

theorem State.dithSet_sound (s : State) (v : Nat) (hS0 : Sound s) : Sound (State.dithSet s v) := by
  unfold State.dithSet
  (try dsimp only)
  repeat' (first | with_reducible assumption | (simp only [sound_mk, soundC_refold]))

theorem State.ditherEdge_sound (s : State) (v : Nat) (hS0 : Sound s) : Sound (State.ditherEdge s v) := by
  unfold State.ditherEdge
  (try dsimp only)
  repeat' (first | with_reducible assumption | with_reducible apply State.reachTick_sound | with_reducible apply State.dithSet_sound | (split; all_goals (try dsimp only)))

theorem State.ditherFrom_sound (s : State) (n : Nat) (hS0 : Sound s) : Sound (State.ditherFrom s n) := by
  unfold State.ditherFrom
  (try dsimp only)
  repeat' (first | with_reducible assumption | (intro) | with_reducible apply sound_foldl | with_reducible apply State.dithSet_sound | (split; all_goals (try dsimp only)) | (simp only [sound_mk, soundC_refold]))

theorem State.ditherRestart_sound (s : State) (hS0 : Sound s) : Sound (State.ditherRestart s) := by
  unfold State.ditherRestart
  (try dsimp only)
  repeat' (first | with_reducible assumption | with_reducible apply State.ditherFrom_sound)

theorem State.ditherLoad_sound (s : State) (hS0 : Sound s) : Sound (State.ditherLoad s) := by
  unfold State.ditherLoad
  (try dsimp only)
  repeat' (first | with_reducible assumption | with_reducible apply State.ditherFrom_sound)

theorem State.bnkClear_sound (s : State) (hS0 : Sound s) : Sound (State.bnkClear s) := by
  unfold State.bnkClear
  (try dsimp only)
  repeat' (first | with_reducible assumption | with_reducible apply State.clearRegs_sound)

theorem State.prfClear_sound (s : State) (hS0 : Sound s) : Sound (State.prfClear s) := by
  unfold State.prfClear
  (try dsimp only)
  repeat' (first | with_reducible assumption | with_reducible apply State.clearRegs_sound)

theorem State.vmClear_sound (s : State) (hS0 : Sound s) : Sound (State.vmClear s) := by
  unfold State.vmClear
  (try dsimp only)
  repeat' (first | with_reducible assumption | with_reducible apply State.setReg_sound)

/-! ### States -/

theorem State.openAll_sound (s : State) (hS0 : Sound s) : Sound (State.openAll s) := by
  unfold State.openAll
  extract_lets s1
  have h1 : Sound s1 := sound_foldl _ _ _ (fun x v hx => sound_ite _ _ _ (State.propOpen_sound _ _ hx) hx) hS0
  clear_value s1
  exact ⟨BitVec.and_self, h1.2⟩

theorem State.cutShot_sound (s : State) (h : Shot) (flt : Bool) (hS0 : Sound s) : Sound (State.cutShot s h flt) := by
  unfold State.cutShot
  (try dsimp only)
  repeat' (first | with_reducible assumption | with_reducible apply State.putShot_sound | with_reducible apply State.finish_sound | (split; all_goals (try dsimp only)))

theorem State.withholdAll_sound (s : State) (flt : Bool) (hS0 : Sound s) : Sound (State.withholdAll s flt) := by
  unfold State.withholdAll
  (try dsimp only)
  repeat' (first | with_reducible assumption | (intro) | with_reducible apply sound_foldl | with_reducible apply State.block_sound)

theorem State.safeSwitches_sound (s : State) (flt : Bool) (hS0 : Sound s) : Sound (State.safeSwitches s flt) := by
  unfold State.safeSwitches
  (try dsimp only)
  repeat' (first | with_reducible assumption | (intro) | with_reducible apply sound_foldl | with_reducible apply State.refreshHs_sound | with_reducible apply State.openAll_sound | with_reducible apply State.cutShot_sound | with_reducible apply State.withholdAll_sound)

theorem State.setDev_sound (s : State) (d : DevState) (code : Nat) (hS0 : Sound s) : Sound (State.setDev s d code) := by
  unfold State.setDev
  (try dsimp only)
  repeat' (first | with_reducible assumption | with_reducible apply State.raise_sound | (simp only [sound_mk, soundC_refold]))

theorem State.boostStartUp_sound (s : State) (hS0 : Sound s) : Sound (State.boostStartUp s) := by
  unfold State.boostStartUp
  (try dsimp only)
  repeat' (first | with_reducible assumption | (split; all_goals (try dsimp only)) | (simp only [sound_mk, soundC_refold]))

theorem State.boostStop_sound (s : State) (hS0 : Sound s) : Sound (State.boostStop s) := by
  unfold State.boostStop
  (try dsimp only)
  repeat' (first | with_reducible assumption | (simp only [sound_mk, soundC_refold]))

theorem State.leaveLive_sound (s : State) (tgt : DevState) (hS0 : Sound s) : Sound (State.leaveLive s tgt) := by
  unfold State.leaveLive
  (try dsimp only)
  repeat' (first | with_reducible assumption | with_reducible apply State.rplEnd_sound | with_reducible apply State.discardAll_sound)

theorem State.toReady_sound (s : State) (code : Nat) (hS0 : Sound s) : Sound (State.toReady s code) := by
  unfold State.toReady
  (try dsimp only)
  repeat' (first | with_reducible assumption | with_reducible apply State.setDev_sound | with_reducible apply State.leaveLive_sound)

theorem State.toSafe_sound (s : State) (code : Nat) (flt : Bool) (hS0 : Sound s) : Sound (State.toSafe s code flt) := by
  unfold State.toSafe
  (try dsimp only)
  repeat' (first | with_reducible assumption | with_reducible apply State.safeSwitches_sound | with_reducible apply State.setDev_sound | with_reducible apply State.boostStop_sound | with_reducible apply State.leaveLive_sound | (simp only [sound_mk, soundC_refold]))

theorem State.toDraining_sound (s : State) (code : Nat) (hS0 : Sound s) : Sound (State.toDraining s code) := by
  unfold State.toDraining
  (try dsimp only)
  repeat' (first | with_reducible assumption | with_reducible apply State.closeAllEps_sound | with_reducible apply State.refreshHs_sound | with_reducible apply State.withholdAll_sound | with_reducible apply State.setDev_sound | with_reducible apply State.leaveLive_sound | (split; all_goals (try dsimp only)) | (simp only [sound_mk, soundC_refold]))

theorem State.faultSafe_sound (s : State) (code : Nat) (flt : Bool) (fromReady : Bool) (hS0 : Sound s) : Sound (State.faultSafe s code flt fromReady) := by
  unfold State.faultSafe
  (try dsimp only)
  repeat' (first | with_reducible assumption | with_reducible apply State.safeSwitches_sound | with_reducible apply State.toSafe_sound | (split; all_goals (try dsimp only)) | (simp only [sound_mk, soundC_refold]))

theorem State.timeLost_sound (s : State) (hS0 : Sound s) : Sound (State.timeLost s) := by
  unfold State.timeLost
  (try dsimp only)
  repeat' (first | with_reducible assumption | with_reducible apply State.toReady_sound | with_reducible apply State.toSafe_sound | (split; all_goals (try dsimp only)))

/-! ### Faults -/

theorem State.safeChannel_sound (s : State) (v : Nat) (hS0 : Sound s) : Sound (State.safeChannel s v) := by
  unfold State.safeChannel
  (try dsimp only)
  repeat' (first | with_reducible assumption | with_reducible apply State.dropHb_sound | with_reducible apply State.showSafe_sound | with_reducible apply State.propOpen_sound | with_reducible apply State.cutShot_sound | (split; all_goals (try dsimp only)))

theorem State.safeBank_sound (s : State) (b : Nat) (hS0 : Sound s) : Sound (State.safeBank s b) := by
  unfold State.safeBank
  (try dsimp only)
  repeat' (first | with_reducible assumption | (intro) | with_reducible apply sound_foldl | with_reducible apply State.openHb_sound | with_reducible apply State.showSafe_sound | with_reducible apply State.refreshHs_sound | with_reducible apply State.propOpen_sound | with_reducible apply State.cutShot_sound | (split; all_goals (try dsimp only)))

theorem State.chFault_sound (s : State) (v : Nat) (bit : Nat) (cause : Nat) (imax : Nat) (hS0 : Sound s) : Sound (State.chFault s v bit cause imax) := by
  unfold State.chFault
  (try dsimp only)
  repeat' (first | with_reducible assumption | with_reducible apply State.setBit_sound | with_reducible apply State.raise_sound)

theorem State.keepImax_sound (s : State) (v : Nat) (imax : Nat) (hS0 : Sound s) : Sound (State.keepImax s v imax) := by
  unfold State.keepImax
  (try dsimp only)
  repeat' (first | with_reducible assumption | with_reducible apply State.putShot_sound | (split; all_goals (try dsimp only)))

theorem State.overcurrent_sound (s : State) (v : Nat) (lat : Nat) (imax : Nat) (hS0 : Sound s) : Sound (State.overcurrent s v lat imax) := by
  unfold State.overcurrent
  (try dsimp only)
  repeat' (first | with_reducible assumption | with_reducible apply State.advance_sound | with_reducible apply State.setCondition_sound | with_reducible apply State.safeChannel_sound | with_reducible apply State.chFault_sound | with_reducible apply State.keepImax_sound | (split; all_goals (try dsimp only)) | (simp only [sound_mk, soundC_refold]))

theorem State.openLoad_sound (s : State) (v : Nat) (cur : Nat) (hS0 : Sound s) : Sound (State.openLoad s v cur) := by
  unfold State.openLoad
  split
  · exact hS0
  · extract_lets b below s1 _ _ s2
    have h1 : Sound s1 := State.reachTick_sound _ _ hS0
    clear_value s1
    have h2 : Sound s2 := h1
    clear_value s2
    exact sound_ite _ _ _ (State.episode_sound _ _ _ _ _ (State.setCondition_sound _ _ _ _ _ h2)) (State.setCondition_sound _ _ _ _ _ h2)

theorem State.stuckOn_sound (s : State) (v : Nat) (imax : Nat) (hS0 : Sound s) : Sound (State.stuckOn s v imax) := by
  unfold State.stuckOn
  (try dsimp only)
  repeat' (first | with_reducible assumption | with_reducible apply State.setCondition_sound | with_reducible apply State.safeBank_sound | with_reducible apply State.chFault_sound | (simp only [sound_mk, soundC_refold]))

theorem State.someCode_sound (s : State) (c : Option (BitVec 12)) (hS0 : Sound s) : Sound (State.someCode s c).2 := by
  unfold State.someCode
  (try dsimp only)
  repeat' (first | with_reducible assumption | with_reducible apply State.draw_sound | (split; all_goals (try dsimp only)))

theorem State.boostTimeout_sound (s : State) (v : Nat) (code : Option (BitVec 12)) (hS0 : Sound s) : Sound (State.boostTimeout s v code) := by
  unfold State.boostTimeout
  (try dsimp only)
  repeat' (first | with_reducible assumption | with_reducible apply State.chFault_sound | with_reducible apply State.someCode_sound | (split; all_goals (try dsimp only)))

theorem State.releaseOverrun_sound (s : State) (v : Nat) (code : Option (BitVec 12)) (hS0 : Sound s) : Sound (State.releaseOverrun s v code) := by
  unfold State.releaseOverrun
  (try dsimp only)
  repeat' (first | with_reducible assumption | with_reducible apply State.safeChannel_sound | with_reducible apply State.chFault_sound | with_reducible apply State.someCode_sound | (split; all_goals (try dsimp only)))

theorem State.bkFault_sound (s : State) (b : Nat) (cause : Nat) (hS0 : Sound s) : Sound (State.bkFault s b cause) := by
  unfold State.bkFault
  (try dsimp only)
  repeat' (first | with_reducible assumption | with_reducible apply State.setBit_sound | with_reducible apply State.raise_sound | with_reducible apply State.safeBank_sound | (split; all_goals (try dsimp only)) | (simp only [sound_mk, soundC_refold]))

theorem State.vlsRecover_sound (s : State) (b : Nat) (q : Nat) (hS0 : Sound s) : Sound (State.vlsRecover s b q) := by
  unfold State.vlsRecover
  (try dsimp only)
  repeat' (first | with_reducible assumption | with_reducible apply State.setBit_sound | with_reducible apply State.showSafe_sound | with_reducible apply State.refreshHs_sound | with_reducible apply State.setVls_sound)

theorem State.ov1_sound (s : State) (r : Rail) (hS0 : Sound s) : Sound (State.ov1 s r) := by
  unfold State.ov1
  (try dsimp only)
  repeat' (first | with_reducible assumption | with_reducible apply State.setBit_sound | with_reducible apply State.raise_sound | with_reducible apply State.toClamps_sound | with_reducible apply State.readRail_sound | with_reducible apply State.boostStop_sound)

theorem State.ov1End_sound (s : State) (r : Rail) (hS0 : Sound s) : Sound (State.ov1End s r) := by
  unfold State.ov1End
  (try dsimp only)
  repeat' (first | with_reducible assumption | with_reducible apply State.setBit_sound | with_reducible apply State.toFast_sound | with_reducible apply State.readRail_sound | with_reducible apply State.boostStartUp_sound | (split; all_goals (try dsimp only)))

theorem State.ov2_sound (s : State) (r : Rail) (hS0 : Sound s) : Sound (State.ov2 s r) := by
  unfold State.ov2
  (try dsimp only)
  repeat' (first | with_reducible assumption | with_reducible apply State.setBit_sound | with_reducible apply State.raise_sound | with_reducible apply State.readRail_sound | with_reducible apply State.openAll_sound | with_reducible apply State.faultSafe_sound)

theorem State.vbstUv_sound (s : State) (r : Rail) (start : Bool) (hS0 : Sound s) : Sound (State.vbstUv s r start) := by
  unfold State.vbstUv
  (try dsimp only)
  repeat' (first | with_reducible assumption | with_reducible apply State.setBit_sound | with_reducible apply State.raise_sound | with_reducible apply State.readRail_sound)

theorem State.setDieTemp_sound (s : State) (d : Nat) (t : Int) (hS0 : Sound s) : Sound (State.setDieTemp s d t) := by
  unfold State.setDieTemp
  (try dsimp only)
  repeat' (first | with_reducible assumption | with_reducible apply State.putVal_sound)

theorem State.tempWarn_sound (s : State) (d : Nat) (t : Int) (hS0 : Sound s) : Sound (State.tempWarn s d t) := by
  unfold State.tempWarn
  (try dsimp only)
  repeat' (first | with_reducible assumption | with_reducible apply State.setBit_sound | with_reducible apply State.raise_sound | with_reducible apply State.setDieTemp_sound)

theorem State.dieHold_sound (s : State) (d : Nat) (hS0 : Sound s) : Sound (State.dieHold s d) := by
  unfold State.dieHold
  (try dsimp only)
  repeat' (first | with_reducible assumption | (intro) | with_reducible apply sound_foldl | with_reducible apply State.setBit_sound | with_reducible apply State.showSafe_sound)

theorem State.tempShutdown_sound (s : State) (d : Nat) (t : Int) (hS0 : Sound s) : Sound (State.tempShutdown s d t) := by
  unfold State.tempShutdown
  (try dsimp only)
  repeat' (first | with_reducible assumption | with_reducible apply sound_foldl | with_reducible apply State.setBit_sound | with_reducible apply State.raise_sound | with_reducible apply State.safeBank_sound | with_reducible apply State.setDieTemp_sound | with_reducible apply State.dieHold_sound)

theorem State.linkLoss_sound (s : State) (d : Nat) (hub : Bool) (hS0 : Sound s) : Sound (State.linkLoss s d hub) := by
  unfold State.linkLoss
  (try dsimp only)
  repeat' (first | with_reducible assumption | with_reducible apply sound_foldl | with_reducible apply State.setBit_sound | with_reducible apply State.raise_sound | with_reducible apply State.faultSafe_sound | with_reducible apply State.safeBank_sound | with_reducible apply State.dieHold_sound | (simp only [sound_mk, soundC_refold]))

theorem State.drvLow_sound (s : State) (hS0 : Sound s) : Sound (State.drvLow s) := by
  unfold State.drvLow
  (try dsimp only)
  repeat' (first | with_reducible assumption | (intro) | with_reducible apply sound_foldl | with_reducible apply State.setBit_sound | with_reducible apply State.raise_sound | with_reducible apply State.openAll_sound | with_reducible apply State.cutShot_sound | with_reducible apply State.faultSafe_sound | (simp only [sound_mk, soundC_refold]))

theorem State.drvHigh_sound (s : State) (hS0 : Sound s) : Sound (State.drvHigh s) := by
  unfold State.drvHigh
  (try dsimp only)
  repeat' (first | with_reducible assumption | with_reducible apply State.setBit_sound | (simp only [sound_mk, soundC_refold]))

theorem State.faultClear_sound (s : State) (a : Nat) (w : Nat) (hS0 : Sound s) : Sound (State.faultClear s a w) := by
  unfold State.faultClear
  (try dsimp only)
  repeat' (first | with_reducible assumption | (split; all_goals (try dsimp only)) | (simp only [sound_mk, soundC_refold]))

theorem State.clearArrives_sound (s : State) (f : Flight) (hS0 : Sound s) : Sound (State.clearArrives s f) := by
  unfold State.clearArrives
  (try dsimp only)
  repeat' (first | with_reducible assumption | (simp only [sound_mk, soundC_refold]))

theorem State.afterClear_sound (s : State) (a : Nat) (bits : Nat) (hS0 : Sound s) : Sound (State.afterClear s a bits) := by
  unfold State.afterClear
  (try dsimp only)
  repeat' (first | with_reducible assumption | with_reducible apply sound_foldl | with_reducible apply State.setCondition_sound | with_reducible apply State.showSafe_sound | with_reducible apply State.refreshHs_sound | with_reducible apply State.dieHold_sound | (split; all_goals (try dsimp only)) | (simp only [sound_mk, soundC_refold]))

theorem State.reRaise_sound (s : State) (a : Nat) (code : Nat) (i : Nat) (hS0 : Sound s) : Sound (State.reRaise s a code i) := by
  unfold State.reRaise
  (try dsimp only)
  repeat' (first | with_reducible assumption | with_reducible apply State.raise_sound | (split; all_goals (try dsimp only)))

theorem State.clearBits_sound (s : State) (a : Nat) (bits : Nat) (hS0 : Sound s) : Sound (State.clearBits s a bits) := by
  unfold State.clearBits
  (try dsimp only)
  repeat' (first | with_reducible assumption | with_reducible apply State.setReg_sound | with_reducible apply State.setRf_sound | with_reducible apply State.raise_sound | with_reducible apply State.afterClear_sound | (split; all_goals (try dsimp only)))

theorem State.clearEffect_sound (s : State) (on : StillOn) (hS0 : Sound s) : Sound (State.clearEffect s on) := by
  unfold State.clearEffect
  (try dsimp only)
  repeat' (first | with_reducible assumption | (intro) | with_reducible apply sound_foldl | with_reducible apply State.reRaise_sound | with_reducible apply State.clearBits_sound | (split; all_goals (try dsimp only)) | (simp only [sound_mk, soundC_refold]))

end Sys2Proof.Machine
end

