-- ==== Sys2Proof/Laws/SoundEngine.lean ====
section
/-! SUPPORT. Soundness (LS and FW of no channel closed together, every memory in canonical form) is kept by the timebase, ring frames, I/O, fans, Ephemeris, loops, the front end and CAN: one lemma per function that answers a state, named after it. -/

namespace Sys2Proof.Machine

/-! ### Timebase -/

theorem State.showDom_sound (s : State) (d : Nat) (hS0 : Sound s) : Sound (State.showDom s d) := by
  unfold State.showDom
  (try dsimp only)
  repeat' (first | with_reducible assumption | with_reducible apply State.setReg_sound | with_reducible apply State.setBit_sound | (split; all_goals (try dsimp only)))

theorem State.setDom_sound (s : State) (d : Nat) (x : PtpDomain) (hS0 : Sound s) : Sound (State.setDom s d x) := by
  unfold State.setDom
  (try dsimp only)
  repeat' (first | with_reducible assumption | with_reducible apply State.showDom_sound | (split; all_goals (try dsimp only)) | (simp only [sound_mk, soundC_refold]))

theorem State.setTrk_sound (s : State) (x : Int) (valid : Bool) (hS0 : Sound s) : Sound (State.setTrk s x valid) := by
  unfold State.setTrk
  (try dsimp only)
  repeat' (first | with_reducible assumption | with_reducible apply State.setReg_sound | (simp only [sound_mk, soundC_refold]))

theorem State.setRate_sound (s : State) (f : Int) (phi : Int) (hS0 : Sound s) : Sound (State.setRate s f phi) := by
  unfold State.setRate
  (try dsimp only)
  repeat' (first | with_reducible assumption | with_reducible apply State.setReg_sound | (simp only [sound_mk, soundC_refold]))

theorem State.servo_sound (s : State) (theta : Int) (hS0 : Sound s) : Sound (State.servo s theta) := by
  unfold State.servo
  (try dsimp only)
  repeat' (first | with_reducible assumption | with_reducible apply State.setRate_sound | (simp only [sound_mk, soundC_refold]))

theorem State.timeSafe_sound (s : State) (cause : Nat) (hS0 : Sound s) : Sound (State.timeSafe s cause) := by
  unfold State.timeSafe
  (try dsimp only)
  repeat' (first | with_reducible assumption | with_reducible apply State.raise_sound | with_reducible apply State.timeLost_sound | (split; all_goals (try dsimp only)))

theorem State.setMode_sound (s : State) (m : TimMode) (hS0 : Sound s) : Sound (State.setMode s m) := by
  unfold State.setMode
  (try dsimp only)
  repeat' (first | with_reducible assumption | with_reducible apply State.setRf_sound | with_reducible apply State.raise_sound | with_reducible apply State.timeSafe_sound | (split; all_goals (try dsimp only)) | (simp only [sound_mk, soundC_refold]))

theorem State.enterHoldover_sound (s : State) (hS0 : Sound s) : Sound (State.enterHoldover s) := by
  unfold State.enterHoldover
  (try dsimp only)
  repeat' (first | with_reducible assumption | with_reducible apply State.setRate_sound | with_reducible apply State.setMode_sound | (split; all_goals (try dsimp only)))

theorem State.lossActs_sound (s : State) (hS0 : Sound s) : Sound (State.lossActs s) := by
  unfold State.lossActs
  (try dsimp only)
  repeat' (first | with_reducible assumption | with_reducible apply State.setMode_sound | with_reducible apply State.enterHoldover_sound | (split; all_goals (try dsimp only)))

theorem State.stepNt_sound (s : State) (d : Int) (hS0 : Sound s) : Sound (State.stepNt s d) := by
  unfold State.stepNt
  (try dsimp only)
  repeat' (first | with_reducible assumption | with_reducible apply State.count_sound | with_reducible apply State.raise_sound | (simp only [sound_mk, soundC_refold]))

theorem State.timSet_sound (s : State) (hS0 : Sound s) : Sound (State.timSet s).2 := by
  unfold State.timSet
  (try dsimp only)
  repeat' (first | with_reducible assumption | with_reducible apply State.stepNt_sound | (split; all_goals (try dsimp only)))

theorem State.refuseSwitch_sound (s : State) (why : Nat) (hS0 : Sound s) : Sound (State.refuseSwitch s why) := by
  unfold State.refuseSwitch
  (try dsimp only)
  repeat' (first | with_reducible assumption | with_reducible apply State.raise_sound)

theorem State.requestSwitch_sound (s : State) (cause : Nat) (hS0 : Sound s) : Sound (State.requestSwitch s cause).2 := by
  unfold State.requestSwitch
  (try dsimp only)
  repeat' (first | with_reducible assumption | with_reducible apply State.setBit_sound | with_reducible apply State.setRate_sound | with_reducible apply State.refuseSwitch_sound | (split; all_goals (try dsimp only)) | (simp only [sound_mk, soundC_refold]))

theorem State.activate_sound (s : State) (hS0 : Sound s) : Sound (State.activate s) := by
  unfold State.activate
  (try dsimp only)
  repeat' (first | with_reducible assumption | with_reducible apply State.setBit_sound | with_reducible apply State.raise_sound | with_reducible apply State.setDom_sound | with_reducible apply State.setTrk_sound | (split; all_goals (try dsimp only)) | (simp only [sound_mk, soundC_refold]))

theorem State.swDone_sound (s : State) (hS0 : Sound s) : Sound (State.swDone s) := by
  unfold State.swDone
  (try dsimp only)
  repeat' (first | with_reducible assumption | with_reducible apply State.setBit_sound | with_reducible apply State.raise_sound | with_reducible apply State.setRate_sound | with_reducible apply State.requestSwitch_sound | (split; all_goals (try dsimp only)) | (simp only [sound_mk, soundC_refold]))

theorem State.doSwitch_sound (s : State) (hS0 : Sound s) : Sound (State.doSwitch s) := by
  unfold State.doSwitch
  (try dsimp only)
  repeat' (first | with_reducible assumption | with_reducible apply State.setBit_sound | with_reducible apply State.raise_sound | with_reducible apply State.setTrk_sound | with_reducible apply State.setRate_sound | with_reducible apply State.setMode_sound | with_reducible apply State.lossActs_sound | with_reducible apply State.refuseSwitch_sound | with_reducible apply State.activate_sound | with_reducible apply State.swDone_sound | (split; all_goals (try dsimp only)) | (simp only [sound_mk, soundC_refold]))

theorem State.switchTick_sound (s : State) (hS0 : Sound s) : Sound (State.switchTick s) := by
  unfold State.switchTick
  (try dsimp only)
  repeat' (first | with_reducible assumption | with_reducible apply State.reachNt_sound | with_reducible apply State.doSwitch_sound | (split; all_goals (try dsimp only)))

theorem State.swDoneTick_sound (s : State) (hS0 : Sound s) : Sound (State.swDoneTick s) := by
  unfold State.swDoneTick
  (try dsimp only)
  repeat' (first | with_reducible assumption | with_reducible apply State.reachTick_sound | with_reducible apply State.swDone_sound | (split; all_goals (try dsimp only)))

theorem State.timSwitch_sound (s : State) (hS0 : Sound s) : Sound (State.timSwitch s).2 := by
  unfold State.timSwitch
  (try dsimp only)
  repeat' (first | with_reducible assumption | with_reducible apply State.requestSwitch_sound | (split; all_goals (try dsimp only)))

theorem State.slewChanged_sound (s0 : State) (s : State) (hS0 : Sound s0) (hS1 : Sound s) : Sound (State.slewChanged s0 s) := by
  unfold State.slewChanged
  (try dsimp only)
  repeat' (first | with_reducible assumption | with_reducible apply State.setRate_sound | (split; all_goals (try dsimp only)) | (simp only [sound_mk, soundC_refold]))

theorem State.setPd_sound (s : State) (p : Nat) (x : PdPort) (hS0 : Sound s) : Sound (State.setPd s p x) := by
  unfold State.setPd
  (try dsimp only)
  repeat' (first | with_reducible assumption | with_reducible apply State.setReg_sound | with_reducible apply State.setBit_sound | (split; all_goals (try dsimp only)) | (simp only [sound_mk, soundC_refold]))

theorem State.keepSync_sound (s : State) (d : Nat) (p : Nat) (src : Nat) (seq : Nat) (theta : Int) (hS0 : Sound s) : Sound (State.keepSync s d p src seq theta) := by
  unfold State.keepSync
  (try dsimp only)
  repeat' (first | with_reducible assumption | with_reducible apply State.setDom_sound | (split; all_goals (try dsimp only)) | (simp only [sound_mk, soundC_refold]))

theorem State.trkUpdate_sound (s : State) (d : Nat) (theta : Int) (hS0 : Sound s) : Sound (State.trkUpdate s d theta) := by
  unfold State.trkUpdate
  (try dsimp only)
  repeat' (first | with_reducible assumption | with_reducible apply State.setTrk_sound | (split; all_goals (try dsimp only)))

theorem State.acqStep_sound (s : State) (theta : Int) (test : Int) (hS0 : Sound s) : Sound (State.acqStep s theta test).1 := by
  unfold State.acqStep
  (try dsimp only)
  repeat' (first | with_reducible assumption | with_reducible apply State.stepNt_sound | with_reducible apply State.swDone_sound | (split; all_goals (try dsimp only)))

theorem State.lockTest_sound (s : State) (test : Int) (hS0 : Sound s) : Sound (State.lockTest s test) := by
  unfold State.lockTest
  (try dsimp only)
  repeat' (first | with_reducible assumption | with_reducible apply State.setMode_sound | (split; all_goals (try dsimp only)) | (simp only [sound_mk, soundC_refold]))

theorem State.modeTest_sound (s : State) (test : Int) (hS0 : Sound s) : Sound (State.modeTest s test) := by
  unfold State.modeTest
  (try dsimp only)
  repeat' (first | with_reducible assumption | with_reducible apply State.setMode_sound | (split; all_goals (try dsimp only)) | (simp only [sound_mk, soundC_refold]))

theorem State.activeSync_sound (s : State) (theta : Int) (hS0 : Sound s) : Sound (State.activeSync s theta) := by
  unfold State.activeSync
  (try dsimp only)
  repeat' (first | with_reducible assumption | with_reducible apply State.servo_sound | with_reducible apply State.acqStep_sound | with_reducible apply State.lockTest_sound | with_reducible apply State.modeTest_sound | (split; all_goals (try dsimp only)))

theorem State.syncOffset_sound (dt : Nat) (s : State) (hS0 : Sound s) : Sound (State.syncOffset dt s) := by
  unfold State.syncOffset
  (try dsimp only)
  repeat' (first | with_reducible assumption | with_reducible apply State.setBit_sound | with_reducible apply State.count_sound | with_reducible apply State.advance_sound | with_reducible apply State.reachTick_sound | with_reducible apply State.setDom_sound | with_reducible apply State.trkUpdate_sound | with_reducible apply State.activeSync_sound | (split; all_goals (try dsimp only)) | (simp only [sound_mk, soundC_refold]))

theorem State.domainLoss_sound (s : State) (d : Nat) (hS0 : Sound s) : Sound (State.domainLoss s d) := by
  unfold State.domainLoss
  (try dsimp only)
  repeat' (first | with_reducible assumption | with_reducible apply State.reachTick_sound | with_reducible apply State.raise_sound | with_reducible apply State.setDom_sound | with_reducible apply State.setTrk_sound | with_reducible apply State.lossActs_sound | with_reducible apply State.requestSwitch_sound | with_reducible apply State.activate_sound | (split; all_goals (try dsimp only)))

theorem State.holdoverExpire_sound (s : State) (hS0 : Sound s) : Sound (State.holdoverExpire s) := by
  unfold State.holdoverExpire
  (try dsimp only)
  repeat' (first | with_reducible assumption | with_reducible apply State.reachTick_sound | with_reducible apply State.setMode_sound | with_reducible apply State.activate_sound | (split; all_goals (try dsimp only)))

theorem State.reselect_sound (s : State) (d : Nat) (hS0 : Sound s) : Sound (State.reselect s d) := by
  unfold State.reselect
  (try dsimp only)
  repeat' (first | with_reducible assumption | with_reducible apply State.raise_sound | with_reducible apply State.setDom_sound | (split; all_goals (try dsimp only)))

theorem State.announce_sound (s : State) (num : Nat) (src : Nat) (gm : Nat) (rank : List Nat) (logInt : Int) (seq : Nat) (steps : Nat) (hS0 : Sound s) : Sound (State.announce s num src gm rank logInt seq steps) := by
  unfold State.announce
  (try dsimp only)
  repeat' (first | with_reducible assumption | with_reducible apply State.setDom_sound | with_reducible apply State.activate_sound | with_reducible apply State.reselect_sound | (split; all_goals (try dsimp only)))

theorem State.announceTimeout_sound (s : State) (d : Nat) (hS0 : Sound s) : Sound (State.announceTimeout s d) := by
  unfold State.announceTimeout
  (try dsimp only)
  repeat' (first | with_reducible assumption | with_reducible apply State.reachTick_sound | with_reducible apply State.setDom_sound | with_reducible apply State.activate_sound | with_reducible apply State.reselect_sound | (split; all_goals (try dsimp only)))

theorem State.pdUpdate_sound (s : State) (p : Nat) (x : PdPort) (hS0 : Sound s) : Sound (State.pdUpdate s p x) := by
  unfold State.pdUpdate
  (try dsimp only)
  repeat' (first | with_reducible assumption | with_reducible apply State.raise_sound | with_reducible apply State.setPd_sound | (split; all_goals (try dsimp only)))

theorem State.sendPdelay_sound (s : State) (p : Nat) (bytes : List Byte) (ingress : Option Int) (hS0 : Sound s) : Sound (State.sendPdelay s p bytes ingress) := by
  unfold State.sendPdelay
  (try dsimp only)
  repeat' (first | with_reducible assumption | with_reducible apply State.sendOn_sound)

theorem State.pdMissed_sound (s : State) (p : Nat) (hS0 : Sound s) : Sound (State.pdMissed s p) := by
  unfold State.pdMissed
  (try dsimp only)
  repeat' (first | with_reducible assumption | with_reducible apply State.count_sound | with_reducible apply State.pdUpdate_sound | (split; all_goals (try dsimp only)))

theorem State.pdelaySend_sound (s : State) (p : Nat) (hS0 : Sound s) : Sound (State.pdelaySend s p) := by
  unfold State.pdelaySend
  (try dsimp only)
  repeat' (first | with_reducible assumption | with_reducible apply State.reachTick_sound | with_reducible apply State.setPd_sound | with_reducible apply State.sendPdelay_sound | with_reducible apply State.pdMissed_sound | (split; all_goals (try dsimp only)))

theorem State.pdelayReq_sound (s : State) (p : Nat) (seq : Nat) (a : PdelayAsk) (hS0 : Sound s) : Sound (State.pdelayReq s p seq a) := by
  unfold State.pdelayReq
  (try dsimp only)
  repeat' (first | with_reducible assumption | with_reducible apply State.sendPdelay_sound | (split; all_goals (try dsimp only)))

theorem State.rateRatio_sound (s : State) (r : Option Int) (hS0 : Sound s) : Sound (State.rateRatio s r).2 := by
  unfold State.rateRatio
  (try dsimp only)
  repeat' (first | with_reducible assumption | with_reducible apply State.draw_sound | (split; all_goals (try dsimp only)))

theorem State.pdelayResp_sound (s0 : State) (p : Nat) (seq : Nat) (turn : Int) (ratio : Option Int) (q : Nat) (hS0 : Sound s0) : Sound (State.pdelayResp s0 p seq turn ratio q) := by
  unfold State.pdelayResp
  (try dsimp only)
  repeat' (first | with_reducible assumption | with_reducible apply State.pdUpdate_sound | with_reducible apply State.rateRatio_sound | (split; all_goals (try dsimp only)))

theorem State.timLoad_sound (s : State) (hS0 : Sound s) : Sound (State.timLoad s) := by
  unfold State.timLoad
  (try dsimp only)
  repeat' (first | with_reducible assumption | with_reducible apply State.setReg_sound | with_reducible apply State.setBit_sound | with_reducible apply State.setDom_sound | with_reducible apply State.setTrk_sound | with_reducible apply State.setRate_sound | with_reducible apply State.setMode_sound | (split; all_goals (try dsimp only)) | (simp only [sound_mk, soundC_refold]))

theorem State.timClear_sound (s : State) (hS0 : Sound s) : Sound (State.timClear s) := by
  unfold State.timClear
  (try dsimp only)
  repeat' (first | with_reducible assumption | with_reducible apply State.clearRegs_sound)

/-! ### Frames -/

theorem State.forward_sound (s : State) (p : Nat) (q : Nat) (f : RxFrame) (x : QFrame) (hS0 : Sound s) : Sound (State.forward s p q f x).2 := by
  unfold State.forward
  (try dsimp only)
  repeat' (first | with_reducible assumption | with_reducible apply State.count_sound | with_reducible apply State.enqueue_sound | with_reducible apply State.noteSent_sound | (split; all_goals (try dsimp only)))

theorem State.received_sound (s0 : State) (p : Nat) (f : RxFrame) (hS0 : Sound s0) : Sound (State.received s0 p f).2 := by
  unfold State.received
  (try dsimp only)
  repeat' (first | with_reducible assumption | with_reducible apply State.count_sound | (split; all_goals (try dsimp only)))

theorem State.syncFrame_sound (s : State) (p : Nat) (num : Nat) (src : Nat) (seq : Nat) (logInt : Int) (twoStep : Bool) (fcsOk : Bool) (origin : Int) (corr : Int) (q : Nat) (f : RxFrame) (hS0 : Sound s) : Sound (State.syncFrame s p num src seq logInt twoStep fcsOk origin corr q f) := by
  unfold State.syncFrame
  (try dsimp only)
  repeat' (first | with_reducible assumption | with_reducible apply State.count_sound | with_reducible apply State.keepSync_sound | with_reducible apply State.forward_sound | (split; all_goals (try dsimp only)))

theorem State.syncIn_sound (s : State) (p : Nat) (num : Nat) (src : Nat) (seq : Nat) (logInt : Int) (twoStep : Bool) (fcsOk : Bool) (origin : Int) (corr : Int) (q : Nat) (f : RxFrame) (hS0 : Sound s) : Sound (State.syncIn s p num src seq logInt twoStep fcsOk origin corr q f) := by
  unfold State.syncIn
  (try dsimp only)
  repeat' (first | with_reducible assumption | with_reducible apply State.received_sound | with_reducible apply State.syncFrame_sound | (split; all_goals (try dsimp only)))

theorem State.announceFrame_sound (s : State) (b : List Byte) (hS0 : Sound s) : Sound (State.announceFrame s b) := by
  unfold State.announceFrame
  (try dsimp only)
  repeat' (first | with_reducible assumption | with_reducible apply State.announce_sound)

theorem State.pdelayFrame_sound (s : State) (p : Nat) (f : RxFrame) (hS0 : Sound s) : Sound (State.pdelayFrame s p f) := by
  unfold State.pdelayFrame
  (try dsimp only)
  repeat' (first | with_reducible assumption | with_reducible apply State.pdelayReq_sound | with_reducible apply State.pdelayResp_sound | (split; all_goals (try dsimp only)))

theorem State.ptpFrame_sound (s : State) (p : Nat) (f : RxFrame) (ok : Bool) (hS0 : Sound s) : Sound (State.ptpFrame s p f ok) := by
  unfold State.ptpFrame
  (try dsimp only)
  repeat' (first | with_reducible assumption | with_reducible apply State.count_sound | with_reducible apply State.forward_sound | with_reducible apply State.announceFrame_sound | with_reducible apply State.pdelayFrame_sound | (split; all_goals (try dsimp only)))

theorem State.frameReceive_sound (s0 : State) (p : Nat) (f : RxFrame) (hS0 : Sound s0) : Sound (State.frameReceive s0 p f) := by
  unfold State.frameReceive
  (try dsimp only)
  repeat' (first | with_reducible assumption | with_reducible apply State.count_sound | with_reducible apply State.noteDelivered_sound | with_reducible apply State.deliverFrame_sound | with_reducible apply State.forward_sound | with_reducible apply State.received_sound | with_reducible apply State.syncFrame_sound | with_reducible apply State.pdelayFrame_sound | with_reducible apply State.ptpFrame_sound | (split; all_goals (try dsimp only)))

theorem State.stampSent_sound (s : State) (p : Nat) (f : QFrame) (hS0 : Sound s) : Sound (State.stampSent s p f) := by
  unfold State.stampSent
  (try dsimp only)
  repeat' (first | with_reducible assumption | with_reducible apply State.setPd_sound | (split; all_goals (try dsimp only)))

theorem State.frameTransmit_sound (s : State) (p : Nat) (hS0 : Sound s) : Sound (State.frameTransmit s p) := by
  unfold State.frameTransmit
  (try dsimp only)
  repeat' (first | with_reducible assumption | with_reducible apply State.setPort_sound | with_reducible apply State.stampSent_sound | (split; all_goals (try dsimp only)) | (simp only [sound_mk, soundC_refold]))

theorem State.transmitEvents_sound (s : State) (p : Nat) (z0 : Nat) (hS0 : Sound s) : Sound (State.transmitEvents s p z0) := by
  induction z0 generalizing s with
  | zero => exact hS0
  | succ n ih =>
    unfold State.transmitEvents
    exact sound_ite _ _ _ (ih _ (State.frameTransmit_sound _ _ hS0)) hS0

theorem State.ringRelease_sound (s0 : State) (hS0 : Sound s0) : Sound (State.ringRelease s0) := by
  unfold State.ringRelease
  (try dsimp only)
  repeat' (first | with_reducible assumption | (intro) | with_reducible apply sound_foldl | with_reducible apply State.settle_sound | with_reducible apply State.dropQueues_sound | with_reducible apply State.sendAllEvents_sound | with_reducible apply State.transmitEvents_sound | (split; all_goals (try dsimp only)) | (simp only [sound_mk, soundC_refold]))

/-! ### Gio -/

theorem State.aoUpdate_sound (s : State) (k : Nat) (hS0 : Sound s) : Sound (State.aoUpdate s k) := by
  unfold State.aoUpdate
  (try dsimp only)
  repeat' (first | with_reducible assumption | with_reducible apply State.setReg_sound | with_reducible apply State.setBit_sound)

theorem State.aoFault_sound (s : State) (k : Nat) (hS0 : Sound s) : Sound (State.aoFault s k) := by
  unfold State.aoFault
  (try dsimp only)
  repeat' (first | with_reducible assumption | with_reducible apply State.setBit_sound | with_reducible apply State.raise_sound | (split; all_goals (try dsimp only)))

theorem State.aoFaultEnd_sound (s : State) (k : Nat) (hS0 : Sound s) : Sound (State.aoFaultEnd s k) := by
  unfold State.aoFaultEnd
  (try dsimp only)
  repeat' (first | with_reducible assumption | with_reducible apply State.setBit_sound)

theorem State.showDo_sound (s : State) (hS0 : Sound s) : Sound (State.showDo s) := by
  unfold State.showDo
  (try dsimp only)
  repeat' (first | with_reducible assumption | with_reducible apply State.setReg_sound)

theorem State.doUpdate_sound (s : State) (k : Nat) (hS0 : Sound s) : Sound (State.doUpdate s k) := by
  unfold State.doUpdate
  (try dsimp only)
  repeat' (first | with_reducible assumption | with_reducible apply State.showDo_sound | (simp only [sound_mk, soundC_refold]))

theorem State.doOverload_sound (s : State) (k : Nat) (hS0 : Sound s) : Sound (State.doOverload s k) := by
  unfold State.doOverload
  (try dsimp only)
  repeat' (first | with_reducible assumption | with_reducible apply State.setBit_sound | with_reducible apply State.raise_sound | with_reducible apply State.showDo_sound)

theorem State.doClear_sound (s : State) (w : Word) (hS0 : Sound s) : Sound (State.doClear s w) := by
  unfold State.doClear
  (try dsimp only)
  repeat' (first | with_reducible assumption | with_reducible apply State.setReg_sound | with_reducible apply State.showDo_sound)

theorem State.showDi_sound (s : State) (k : Nat) (hS0 : Sound s) : Sound (State.showDi s k) := by
  unfold State.showDi
  (try dsimp only)
  repeat' (first | with_reducible assumption | with_reducible apply State.setBit_sound | with_reducible apply State.putVal_sound)

theorem State.diChange_sound (s : State) (k : Nat) (hS0 : Sound s) : Sound (State.diChange s k) := by
  unfold State.diChange
  (try dsimp only)
  repeat' (first | with_reducible assumption | with_reducible apply State.showDi_sound | (simp only [sound_mk, soundC_refold]))

theorem State.setDiSince_sound (s : State) (k : Nat) (t : Option Nat) (hS0 : Sound s) : Sound (State.setDiSince s k t) := by
  unfold State.setDiSince
  (try dsimp only)
  repeat' (first | with_reducible assumption | (simp only [sound_mk, soundC_refold]))

theorem State.diSettle_sound (s : State) (k : Nat) (hS0 : Sound s) : Sound (State.diSettle s k) := by
  unfold State.diSettle
  (try dsimp only)
  repeat' (first | with_reducible assumption | with_reducible apply State.diChange_sound | with_reducible apply State.setDiSince_sound | (split; all_goals (try dsimp only)))

theorem State.diMove_sound (s : State) (k : Nat) (hS0 : Sound s) : Sound (State.diMove s k) := by
  unfold State.diMove
  (try dsimp only)
  repeat' (first | with_reducible assumption | with_reducible apply State.setDiSince_sound | (split; all_goals (try dsimp only)))

theorem State.diStood_sound (s : State) (k : Nat) (hS0 : Sound s) : Sound (State.diStood s k) := by
  unfold State.diStood
  (try dsimp only)
  repeat' (first | with_reducible assumption | with_reducible apply State.reachTick_sound | with_reducible apply State.diSettle_sound | (split; all_goals (try dsimp only)))

theorem State.showEnc_sound (s : State) (k : Nat) (c : Int) (hS0 : Sound s) : Sound (State.showEnc s k c) := by
  unfold State.showEnc
  (try dsimp only)
  repeat' (first | with_reducible assumption | with_reducible apply State.setReg_sound | with_reducible apply State.putVal_sound)

theorem State.encEdge_sound (s : State) (k : Nat) (a' : Bool) (b' : Bool) (hS0 : Sound s) : Sound (State.encEdge s k a' b') := by
  unfold State.encEdge
  (try dsimp only)
  repeat' (first | with_reducible assumption | with_reducible apply State.count_sound | with_reducible apply State.episode_sound | with_reducible apply State.showEnc_sound | (split; all_goals (try dsimp only)) | (simp only [sound_mk, soundC_refold]))

theorem State.setEncSince_sound (s : State) (k : Nat) (i : Nat) (t : Option Nat) (hS0 : Sound s) : Sound (State.setEncSince s k i t) := by
  unfold State.setEncSince
  (try dsimp only)
  repeat' (first | with_reducible assumption | (simp only [sound_mk, soundC_refold]))

theorem State.encSettle_sound (s : State) (k : Nat) (hS0 : Sound s) : Sound (State.encSettle s k) := by
  unfold State.encSettle
  (try dsimp only)
  repeat' (first | with_reducible assumption | with_reducible apply State.encEdge_sound | with_reducible apply State.setEncSince_sound | (split; all_goals (try dsimp only)))

theorem State.encPin_sound (s : State) (k : Nat) (i : Nat) (x : Bool) (old : Bool) (hS0 : Sound s) : Sound (State.encPin s k i x old) := by
  unfold State.encPin
  (try dsimp only)
  repeat' (first | with_reducible assumption | with_reducible apply State.setEncSince_sound | (split; all_goals (try dsimp only)))

theorem State.encMove_sound (s : State) (k : Nat) (a : Bool) (b : Bool) (hS0 : Sound s) : Sound (State.encMove s k a b) := by
  unfold State.encMove
  (try dsimp only)
  repeat' (first | with_reducible assumption | with_reducible apply State.encSettle_sound | with_reducible apply State.encPin_sound)

theorem State.encStood_sound (s : State) (k : Nat) (hS0 : Sound s) : Sound (State.encStood s k) := by
  unfold State.encStood
  (try dsimp only)
  repeat' (first | with_reducible assumption | with_reducible apply State.reachTick_sound | with_reducible apply State.encSettle_sound | (split; all_goals (try dsimp only)))

theorem State.encIndex_sound (s : State) (k : Nat) (hS0 : Sound s) : Sound (State.encIndex s k) := by
  unfold State.encIndex
  (try dsimp only)
  repeat' (first | with_reducible assumption | with_reducible apply State.showEnc_sound | (split; all_goals (try dsimp only)) | (simp only [sound_mk, soundC_refold]))

theorem State.encLatch_sound (s : State) (k : Nat) (hS0 : Sound s) : Sound (State.encLatch s k) := by
  unfold State.encLatch
  (try dsimp only)
  repeat' (first | with_reducible assumption | with_reducible apply State.putVal_sound | (split; all_goals (try dsimp only)) | (simp only [sound_mk, soundC_refold]))

theorem State.gioLoad_sound (s : State) (hS0 : Sound s) : Sound (State.gioLoad s) := by
  unfold State.gioLoad
  (try dsimp only)
  repeat' (first | with_reducible assumption | (intro) | with_reducible apply sound_foldl | with_reducible apply State.putSlot_sound | with_reducible apply State.putVal_sound | with_reducible apply State.aoUpdate_sound | with_reducible apply State.doUpdate_sound | with_reducible apply State.showDi_sound | with_reducible apply State.showEnc_sound | (split; all_goals (try dsimp only)))

theorem State.gioClear_sound (s : State) (hS0 : Sound s) : Sound (State.gioClear s) := by
  unfold State.gioClear
  (try dsimp only)
  repeat' (first | with_reducible assumption | with_reducible apply State.clearRegs_sound)

/-! ### Fans -/

theorem State.setFc_sound (s : State) (k : Nat) (c : FanCtx) (hS0 : Sound s) : Sound (State.setFc s k c) := by
  unfold State.setFc
  (try dsimp only)
  repeat' (first | with_reducible assumption | (simp only [sound_mk, soundC_refold]))

theorem State.showTach_sound (s : State) (k : Nat) (hS0 : Sound s) : Sound (State.showTach s k) := by
  unfold State.showTach
  (try dsimp only)
  repeat' (first | with_reducible assumption | with_reducible apply State.putSlot_sound | (split; all_goals (try dsimp only)))

theorem State.putDuty_sound (s : State) (k : Nat) (d : Nat) (spd : Bool) (forced : Bool) (hS0 : Sound s) : Sound (State.putDuty s k d spd forced) := by
  unfold State.putDuty
  (try dsimp only)
  repeat' (first | with_reducible assumption | with_reducible apply State.setRf_sound | with_reducible apply State.setBit_sound)

theorem State.fanEnter_sound (s : State) (k : Nat) (st : Nat) (hS0 : Sound s) : Sound (State.fanEnter s k st) := by
  unfold State.fanEnter
  (try dsimp only)
  repeat' (first | with_reducible assumption | with_reducible apply State.setRf_sound | with_reducible apply State.setBit_sound | with_reducible apply State.setFc_sound | with_reducible apply State.showTach_sound | with_reducible apply State.putDuty_sound | (split; all_goals (try dsimp only)))

theorem State.setAtt_sound (s : State) (k : Nat) (n : Nat) (hS0 : Sound s) : Sound (State.setAtt s k n) := by
  unfold State.setAtt
  (try dsimp only)
  repeat' (first | with_reducible assumption | with_reducible apply State.setRf_sound)

theorem State.fanFail_sound (s : State) (k : Nat) (hS0 : Sound s) : Sound (State.fanFail s k) := by
  unfold State.fanFail
  (try dsimp only)
  repeat' (first | with_reducible assumption | with_reducible apply State.count_sound | with_reducible apply State.raise_sound | with_reducible apply State.fanEnter_sound | with_reducible apply State.setAtt_sound | (split; all_goals (try dsimp only)))

theorem State.fanStop_sound (s : State) (k : Nat) (hS0 : Sound s) : Sound (State.fanStop s k) := by
  unfold State.fanStop
  (try dsimp only)
  repeat' (first | with_reducible assumption | with_reducible apply State.fanEnter_sound | with_reducible apply State.setAtt_sound | (split; all_goals (try dsimp only)))

theorem State.judge_sound (s : State) (z : Nat) (i : Nat) (hS0 : Sound s) : Sound (State.judge s z i) := by
  unfold State.judge
  (try dsimp only)
  repeat' (first | with_reducible assumption | with_reducible apply State.setBit_sound | with_reducible apply State.episode_sound | (split; all_goals (try dsimp only)) | (simp only [sound_mk, soundC_refold]))

theorem State.zoneTemp_sound (s : State) (z : Nat) (hS0 : Sound s) : Sound (State.zoneTemp s z) := by
  unfold State.zoneTemp
  (try dsimp only)
  repeat' (first | with_reducible assumption | (intro) | with_reducible apply sound_foldl | with_reducible apply State.setRf_sound | with_reducible apply State.setBit_sound | with_reducible apply State.raise_sound | with_reducible apply State.putSlot_sound | with_reducible apply State.putVal_sound | with_reducible apply State.judge_sound | (split; all_goals (try dsimp only)))

theorem State.fanStart_sound (s : State) (k : Nat) (hS0 : Sound s) : Sound (State.fanStart s k) := by
  unfold State.fanStart
  (try dsimp only)
  repeat' (first | with_reducible assumption | with_reducible apply State.putDuty_sound | with_reducible apply State.fanEnter_sound | with_reducible apply State.setAtt_sound | (split; all_goals (try dsimp only)))

theorem State.fanAct_sound (s : State) (a : Nat × Nat) (hS0 : Sound s) : Sound (State.fanAct s a) := by
  unfold State.fanAct
  (try dsimp only)
  repeat' (first | with_reducible assumption | with_reducible apply State.fanEnter_sound | with_reducible apply State.setAtt_sound | with_reducible apply State.fanStop_sound | with_reducible apply State.fanStart_sound | (split; all_goals (try dsimp only)))

theorem State.setDuty_sound (s : State) (k : Nat) (entered : Bool) (hS0 : Sound s) : Sound (State.setDuty s k entered) := by
  unfold State.setDuty
  (try dsimp only)
  repeat' (first | with_reducible assumption | with_reducible apply State.putDuty_sound | (split; all_goals (try dsimp only)))

theorem State.fanSink_sound (s : State) (k : Nat) (hS0 : Sound s) : Sound (State.fanSink s k) := by
  unfold State.fanSink
  (try dsimp only)
  repeat' (first | with_reducible assumption | with_reducible apply State.putDuty_sound | (split; all_goals (try dsimp only)))

theorem State.fanForce_sound (s : State) (k : Nat) (hS0 : Sound s) : Sound (State.fanForce s k) := by
  unfold State.fanForce
  (try dsimp only)
  repeat' (first | with_reducible assumption | with_reducible apply State.fanEnter_sound | (split; all_goals (try dsimp only)))

theorem State.bandStep_sound (s : State) (k : Nat) (hS0 : Sound s) : Sound (State.bandStep s k) := by
  unfold State.bandStep
  (try dsimp only)
  repeat' (first | with_reducible assumption | with_reducible apply State.setFc_sound | (split; all_goals (try dsimp only)))

theorem State.runTests_sound (s : State) (k : Nat) (hS0 : Sound s) : Sound (State.runTests s k) := by
  unfold State.runTests
  (try dsimp only)
  repeat' (first | with_reducible assumption | with_reducible apply State.raise_sound | with_reducible apply State.setFc_sound | with_reducible apply State.fanEnter_sound | (split; all_goals (try dsimp only)))

theorem State.fanTrans_sound (s : State) (k : Nat) (hS0 : Sound s) : Sound (State.fanTrans s k) := by
  unfold State.fanTrans
  (try dsimp only)
  repeat' (first | with_reducible assumption | with_reducible apply State.fanEnter_sound | with_reducible apply State.fanFail_sound | with_reducible apply State.runTests_sound | (split; all_goals (try dsimp only)))

theorem State.fanTurn_sound (s : State) (k : Nat) (hS0 : Sound s) : Sound (State.fanTurn s k) := by
  unfold State.fanTurn
  (try dsimp only)
  repeat' (first | with_reducible assumption | with_reducible apply State.setDuty_sound | with_reducible apply State.fanForce_sound | with_reducible apply State.bandStep_sound | with_reducible apply State.fanTrans_sound | (split; all_goals (try dsimp only)))

theorem State.zoneUpdate_sound (s : State) (milli : List Nat) (hS0 : Sound s) : Sound (State.zoneUpdate s milli) := by
  unfold State.zoneUpdate
  (try dsimp only)
  repeat' (first | with_reducible assumption | (intro) | with_reducible apply sound_foldl | with_reducible apply State.setBit_sound | with_reducible apply State.reachNt_sound | with_reducible apply State.putVal_sound | with_reducible apply State.zoneTemp_sound | with_reducible apply State.fanAct_sound | with_reducible apply State.fanTurn_sound | (split; all_goals (try dsimp only)) | (simp only [sound_mk, soundC_refold]))

theorem State.tachEdge_sound (s : State) (k : Nat) (near : Bool) (hS0 : Sound s) : Sound (State.tachEdge s k near) := by
  unfold State.tachEdge
  (try dsimp only)
  repeat' (first | with_reducible assumption | with_reducible apply State.setFc_sound | with_reducible apply State.showTach_sound | (split; all_goals (try dsimp only)))

theorem State.tachTimeout_sound (s : State) (k : Nat) (hS0 : Sound s) : Sound (State.tachTimeout s k) := by
  unfold State.tachTimeout
  (try dsimp only)
  repeat' (first | with_reducible assumption | with_reducible apply State.reachTick_sound | with_reducible apply State.setFc_sound | with_reducible apply State.showTach_sound | (split; all_goals (try dsimp only)))

theorem State.swOpen_sound (s : State) (k : Nat) (milli : Nat) (hS0 : Sound s) : Sound (State.swOpen s k milli) := by
  unfold State.swOpen
  (try dsimp only)
  repeat' (first | with_reducible assumption | with_reducible apply State.raise_sound | with_reducible apply State.fanFail_sound | (split; all_goals (try dsimp only)))

theorem State.switchTrip_sound (s : State) (sw : Nat) (milli : Nat) (hS0 : Sound s) : Sound (State.switchTrip s sw milli) := by
  unfold State.switchTrip
  (try dsimp only)
  repeat' (first | with_reducible assumption | with_reducible apply State.putVal_sound | with_reducible apply State.swOpen_sound | (split; all_goals (try dsimp only)) | (simp only [sound_mk, soundC_refold]))

theorem State.lockedRotor_sound (s : State) (k : Nat) (milli : Nat) (hS0 : Sound s) : Sound (State.lockedRotor s k milli) := by
  unfold State.lockedRotor
  (try dsimp only)
  repeat' (first | with_reducible assumption | with_reducible apply State.putVal_sound | with_reducible apply State.swOpen_sound | (split; all_goals (try dsimp only)))

theorem State.writeFanEn_sound (s : State) (w : Word) (hS0 : Sound s) : Sound (State.writeFanEn s w) := by
  unfold State.writeFanEn
  (try dsimp only)
  repeat' (first | with_reducible assumption | with_reducible apply State.setReg_sound | (simp only [sound_mk, soundC_refold]))

theorem State.writeFanLock_sound (s : State) (w : Word) (hS0 : Sound s) : Sound (State.writeFanLock s w) := by
  unfold State.writeFanLock
  (try dsimp only)
  repeat' (first | with_reducible assumption | with_reducible apply State.setReg_sound | (simp only [sound_mk, soundC_refold]))

theorem State.fanWdog_sound (s : State) (expired : Bool) (hS0 : Sound s) : Sound (State.fanWdog s expired) := by
  unfold State.fanWdog
  (try dsimp only)
  repeat' (first | with_reducible assumption | (intro) | with_reducible apply sound_foldl | with_reducible apply State.setBit_sound | with_reducible apply State.raise_sound | with_reducible apply State.setFc_sound | (split; all_goals (try dsimp only)) | (simp only [sound_mk, soundC_refold]))

theorem State.fanLoad_sound (s : State) (old : List Byte) (hS0 : Sound s) : Sound (State.fanLoad s old) := by
  unfold State.fanLoad
  (try dsimp only)
  repeat' (first | with_reducible assumption | (intro) | with_reducible apply sound_foldl | with_reducible apply State.setBit_sound | with_reducible apply State.showTach_sound | (simp only [sound_mk, soundC_refold]))

theorem State.fanClear_sound (s : State) (hS0 : Sound s) : Sound (State.fanClear s) := by
  unfold State.fanClear
  (try dsimp only)
  repeat' (first | with_reducible assumption | with_reducible apply State.setReg_sound)

/-! ### Ephemeris -/

theorem State.setBin_sound (s : State) (b : Nat) (w : Int) (hS0 : Sound s) : Sound (State.setBin s b w) := by
  unfold State.setBin
  (try dsimp only)
  repeat' (first | with_reducible assumption | (simp only [sound_mk, soundC_refold]))

theorem State.setUe_sound (s : State) (n : Nat) (b : Bool) (hS0 : Sound s) : Sound (State.setUe s n b) := by
  unfold State.setUe
  (try dsimp only)
  repeat' (first | with_reducible assumption | with_reducible apply State.setBit_sound | (simp only [sound_mk, soundC_refold]))

theorem State.fillBins_sound (s : State) (n : Nat) (restore : Bool) (hS0 : Sound s) : Sound (State.fillBins s n restore) := by
  unfold State.fillBins
  (try dsimp only)
  repeat' (first | with_reducible assumption | (intro) | with_reducible apply sound_foldl | with_reducible apply State.setBin_sound | with_reducible apply State.setUe_sound)

theorem State.learnCommit_sound (s : State) (r : LoopRun) (hS0 : Sound s) : Sound (State.learnCommit s r) := by
  unfold State.learnCommit
  (try dsimp only)
  repeat' (first | with_reducible assumption | (intro) | with_reducible apply sound_foldl | with_reducible apply State.count_sound | with_reducible apply State.setBin_sound | (split; all_goals (try dsimp only)))

theorem State.binsEnd_sound (s : State) (n : Nat) (hS0 : Sound s) : Sound (State.binsEnd s n) := by
  unfold State.binsEnd
  (try dsimp only)
  repeat' (first | with_reducible assumption | (intro) | with_reducible apply sound_foldl | with_reducible apply State.fillBins_sound | (split; all_goals (try dsimp only)) | (simp only [sound_mk, soundC_refold]))

theorem State.learnSettle_sound (s : State) (n : Nat) (hS0 : Sound s) : Sound (State.learnSettle s n) := by
  unfold State.learnSettle
  (try dsimp only)
  repeat' (first | with_reducible assumption | with_reducible apply State.learnCommit_sound | with_reducible apply State.binsEnd_sound | (split; all_goals (try dsimp only)) | (simp only [sound_mk, soundC_refold]))

theorem State.writeBin_sound (s : State) (b : Nat) (w : Word) (hS0 : Sound s) : Sound (State.writeBin s b w) := by
  unfold State.writeBin
  (try dsimp only)
  repeat' (first | with_reducible assumption | with_reducible apply State.setBin_sound | with_reducible apply State.learnSettle_sound | (split; all_goals (try dsimp only)) | (simp only [sound_mk, soundC_refold]))

theorem State.setBins_sound (s : State) (n : Nat) (restore : Bool) (hS0 : Sound s) : Sound (State.setBins s n restore) := by
  unfold State.setBins
  (try dsimp only)
  repeat' (first | with_reducible assumption | with_reducible apply State.fillBins_sound | with_reducible apply State.learnSettle_sound | (split; all_goals (try dsimp only)) | (simp only [sound_mk, soundC_refold]))

theorem State.setGen_sound (s : State) (g : Nat) (x : InjGen) (hS0 : Sound s) : Sound (State.setGen s g x) := by
  unfold State.setGen
  (try dsimp only)
  repeat' (first | with_reducible assumption | (simp only [sound_mk, soundC_refold]))

theorem State.genEnd_sound (s : State) (g : Nat) (cause : Nat) (hS0 : Sound s) : Sound (State.genEnd s g cause) := by
  unfold State.genEnd
  (try dsimp only)
  repeat' (first | with_reducible assumption | with_reducible apply State.setBit_sound | with_reducible apply State.raise_sound | with_reducible apply State.setGen_sound | (split; all_goals (try dsimp only)))

theorem State.setChan_sound (s : State) (c : Nat) (x : CapCh) (hS0 : Sound s) : Sound (State.setChan s c x) := by
  unfold State.setChan
  (try dsimp only)
  repeat' (first | with_reducible assumption | (simp only [sound_mk, soundC_refold]))

theorem State.capEnd_sound (s : State) (c : Nat) (hS0 : Sound s) : Sound (State.capEnd s c) := by
  unfold State.capEnd
  (try dsimp only)
  repeat' (first | with_reducible assumption | with_reducible apply State.setBit_sound | with_reducible apply State.raise_sound | with_reducible apply State.setChan_sound)

theorem State.genBegin_sound (s : State) (g : Nat) (hS0 : Sound s) : Sound (State.genBegin s g) := by
  unfold State.genBegin
  (try dsimp only)
  repeat' (first | with_reducible assumption | (intro) | with_reducible apply sound_foldl | with_reducible apply State.setReg_sound | with_reducible apply State.setBit_sound | with_reducible apply State.setChan_sound | (split; all_goals (try dsimp only)))

theorem State.genTurn_sound (s : State) (n : Nat) (hS0 : Sound s) : Sound (State.genTurn s n).2 := by
  unfold State.genTurn
  (try dsimp only)
  repeat' (first | with_reducible assumption | with_reducible apply State.setReg_sound | with_reducible apply State.setGen_sound | with_reducible apply State.genBegin_sound | (split; all_goals (try dsimp only)))

theorem State.capMiss_sound (s : State) (c : Nat) (hS0 : Sound s) : Sound (State.capMiss s c) := by
  unfold State.capMiss
  (try dsimp only)
  repeat' (first | with_reducible assumption | with_reducible apply State.setBit_sound | with_reducible apply State.setChan_sound)

theorem State.capPush_sound (s : State) (c : Nat) (i : Nat) (r : LoopRun) (learned : Bool) (hS0 : Sound s) : Sound (State.capPush s c i r learned) := by
  unfold State.capPush
  (try dsimp only)
  repeat' (first | with_reducible assumption | with_reducible apply State.count_sound | with_reducible apply State.episode_sound | with_reducible apply State.capMiss_sound | (split; all_goals (try dsimp only)) | (simp only [sound_mk, soundC_refold]))

theorem State.capQueueWrite_sound (s : State) (hS0 : Sound s) : Sound (State.capQueueWrite s) := by
  unfold State.capQueueWrite
  (try dsimp only)
  repeat' (first | with_reducible assumption | with_reducible apply State.setReg_sound | with_reducible apply State.dramPut_sound | (split; all_goals (try dsimp only)) | (simp only [sound_mk, soundC_refold]))

theorem State.ephLoadLoop_sound (s : State) (n : Nat) (hS0 : Sound s) : Sound (State.ephLoadLoop s n) := by
  unfold State.ephLoadLoop
  (try dsimp only)
  repeat' (first | with_reducible assumption | (intro) | with_reducible apply sound_foldl | with_reducible apply State.setReg_sound | with_reducible apply State.putRegs_sound | with_reducible apply State.setBin_sound)

theorem State.ephLoad_sound (s : State) (hS0 : Sound s) : Sound (State.ephLoad s) := by
  unfold State.ephLoad
  (try dsimp only)
  repeat' (first | with_reducible assumption | with_reducible apply sound_foldl | with_reducible apply State.ephLoadLoop_sound | (simp only [sound_mk, soundC_refold]))

theorem State.ephBinsOp_sound (s : State) (n : Nat) (restore : Bool) (hS0 : Sound s) : Sound (State.ephBinsOp s n restore) := by
  unfold State.ephBinsOp
  (try dsimp only)
  repeat' (first | with_reducible assumption | with_reducible apply State.setBins_sound)

theorem State.ephClearCnt_sound (s : State) (hS0 : Sound s) : Sound (State.ephClearCnt s) := by
  unfold State.ephClearCnt
  (try dsimp only)
  repeat' (first | with_reducible assumption | (intro) | with_reducible apply sound_foldl | with_reducible apply State.setReg_sound | with_reducible apply State.clearRegs_sound)

/-! ### Loops -/

theorem State.setLc_sound (s : State) (n : Nat) (c : LoopCtx) (hS0 : Sound s) : Sound (State.setLc s n c) := by
  unfold State.setLc
  (try dsimp only)
  repeat' (first | with_reducible assumption | (simp only [sound_mk, soundC_refold]))

theorem State.admitRefuse_sound (s : State) (n : Nat) (t : Nat × Nat) (hS0 : Sound s) : Sound (State.admitRefuse s n t) := by
  unfold State.admitRefuse
  (try dsimp only)
  repeat' (first | with_reducible assumption | with_reducible apply State.setBit_sound | with_reducible apply State.raise_sound)

theorem State.showLoop_sound (s : State) (n : Nat) (hS0 : Sound s) : Sound (State.showLoop s n) := by
  unfold State.showLoop
  (try dsimp only)
  repeat' (first | with_reducible assumption | with_reducible apply State.setReg_sound | with_reducible apply State.setRf_sound | with_reducible apply State.setBit_sound)

theorem State.capOrphans_sound (s : State) (g : Nat) (hS0 : Sound s) : Sound (State.capOrphans s g) := by
  unfold State.capOrphans
  (try dsimp only)
  repeat' (first | with_reducible assumption | (intro) | with_reducible apply sound_foldl | with_reducible apply State.capEnd_sound | with_reducible apply State.showLoop_sound | (split; all_goals (try dsimp only)))

theorem State.genAbort_sound (s : State) (g : Nat) (cause : Nat) (hS0 : Sound s) : Sound (State.genAbort s g cause) := by
  unfold State.genAbort
  (try dsimp only)
  repeat' (first | with_reducible assumption | with_reducible apply State.genEnd_sound | with_reducible apply State.capOrphans_sound | (split; all_goals (try dsimp only)))

theorem State.writeLoopCtl_sound (s : State) (n : Nat) (w : Word) (hS0 : Sound s) : Sound (State.writeLoopCtl s n w).2 := by
  unfold State.writeLoopCtl
  (try dsimp only)
  repeat' (first | with_reducible assumption | with_reducible apply State.setReg_sound | with_reducible apply State.setLc_sound | with_reducible apply State.admitRefuse_sound | with_reducible apply State.showLoop_sound | (split; all_goals (try dsimp only)))

theorem State.loopApply_sound (s : State) (k : Nat) (w : Word) (hS0 : Sound s) : Sound (State.loopApply s k w).2 := by
  unfold State.loopApply
  refine sound_foldl_snd _ _ _ ?_ hS0
  intro x a hx
  dsimp only
  split
  · split
    · exact State.showLoop_sound _ _ (State.setLc_sound _ _ _ hx)
    · exact hx
  · exact hx

theorem State.hostSlot_sound (s : State) (m : Nat) (w : Word) (hS0 : Sound s) : Sound (State.hostSlot s m w) := by
  unfold State.hostSlot
  (try dsimp only)
  repeat' (first | with_reducible assumption | with_reducible apply State.setReg_sound | with_reducible apply State.setBit_sound | with_reducible apply State.putSlot_sound)

theorem State.hostInv_sound (s : State) (k : Nat) (w : Word) (hS0 : Sound s) : Sound (State.hostInv s k w) := by
  unfold State.hostInv
  (try dsimp only)
  repeat' (first | with_reducible assumption | (intro) | with_reducible apply sound_foldl | with_reducible apply State.setReg_sound | with_reducible apply State.setCond_sound | (split; all_goals (try dsimp only)))

theorem State.writeEphCtl_sound (s : State) (n : Nat) (w : Word) (hS0 : Sound s) : Sound (State.writeEphCtl s n w).2 := by
  unfold State.writeEphCtl
  (try dsimp only)
  repeat' (first | with_reducible assumption | with_reducible apply State.setReg_sound | with_reducible apply State.setBins_sound | with_reducible apply State.admitRefuse_sound | with_reducible apply State.showLoop_sound | (split; all_goals (try dsimp only)))

theorem State.injArm_sound (s : State) (g : Nat) (hS0 : Sound s) : Sound (State.injArm s g).2 := by
  unfold State.injArm
  (try dsimp only)
  repeat' (first | with_reducible assumption | with_reducible apply State.setReg_sound | with_reducible apply State.setBit_sound | with_reducible apply State.setGen_sound | with_reducible apply State.admitRefuse_sound | with_reducible apply State.showLoop_sound | (split; all_goals (try dsimp only)))

theorem State.injAbort_sound (s : State) (g : Nat) (hS0 : Sound s) : Sound (State.injAbort s g) := by
  unfold State.injAbort
  (try dsimp only)
  repeat' (first | with_reducible assumption | with_reducible apply State.showLoop_sound | with_reducible apply State.genAbort_sound | (split; all_goals (try dsimp only)))

theorem State.injEnd_sound (s : State) (g : Nat) (hS0 : Sound s) : Sound (State.injEnd s g) := by
  unfold State.injEnd
  (try dsimp only)
  repeat' (first | with_reducible assumption | with_reducible apply State.genEnd_sound | with_reducible apply State.showLoop_sound | (split; all_goals (try dsimp only)))

theorem State.capArm_sound (s : State) (c : Nat) (hS0 : Sound s) : Sound (State.capArm s c).2 := by
  unfold State.capArm
  (try dsimp only)
  repeat' (first | with_reducible assumption | with_reducible apply State.setReg_sound | with_reducible apply State.setBit_sound | with_reducible apply State.setChan_sound | with_reducible apply State.admitRefuse_sound | with_reducible apply State.showLoop_sound | (split; all_goals (try dsimp only)))

theorem State.capStop_sound (s : State) (c : Nat) (hS0 : Sound s) : Sound (State.capStop s c) := by
  unfold State.capStop
  (try dsimp only)
  repeat' (first | with_reducible assumption | with_reducible apply State.capEnd_sound | with_reducible apply State.showLoop_sound | (split; all_goals (try dsimp only)))

theorem State.capDone_sound (s : State) (c : Nat) (hS0 : Sound s) : Sound (State.capDone s c) := by
  unfold State.capDone
  (try dsimp only)
  repeat' (first | with_reducible assumption | with_reducible apply State.capEnd_sound | with_reducible apply State.showLoop_sound | (split; all_goals (try dsimp only)))

theorem State.nextBeat_sound (s : State) (hS0 : Sound s) : Sound (State.nextBeat s).2 := by
  unfold State.nextBeat
  (try dsimp only)
  repeat' (first | with_reducible assumption | with_reducible apply State.reachNt_sound | with_reducible apply State.reachTick_sound | (split; all_goals (try dsimp only)))

theorem State.monitor_sound (s : State) (n : Nat) (hS0 : Sound s) : Sound (State.monitor s n) := by
  unfold State.monitor
  (try dsimp only)
  repeat' (first | with_reducible assumption | with_reducible apply State.draw_sound | with_reducible apply State.putSlot_sound)

theorem State.monitors_sound (s : State) (hS0 : Sound s) : Sound (State.monitors s) := by
  unfold State.monitors
  (try dsimp only)
  repeat' (first | with_reducible assumption | with_reducible apply sound_foldl | with_reducible apply State.monitor_sound)

theorem State.beat_sound (s0 : State) (hS0 : Sound s0) : Sound (State.beat s0) := by
  unfold State.beat
  (try dsimp only)
  repeat' (first | with_reducible assumption | (intro) | with_reducible apply sound_foldl | with_reducible apply State.setReg_sound | with_reducible apply State.encLatch_sound | with_reducible apply State.nextBeat_sound | with_reducible apply State.monitors_sound | (split; all_goals (try dsimp only)) | (simp only [sound_mk, soundC_refold]))

theorem State.fallback_sound (s : State) (n : Nat) (cause : Nat) (hS0 : Sound s) : Sound (State.fallback s n cause) := by
  unfold State.fallback
  (try dsimp only)
  repeat' (first | with_reducible assumption | with_reducible apply State.setReg_sound | with_reducible apply State.setRf_sound | with_reducible apply State.setBit_sound | with_reducible apply State.raise_sound | with_reducible apply State.setLc_sound | with_reducible apply State.showLoop_sound | with_reducible apply State.genAbort_sound | (split; all_goals (try dsimp only)))

theorem State.showPhase_sound (s : State) (n : Nat) (r : LoopRun) (hS0 : Sound s) : Sound (State.showPhase s n r) := by
  unfold State.showPhase
  (try dsimp only)
  repeat' (first | with_reducible assumption | with_reducible apply State.setReg_sound | with_reducible apply State.setRf_sound | with_reducible apply State.setBit_sound | with_reducible apply State.episode_sound | (split; all_goals (try dsimp only)))

theorem State.genMode_sound (s : State) (n : Nat) (mode : Nat) (hS0 : Sound s) : Sound (State.genMode s n mode) := by
  unfold State.genMode
  (try dsimp only)
  repeat' (first | with_reducible assumption | with_reducible apply State.showLoop_sound | with_reducible apply State.genAbort_sound | (split; all_goals (try dsimp only)))

theorem State.pendFall_sound (s : State) (n : Nat) (hS0 : Sound s) : Sound (State.pendFall s n) := by
  unfold State.pendFall
  (try dsimp only)
  repeat' (first | with_reducible assumption | with_reducible apply State.fallback_sound | (split; all_goals (try dsimp only)))

theorem State.loopBegin_sound (s : State) (n : Nat) (retries : Nat) (hS0 : Sound s) : Sound (State.loopBegin s n retries) := by
  unfold State.loopBegin
  extract_lets s0 s1 s2 k s3 mode inj s4 k4 finish r s5
  have h0 : Sound s0 := State.setReg_sound _ _ _ hS0
  clear_value s0
  have h1 : Sound s1 := State.pendFall_sound _ _ h0
  clear_value s1
  have h2 : Sound s2 := sound_ite _ _ _ h1 (State.genMode_sound _ _ _ h1)
  clear_value s2
  have h3 : Sound s3 := by
    apply sound_ite
    · exact h2
    · exact sound_ite _ _ _ (State.fallback_sound _ _ _ h2) (sound_ite _ _ _ (State.fallback_sound _ _ _ h2) h2)
  clear_value s3
  have h4 : Sound s4 := State.genTurn_sound _ _ h3
  clear_value s4
  have h5 : Sound s5 := State.showPhase_sound _ _ _ h4
  clear_value s5
  exact sound_ite _ _ _ h3 h5

theorem State.loopExec_sound (s : State) (retries : Nat) (hS0 : Sound s) : Sound (State.loopExec s retries) := by
  unfold State.loopExec
  (try dsimp only)
  repeat' (first | with_reducible assumption | with_reducible apply State.reachTick_sound | with_reducible apply State.loopBegin_sound | (split; all_goals (try dsimp only)) | (simp only [sound_mk, soundC_refold]))

theorem State.loopSinks_sound (s : State) (n : Nat) (hS0 : Sound s) : Sound (State.loopSinks s n) := by
  unfold State.loopSinks
  (try dsimp only)
  repeat' (first | with_reducible assumption | (intro) | with_reducible apply sound_foldl | with_reducible apply State.aoUpdate_sound | with_reducible apply State.doUpdate_sound | with_reducible apply State.fanSink_sound | (split; all_goals (try dsimp only)))

theorem State.staleSlot_sound (s : State) (n : Nat) (hS0 : Sound s) : Sound (State.staleSlot s n) := by
  unfold State.staleSlot
  (try dsimp only)
  repeat' (first | with_reducible assumption | with_reducible apply State.putSlot_sound)

theorem State.showOut_sound (s : State) (n : Nat) (hS0 : Sound s) : Sound (State.showOut s n) := by
  unfold State.showOut
  (try dsimp only)
  repeat' (first | with_reducible assumption | with_reducible apply State.setReg_sound)

theorem State.manTrack_sound (s : State) (n : Nat) (mode : Nat) (on : Bool) (hS0 : Sound s) : Sound (State.manTrack s n mode on) := by
  unfold State.manTrack
  (try dsimp only)
  repeat' (first | with_reducible assumption | with_reducible apply State.setReg_sound | (split; all_goals (try dsimp only)))

theorem State.capTurn_sound (s : State) (n : Nat) (r : Option LoopRun) (learned : Bool) (hS0 : Sound s) : Sound (State.capTurn s n r learned) := by
  unfold State.capTurn
  (try dsimp only)
  repeat' (first | with_reducible assumption | with_reducible apply State.setReg_sound | with_reducible apply State.setBit_sound | with_reducible apply State.setChan_sound | with_reducible apply State.capMiss_sound | with_reducible apply State.capPush_sound | (split; all_goals (try dsimp only)))

theorem State.loopCommit_sound (s : State) (r : LoopRun) (hS0 : Sound s) : Sound (State.loopCommit s r) := by
  unfold State.loopCommit
  (try dsimp only)
  repeat' (first | with_reducible assumption | with_reducible apply State.setReg_sound | with_reducible apply State.setRf_sound | with_reducible apply State.setBit_sound | with_reducible apply State.count_sound | with_reducible apply State.putSlot_sound | with_reducible apply State.putVal_sound | with_reducible apply State.setLc_sound | with_reducible apply State.loopSinks_sound | with_reducible apply State.staleSlot_sound | with_reducible apply State.showOut_sound | with_reducible apply State.manTrack_sound | with_reducible apply State.capTurn_sound | (split; all_goals (try dsimp only)))

theorem State.loopOverrun_sound (s : State) (n : Nat) (hS0 : Sound s) : Sound (State.loopOverrun s n) := by
  unfold State.loopOverrun
  (try dsimp only)
  repeat' (first | with_reducible assumption | with_reducible apply State.setRf_sound | with_reducible apply State.setBit_sound | with_reducible apply State.raise_sound | with_reducible apply State.setLc_sound | with_reducible apply State.loopSinks_sound | with_reducible apply State.staleSlot_sound | with_reducible apply State.capTurn_sound | (split; all_goals (try dsimp only)))

theorem State.loopOff_sound (s : State) (n : Nat) (hS0 : Sound s) : Sound (State.loopOff s n) := by
  unfold State.loopOff
  (try dsimp only)
  repeat' (first | with_reducible assumption | with_reducible apply State.setBit_sound | with_reducible apply State.putSlot_sound | with_reducible apply State.putVal_sound | with_reducible apply State.setLc_sound | with_reducible apply State.genMode_sound | with_reducible apply State.loopSinks_sound | with_reducible apply State.showOut_sound | with_reducible apply State.manTrack_sound | (split; all_goals (try dsimp only)))

theorem State.loopOutput_sound (s : State) (hS0 : Sound s) : Sound (State.loopOutput s) := by
  unfold State.loopOutput
  split
  · exact hS0
  · extract_lets s1 s1' _ s2
    have hx : Sound s1' := State.learnSettle_sound _ _ (State.reachNt_sound _ _ hS0)
    have h2 : Sound s2 := hx
    clear_value s2
    split
    · split
      · exact State.loopCommit_sound _ _ h2
      · exact State.loopOverrun_sound _ _ (State.binsEnd_sound _ _ h2)
    · split
      · exact State.loopOverrun_sound _ _ (State.genTurn_sound _ _ h2)
      · exact State.loopOff_sound _ _ h2

theorem State.ioUpdate_sound (s : State) (hS0 : Sound s) : Sound (State.ioUpdate s) := by
  unfold State.ioUpdate
  (try dsimp only)
  repeat' (first | with_reducible assumption | (intro) | with_reducible apply sound_foldl | with_reducible apply State.reachNt_sound | with_reducible apply State.aoUpdate_sound | with_reducible apply State.doUpdate_sound | with_reducible apply State.fanSink_sound | (split; all_goals (try dsimp only)) | (simp only [sound_mk, soundC_refold]))

theorem State.propSet_sound (s : State) (hS0 : Sound s) : Sound (State.propSet s) := by
  unfold State.propSet
  (try dsimp only)
  repeat' (first | with_reducible assumption | with_reducible apply State.reachNt_sound | with_reducible apply State.propUpdate_sound | (split; all_goals (try dsimp only)) | (simp only [sound_mk, soundC_refold]))

theorem State.loopLoadOne_sound (s : State) (n : Nat) (hS0 : Sound s) : Sound (State.loopLoadOne s n) := by
  unfold State.loopLoadOne
  (try dsimp only)
  repeat' (first | with_reducible assumption | (intro) | with_reducible apply sound_foldl | with_reducible apply State.setReg_sound | with_reducible apply State.putRegs_sound | with_reducible apply State.putSlot_sound | with_reducible apply State.putVal_sound | with_reducible apply State.setLc_sound | with_reducible apply State.showOut_sound | (split; all_goals (try dsimp only)))

theorem State.loopAdmitLoad_sound (s : State) (n : Nat) (hS0 : Sound s) : Sound (State.loopAdmitLoad s n) := by
  unfold State.loopAdmitLoad
  (try dsimp only)
  repeat' (first | with_reducible assumption | with_reducible apply State.setRf_sound | with_reducible apply State.admitRefuse_sound | with_reducible apply State.showLoop_sound | (split; all_goals (try dsimp only)))

theorem State.hostSlotsReset_sound (s : State) (hS0 : Sound s) : Sound (State.hostSlotsReset s) := by
  unfold State.hostSlotsReset
  (try dsimp only)
  repeat' (first | with_reducible assumption | (intro) | with_reducible apply sound_foldl | with_reducible apply State.setReg_sound | with_reducible apply State.putSlot_sound)

theorem State.loopLoad_sound (s : State) (hS0 : Sound s) : Sound (State.loopLoad s) := by
  unfold State.loopLoad
  (try dsimp only)
  repeat' (first | with_reducible assumption | with_reducible apply sound_foldl | with_reducible apply State.ephLoad_sound | with_reducible apply State.loopLoadOne_sound | with_reducible apply State.loopAdmitLoad_sound | with_reducible apply State.hostSlotsReset_sound | (simp only [sound_mk, soundC_refold]))

theorem State.loopClear_sound (s : State) (hS0 : Sound s) : Sound (State.loopClear s) := by
  unfold State.loopClear
  (try dsimp only)
  repeat' (first | with_reducible assumption | (intro) | with_reducible apply sound_foldl | with_reducible apply State.setRf_sound)

/-! ### FrontEnd -/

theorem State.setAc_sound (s : State) (k : Nat) (c : AfeCh) (hS0 : Sound s) : Sound (State.setAc s k c) := by
  unfold State.setAc
  (try dsimp only)
  repeat' (first | with_reducible assumption | (simp only [sound_mk, soundC_refold]))

theorem State.putAfe_sound (s : State) (k : Nat) (v : Word) (tag : Byte) (hS0 : Sound s) : Sound (State.putAfe s k v tag) := by
  unfold State.putAfe
  (try dsimp only)
  repeat' (first | with_reducible assumption | with_reducible apply State.setRf_sound | with_reducible apply State.putSlot_sound)

theorem State.afeInvalid_sound (s : State) (k : Nat) (hS0 : Sound s) : Sound (State.afeInvalid s k) := by
  unfold State.afeInvalid
  (try dsimp only)
  repeat' (first | with_reducible assumption | with_reducible apply State.putAfe_sound)

theorem State.showSupp_sound (s : State) (k : Nat) (hS0 : Sound s) : Sound (State.showSupp s k) := by
  unfold State.showSupp
  (try dsimp only)
  repeat' (first | with_reducible assumption | with_reducible apply State.setBit_sound)

theorem State.afeFlush_sound (s : State) (k : Nat) (hS0 : Sound s) : Sound (State.afeFlush s k) := by
  unfold State.afeFlush
  (try dsimp only)
  repeat' (first | with_reducible assumption | with_reducible apply State.setAc_sound)

theorem State.afeRestart_sound (s : State) (k : Nat) (hS0 : Sound s) : Sound (State.afeRestart s k) := by
  unfold State.afeRestart
  (try dsimp only)
  repeat' (first | with_reducible assumption | with_reducible apply State.setAc_sound | with_reducible apply State.afeInvalid_sound | with_reducible apply State.showSupp_sound)

theorem State.rangeOne_sound (s : State) (n : Nat) (k : Nat) (ms : List Int) (sat0 : Bool) (hS0 : Sound s) : Sound (State.rangeOne s n k ms sat0) := by
  unfold State.rangeOne
  (try dsimp only)
  repeat' (first | with_reducible assumption | with_reducible apply State.count_sound | with_reducible apply State.setAc_sound | (split; all_goals (try dsimp only)))

theorem State.rangeSample_sound (s : State) (xs : List (List Int × Bool)) (hS0 : Sound s) : Sound (State.rangeSample s xs) := by
  unfold State.rangeSample
  (try dsimp only)
  repeat' (first | with_reducible assumption | (intro) | with_reducible apply sound_foldl | with_reducible apply State.rangeOne_sound | (simp only [sound_mk, soundC_refold]))

theorem State.afeEmit_sound (s : State) (k : Nat) (w : AfeWin) (low : Bool) (hS0 : Sound s) : Sound (State.afeEmit s k w low) := by
  unfold State.afeEmit
  (try dsimp only)
  repeat' (first | with_reducible assumption | with_reducible apply sound_ite | with_reducible apply State.setReg_sound | with_reducible apply State.count_sound | with_reducible apply State.raise_sound | with_reducible apply State.episode_sound | with_reducible apply State.setAc_sound | with_reducible apply State.putAfe_sound)

theorem State.outputSample_sound (s : State) (k : Nat) (low : Bool) (hS0 : Sound s) : Sound (State.outputSample s k low) := by
  unfold State.outputSample
  (try dsimp only)
  repeat' (first | with_reducible assumption | with_reducible apply State.setAc_sound | with_reducible apply State.afeInvalid_sound | with_reducible apply State.afeEmit_sound | (split; all_goals (try dsimp only)))

theorem State.suppress_sound (s : State) (k : Nat) (hS0 : Sound s) : Sound (State.suppress s k) := by
  unfold State.suppress
  (try dsimp only)
  repeat' (first | with_reducible assumption | with_reducible apply State.setAc_sound | with_reducible apply State.putAfe_sound | with_reducible apply State.showSupp_sound | with_reducible apply State.afeFlush_sound | (split; all_goals (try dsimp only)))

theorem State.measureExc_sound (s : State) (j : Nat) (hS0 : Sound s) : Sound (State.measureExc s j) := by
  unfold State.measureExc
  (try dsimp only)
  repeat' (first | with_reducible assumption | with_reducible apply State.setRf_sound | with_reducible apply State.draw_sound | (split; all_goals (try dsimp only)))

theorem State.excChange_sound (s : State) (j : Nat) (hS0 : Sound s) : Sound (State.excChange s j) := by
  unfold State.excChange
  (try dsimp only)
  repeat' (first | with_reducible assumption | with_reducible apply State.afeInvalid_sound | with_reducible apply State.suppress_sound | with_reducible apply State.measureExc_sound | (split; all_goals (try dsimp only)))

theorem State.writeExc_sound (s : State) (j : Nat) (w : Word) (hS0 : Sound s) : Sound (State.writeExc s j w).2 := by
  unfold State.writeExc
  (try dsimp only)
  repeat' (first | with_reducible assumption | with_reducible apply State.setRf_sound | with_reducible apply State.excChange_sound | (split; all_goals (try dsimp only)))

theorem State.suppressionEnd_sound (s : State) (k : Nat) (hS0 : Sound s) : Sound (State.suppressionEnd s k) := by
  unfold State.suppressionEnd
  (try dsimp only)
  repeat' (first | with_reducible assumption | with_reducible apply State.reachTick_sound | with_reducible apply State.setAc_sound | with_reducible apply State.showSupp_sound | (split; all_goals (try dsimp only)))

theorem State.excFault_sound (s : State) (j : Nat) (q : Nat) (hS0 : Sound s) : Sound (State.excFault s j q) := by
  unfold State.excFault
  (try dsimp only)
  repeat' (first | with_reducible assumption | with_reducible apply State.setBit_sound | with_reducible apply State.raise_sound | with_reducible apply State.excChange_sound | (split; all_goals (try dsimp only)) | (simp only [sound_mk, soundC_refold]))

theorem State.excRestart_sound (s : State) (j : Nat) (hS0 : Sound s) : Sound (State.excRestart s j) := by
  unfold State.excRestart
  (try dsimp only)
  repeat' (first | with_reducible assumption | with_reducible apply State.reachTick_sound | with_reducible apply State.excChange_sound | (split; all_goals (try dsimp only)) | (simp only [sound_mk, soundC_refold]))

theorem State.excFaultClear_sound (s : State) (j : Nat) (hS0 : Sound s) : Sound (State.excFaultClear s j) := by
  unfold State.excFaultClear
  (try dsimp only)
  repeat' (first | with_reducible assumption | with_reducible apply State.setBit_sound | with_reducible apply State.reachTick_sound | (split; all_goals (try dsimp only)) | (simp only [sound_mk, soundC_refold]))

theorem State.writeChenAfe_sound (s : State) (w : Word) (hS0 : Sound s) : Sound (State.writeChenAfe s w) := by
  unfold State.writeChenAfe
  (try dsimp only)
  repeat' (first | with_reducible assumption | (intro) | with_reducible apply sound_foldl | with_reducible apply State.setReg_sound | with_reducible apply State.setAc_sound | with_reducible apply State.afeInvalid_sound | with_reducible apply State.showSupp_sound | with_reducible apply State.afeRestart_sound | (split; all_goals (try dsimp only)))

theorem State.afeLoad_sound (s : State) (hS0 : Sound s) : Sound (State.afeLoad s) := by
  unfold State.afeLoad
  (try dsimp only)
  repeat' (first | with_reducible assumption | (intro) | with_reducible apply sound_foldl | with_reducible apply State.setReg_sound | with_reducible apply State.setRf_sound | with_reducible apply State.setBit_sound | with_reducible apply State.afeRestart_sound | with_reducible apply State.excChange_sound | (split; all_goals (try dsimp only)))

theorem State.excAllOff_sound (s : State) (hS0 : Sound s) : Sound (State.excAllOff s) := by
  unfold State.excAllOff
  (try dsimp only)
  repeat' (first | with_reducible assumption | (intro) | with_reducible apply sound_foldl | with_reducible apply State.afeInvalid_sound | with_reducible apply State.measureExc_sound | (split; all_goals (try dsimp only)) | (simp only [sound_mk, soundC_refold]))

theorem State.afeClear_sound (s : State) (hS0 : Sound s) : Sound (State.afeClear s) := by
  unfold State.afeClear
  (try dsimp only)
  repeat' (first | with_reducible assumption | with_reducible apply State.clearRegs_sound)

/-! ### Can -/

theorem State.setCan_sound (s : State) (x : Nat) (c : Can) (hS0 : Sound s) : Sound (State.setCan s x c) := by
  unfold State.setCan
  (try dsimp only)
  repeat' (first | with_reducible assumption | (split; all_goals (try dsimp only)) | (simp only [sound_mk, soundC_refold]))

theorem State.writeTsdiv_sound (s : State) (x : Nat) (w : Word) (hS0 : Sound s) : Sound (State.writeTsdiv s x w) := by
  unfold State.writeTsdiv
  (try dsimp only)
  repeat' (first | with_reducible assumption | with_reducible apply State.setReg_sound | with_reducible apply State.setCan_sound)

theorem State.showCan_sound (s : State) (x : Nat) (hS0 : Sound s) : Sound (State.showCan s x) := by
  unfold State.showCan
  (try dsimp only)
  repeat' (first | with_reducible assumption | with_reducible apply State.setRf_sound | with_reducible apply State.setBit_sound)

theorem State.canErr_sound (s : State) (x : Nat) (tec : Nat) (rec : Nat) (hS0 : Sound s) : Sound (State.canErr s x tec rec) := by
  unfold State.canErr
  (try dsimp only)
  repeat' (first | with_reducible assumption | with_reducible apply State.setReg_sound | with_reducible apply State.setRf_sound | with_reducible apply State.count_sound | with_reducible apply State.raise_sound | with_reducible apply State.setCan_sound | (split; all_goals (try dsimp only)))

theorem State.canProto_sound (s : State) (x : Nat) (code : Nat) (hS0 : Sound s) : Sound (State.canProto s x code) := by
  unfold State.canProto
  (try dsimp only)
  repeat' (first | with_reducible assumption | with_reducible apply State.setRf_sound | with_reducible apply State.episode_sound)

theorem State.canProtoError_sound (s : State) (x : Nat) (code : Nat) (eights : Nat) (hS0 : Sound s) : Sound (State.canProtoError s x code eights) := by
  unfold State.canProtoError
  (try dsimp only)
  repeat' (first | with_reducible assumption | with_reducible apply State.canErr_sound | with_reducible apply State.canProto_sound | (split; all_goals (try dsimp only)))

theorem State.canStore_sound (s : State) (x : Nat) (k : Nat) (f : CanRx) (elem : Nat) (tag : Nat) (hS0 : Sound s) : Sound (State.canStore s x k f elem tag) := by
  unfold State.canStore
  (try dsimp only)
  repeat' (first | with_reducible assumption | with_reducible apply State.setRf_sound | with_reducible apply State.setBit_sound | with_reducible apply State.count_sound | with_reducible apply State.episode_sound | with_reducible apply State.setCan_sound | with_reducible apply State.showCan_sound | (split; all_goals (try dsimp only)))

theorem State.canRelease_sound (s : State) (x : Nat) (k : Nat) (n : Nat) (hS0 : Sound s) : Sound (State.canRelease s x k n).2 := by
  unfold State.canRelease
  (try dsimp only)
  repeat' (first | with_reducible assumption | with_reducible apply State.setRf_sound | with_reducible apply State.setCan_sound | with_reducible apply State.showCan_sound | (split; all_goals (try dsimp only)))

theorem State.canDecode_sound (s : State) (x : Nat) (elem : Nat) (bs : List Byte) (hS0 : Sound s) : Sound (State.canDecode s x elem bs) := by
  unfold State.canDecode
  extract_lets r
  have h1 : Sound r.1 := by
    refine sound_foldl_fst _ _ _ ?_ hS0
    intro x a hx
    dsimp only
    split
    · split
      · with_reducible apply State.setCan_sound
        with_reducible exact State.putVal_sound _ _ _ hx
      · with_reducible exact hx
    · with_reducible exact hx
  split
  · with_reducible exact State.count_sound _ _ h1
  · with_reducible exact h1

theorem State.canDecTmo_sound (s : State) (x : Nat) (e : Nat) (hS0 : Sound s) : Sound (State.canDecTmo s x e) := by
  unfold State.canDecTmo
  (try dsimp only)
  repeat' (first | with_reducible assumption | with_reducible apply State.reachTick_sound | with_reducible apply State.episode_sound | with_reducible apply State.setCond_sound | with_reducible apply State.setCan_sound | (split; all_goals (try dsimp only)))

theorem State.canFilter_sound (s : State) (x : Nat) (f : CanRx) (hS0 : Sound s) : Sound (State.canFilter s x f) := by
  unfold State.canFilter
  (try dsimp only)
  repeat' (first | with_reducible assumption | with_reducible apply State.count_sound | with_reducible apply State.draw_sound | with_reducible apply State.canStore_sound | with_reducible apply State.canDecode_sound | (split; all_goals (try dsimp only)))

theorem State.canRxGood_sound (s : State) (x : Nat) (hS0 : Sound s) : Sound (State.canRxGood s x) := by
  unfold State.canRxGood
  (try dsimp only)
  repeat' (first | with_reducible assumption | with_reducible apply State.draw_sound | with_reducible apply State.canErr_sound | (split; all_goals (try dsimp only)))

theorem State.canRxFrame_sound (s : State) (x : Nat) (f : CanRx) (hS0 : Sound s) : Sound (State.canRxFrame s x f) := by
  unfold State.canRxFrame
  (try dsimp only)
  repeat' (first | with_reducible assumption | with_reducible apply State.canProtoError_sound | with_reducible apply State.canFilter_sound | with_reducible apply State.canRxGood_sound | (split; all_goals (try dsimp only)))

theorem State.canPush_sound (s : State) (x : Nat) (hS0 : Sound s) : Sound (State.canPush s x).2 := by
  unfold State.canPush
  (try dsimp only)
  repeat' (first | with_reducible assumption | with_reducible apply State.setCan_sound | with_reducible apply State.showCan_sound | (split; all_goals (try dsimp only)))

theorem State.canRemoved_sound (s : State) (x : Nat) (hS0 : Sound s) : Sound (State.canRemoved s x) := by
  unfold State.canRemoved
  (try dsimp only)
  repeat' (first | with_reducible assumption | with_reducible apply State.setBit_sound | with_reducible apply State.count_sound)

theorem State.canAbortHead_sound (s : State) (x : Nat) (hS0 : Sound s) : Sound (State.canAbortHead s x) := by
  unfold State.canAbortHead
  (try dsimp only)
  repeat' (first | with_reducible assumption | with_reducible apply State.setCan_sound | with_reducible apply State.showCan_sound | with_reducible apply State.canRemoved_sound | (split; all_goals (try dsimp only)))

theorem State.canFlush_sound (s : State) (x : Nat) (hS0 : Sound s) : Sound (State.canFlush s x) := by
  unfold State.canFlush
  (try dsimp only)
  repeat' (first | with_reducible assumption | (intro) | with_reducible apply sound_foldl | with_reducible apply State.setCan_sound | with_reducible apply State.showCan_sound | with_reducible apply State.canRemoved_sound | with_reducible apply State.canAbortHead_sound | (split; all_goals (try dsimp only)))

theorem State.setTt_sound (s : State) (x : Nat) (b : Nat) (n : Nat) (hS0 : Sound s) : Sound (State.setTt s x b n) := by
  unfold State.setTt
  (try dsimp only)
  repeat' (first | with_reducible assumption | with_reducible apply State.setRf_sound)

theorem State.canTtArm_sound (s : State) (x : Nat) (b : Nat) (hS0 : Sound s) : Sound (State.canTtArm s x b).2 := by
  unfold State.canTtArm
  (try dsimp only)
  repeat' (first | with_reducible assumption | with_reducible apply State.setCan_sound | with_reducible apply State.setTt_sound | (split; all_goals (try dsimp only)))

theorem State.canTtInstant_sound (s : State) (x : Nat) (b : Nat) (hS0 : Sound s) : Sound (State.canTtInstant s x b) := by
  unfold State.canTtInstant
  (try dsimp only)
  repeat' (first | with_reducible assumption | with_reducible apply State.reachNt_sound | with_reducible apply State.setTt_sound | (split; all_goals (try dsimp only)))

theorem State.canTtCancel_sound (s : State) (x : Nat) (b : Nat) (hS0 : Sound s) : Sound (State.canTtCancel s x b) := by
  unfold State.canTtCancel
  (try dsimp only)
  repeat' (first | with_reducible assumption | with_reducible apply State.setCan_sound | with_reducible apply State.setTt_sound | (split; all_goals (try dsimp only)))

theorem State.canTtLate_sound (s : State) (x : Nat) (b : Nat) (hS0 : Sound s) : Sound (State.canTtLate s x b) := by
  unfold State.canTtLate
  (try dsimp only)
  repeat' (first | with_reducible assumption | with_reducible apply State.setBit_sound | with_reducible apply State.raise_sound | with_reducible apply State.setTt_sound | (split; all_goals (try dsimp only)))

theorem State.canTakeMode_sound (s : State) (x : Nat) (hS0 : Sound s) : Sound (State.canTakeMode s x) := by
  unfold State.canTakeMode
  (try dsimp only)
  repeat' (first | with_reducible assumption | with_reducible apply State.setBit_sound | with_reducible apply State.setCan_sound | (split; all_goals (try dsimp only)))

theorem State.canAttempt_sound (s0 : State) (x : Nat) (hS0 : Sound s0) : Sound (State.canAttempt s0 x) := by
  unfold State.canAttempt
  (try dsimp only)
  repeat' (first | with_reducible assumption | (intro) | with_reducible apply sound_foldl | with_reducible apply State.setCan_sound | with_reducible apply State.showCan_sound | with_reducible apply State.setTt_sound | with_reducible apply State.canTtLate_sound | with_reducible apply State.canTakeMode_sound | (split; all_goals (try dsimp only)))

theorem State.canShowDly_sound (s : State) (x : Nat) (f : CanFrame) (e : CanEnd) (hS0 : Sound s) : Sound (State.canShowDly s x f e) := by
  unfold State.canShowDly
  (try dsimp only)
  repeat' (first | with_reducible assumption | with_reducible apply State.setRf_sound | (split; all_goals (try dsimp only)))

theorem State.canSent_sound (s : State) (x : Nat) (t : CanTx) (hS0 : Sound s) : Sound (State.canSent s x t) := by
  unfold State.canSent
  (try dsimp only)
  repeat' (first | with_reducible assumption | with_reducible apply State.setBit_sound | with_reducible apply State.count_sound | with_reducible apply State.closeEp_sound | with_reducible apply State.setCan_sound | with_reducible apply State.showCan_sound | with_reducible apply State.canErr_sound | with_reducible apply State.canFilter_sound | with_reducible apply State.setTt_sound | (split; all_goals (try dsimp only)))

theorem State.canFailed_sound (s : State) (x : Nat) (t : CanTx) (hS0 : Sound s) : Sound (State.canFailed s x t) := by
  unfold State.canFailed
  (try dsimp only)
  repeat' (first | with_reducible assumption | with_reducible apply State.count_sound | with_reducible apply State.setCan_sound | with_reducible apply State.showCan_sound | with_reducible apply State.canRemoved_sound | with_reducible apply State.setTt_sound | (split; all_goals (try dsimp only)))

theorem State.canRecover_sound (s : State) (x : Nat) (hS0 : Sound s) : Sound (State.canRecover s x) := by
  unfold State.canRecover
  (try dsimp only)
  repeat' (first | with_reducible assumption | with_reducible apply State.setCan_sound | (split; all_goals (try dsimp only)))

theorem State.canRecovered_sound (s : State) (x : Nat) (hS0 : Sound s) : Sound (State.canRecovered s x) := by
  unfold State.canRecovered
  (try dsimp only)
  repeat' (first | with_reducible assumption | with_reducible apply State.setCan_sound | with_reducible apply State.canErr_sound | (split; all_goals (try dsimp only)))

theorem State.canClear_sound (s : State) (x : Nat) (hS0 : Sound s) : Sound (State.canClear s x) := by
  unfold State.canClear
  (try dsimp only)
  repeat' (first | with_reducible assumption | with_reducible apply State.clearRegs_sound)

theorem State.canReqMode_sound (s : State) (x : Nat) (m : Nat) (hS0 : Sound s) : Sound (State.canReqMode s x m) := by
  unfold State.canReqMode
  (try dsimp only)
  repeat' (first | with_reducible assumption | with_reducible apply State.setRf_sound | with_reducible apply State.setBit_sound | with_reducible apply State.setCan_sound | (split; all_goals (try dsimp only)))

theorem State.writeCanCtl_sound (s : State) (x : Nat) (w : Word) (hS0 : Sound s) : Sound (State.writeCanCtl s x w).2 := by
  unfold State.writeCanCtl
  (try dsimp only)
  repeat' (first | with_reducible assumption | with_reducible apply State.setBit_sound | with_reducible apply State.canRecover_sound | with_reducible apply State.canClear_sound | with_reducible apply State.canReqMode_sound | (split; all_goals (try dsimp only)))

theorem State.canModeEffect_sound (s : State) (x : Nat) (hS0 : Sound s) : Sound (State.canModeEffect s x) := by
  unfold State.canModeEffect
  (try dsimp only)
  repeat' (first | with_reducible assumption | with_reducible apply State.setBit_sound | with_reducible apply State.canTakeMode_sound | (split; all_goals (try dsimp only)))

theorem State.canStop_sound (s : State) (x : Nat) (hS0 : Sound s) : Sound (State.canStop s x) := by
  unfold State.canStop
  (try dsimp only)
  repeat' (first | with_reducible assumption | (intro) | with_reducible apply sound_foldl | with_reducible apply State.setRf_sound | with_reducible apply State.setBit_sound | with_reducible apply State.setCan_sound | with_reducible apply State.showCan_sound | with_reducible apply State.setTt_sound)

theorem State.canSlots_sound (s : State) (x : Nat) (hS0 : Sound s) : Sound (State.canSlots s x) := by
  unfold State.canSlots
  (try dsimp only)
  repeat' (first | with_reducible assumption | (intro) | with_reducible apply sound_foldl | with_reducible apply State.putSlot_sound | with_reducible apply State.setCan_sound)

theorem State.canReload_sound (s : State) (x : Nat) (hS0 : Sound s) : Sound (State.canReload s x) := by
  unfold State.canReload
  (try dsimp only)
  repeat' (first | with_reducible assumption | with_reducible apply State.setReg_sound | with_reducible apply State.setBit_sound | with_reducible apply State.putRegs_sound | with_reducible apply State.writeTsdiv_sound | with_reducible apply State.canReqMode_sound | with_reducible apply State.canStop_sound | (split; all_goals (try dsimp only)))

theorem State.canLoadOne_sound (s : State) (x : Nat) (hS0 : Sound s) : Sound (State.canLoadOne s x) := by
  unfold State.canLoadOne
  (try dsimp only)
  repeat' (first | with_reducible assumption | with_reducible apply State.setCan_sound | with_reducible apply State.canSlots_sound | with_reducible apply State.canReload_sound | (split; all_goals (try dsimp only)))

theorem State.canLoad_sound (s : State) (hS0 : Sound s) : Sound (State.canLoad s) := by
  unfold State.canLoad
  (try dsimp only)
  repeat' (first | with_reducible assumption | with_reducible apply State.canLoadOne_sound)

theorem State.canTxDone_sound (s : State) (x : Nat) (e0 : CanEnd) (hS0 : Sound s) : Sound (State.canTxDone s x e0) := by
  unfold State.canTxDone
  (try dsimp only)
  repeat' (first | with_reducible assumption | with_reducible apply State.episode_sound | with_reducible apply State.canErr_sound | with_reducible apply State.canProto_sound | with_reducible apply State.canShowDly_sound | with_reducible apply State.canSent_sound | with_reducible apply State.canFailed_sound | (split; all_goals (try dsimp only)))

theorem State.canTxEnd_sound (s : State) (x : Nat) (e : CanEnd) (hS0 : Sound s) : Sound (State.canTxEnd s x e) := by
  unfold State.canTxEnd
  (try dsimp only)
  repeat' (first | with_reducible assumption | with_reducible apply State.canTakeMode_sound | with_reducible apply State.canReload_sound | with_reducible apply State.canTxDone_sound | (split; all_goals (try dsimp only)))

theorem State.encBuild_sound (s : State) (x : Nat) (f : Nat) (hS0 : Sound s) : Sound (State.encBuild s x f) := by
  unfold State.encBuild
  (try dsimp only)
  repeat' (first | with_reducible assumption | with_reducible apply State.count_sound | with_reducible apply State.setCan_sound | (split; all_goals (try dsimp only)))

theorem State.canEncode_sound (s : State) (hS0 : Sound s) : Sound (State.canEncode s) := by
  unfold State.canEncode
  (try dsimp only)
  repeat' (first | with_reducible assumption | (intro) | with_reducible apply sound_foldl | with_reducible apply State.reachNt_sound | with_reducible apply State.encBuild_sound | (split; all_goals (try dsimp only)) | (simp only [sound_mk, soundC_refold]))

theorem State.ntSecond_sound (s : State) (hS0 : Sound s) : Sound (State.ntSecond s) := by
  unfold State.ntSecond
  (try dsimp only)
  repeat' (first | with_reducible assumption | with_reducible apply State.setReg_sound | with_reducible apply State.reachNt_sound | with_reducible apply State.ditherRestart_sound | (simp only [sound_mk, soundC_refold]))

end Sys2Proof.Machine
end

