-- ==== Sys2Proof/Laws/SoundSystem.lean ====
section
/-! SUPPORT. Soundness (LS and FW of no channel closed together, every memory in canonical form) is kept by image control and the device as a whole: one lemma per function that answers a state, named after it. -/

namespace Sys2Proof.Machine

/-! ### ImageCtl -/

theorem State.setVerdict_sound (s : State) (v : Verdict) (hS0 : Sound s) : Sound (State.setVerdict s v) := by
  unfold State.setVerdict
  (try dsimp only)
  repeat' (first | with_reducible assumption | with_reducible apply State.setReg_sound | with_reducible apply State.setRf_sound)

theorem State.showImgBusy_sound (s : State) (hS0 : Sound s) : Sound (State.showImgBusy s) := by
  unfold State.showImgBusy
  (try dsimp only)
  repeat' (first | with_reducible assumption | with_reducible apply State.setBit_sound)

theorem State.startJob_sound (s : State) (j : ImgJob) (hS0 : Sound s) : Sound (State.startJob s j) := by
  unfold State.startJob
  (try dsimp only)
  repeat' (first | with_reducible assumption | with_reducible apply State.showImgBusy_sound | (simp only [sound_mk, soundC_refold]))

theorem State.ueEnd_sound (s : State) (hS0 : Sound s) : Sound (State.ueEnd s) := by
  unfold State.ueEnd
  (try dsimp only)
  repeat' (first | with_reducible assumption | (split; all_goals (try dsimp only)) | (simp only [sound_mk, soundC_refold]))

theorem State.endJob_sound (s : State) (hS0 : Sound s) : Sound (State.endJob s) := by
  unfold State.endJob
  (try dsimp only)
  repeat' (first | with_reducible assumption | with_reducible apply State.showImgBusy_sound | with_reducible apply State.ueEnd_sound | (simp only [sound_mk, soundC_refold]))

theorem State.unverify_sound (s : State) (hS0 : Sound s) : Sound (State.unverify s) := by
  unfold State.unverify
  (try dsimp only)
  repeat' (first | with_reducible assumption | with_reducible apply State.setReg_sound | with_reducible apply State.setBit_sound)

theorem State.within_sound (s : State) (dt : Nat) (due : Nat) (hS0 : Sound s) : Sound (State.within s dt due) := by
  unfold State.within
  (try dsimp only)
  repeat' (first | with_reducible assumption | with_reducible apply State.advance_sound)

theorem State.startVerify_sound (s : State) (src : Nat) (hS0 : Sound s) : Sound (State.startVerify s src) := by
  unfold State.startVerify
  (try dsimp only)
  repeat' (first | with_reducible assumption | with_reducible apply State.startJob_sound | with_reducible apply State.unverify_sound | (split; all_goals (try dsimp only)))

theorem State.verifyEnd_sound (dt : Nat) (s : State) (hS0 : Sound s) : Sound (State.verifyEnd dt s) := by
  unfold State.verifyEnd
  (try dsimp only)
  repeat' (first | with_reducible assumption | with_reducible apply State.setRf_sound | with_reducible apply State.setBit_sound | with_reducible apply State.advance_sound | with_reducible apply State.setVerdict_sound | with_reducible apply State.endJob_sound | with_reducible apply State.within_sound | (split; all_goals (try dsimp only)))

theorem State.cancelSwap_sound (s : State) (cause : Nat) (hS0 : Sound s) : Sound (State.cancelSwap s cause) := by
  unfold State.cancelSwap
  (try dsimp only)
  repeat' (first | with_reducible assumption | with_reducible apply State.setRf_sound | with_reducible apply State.setBit_sound | with_reducible apply State.raise_sound | (split; all_goals (try dsimp only)) | (simp only [sound_mk, soundC_refold]))

theorem State.enterLoading_sound (s : State) (code : Nat) (hS0 : Sound s) : Sound (State.enterLoading s code) := by
  unfold State.enterLoading
  (try dsimp only)
  repeat' (first | with_reducible assumption | with_reducible apply sound_foldl | with_reducible apply State.discardAll_sound | with_reducible apply State.cutChannel_sound | with_reducible apply State.withholdAll_sound | with_reducible apply State.setDev_sound | (simp only [sound_mk, soundC_refold]))

theorem State.startCommit_sound (s : State) (src : Nat) (keep : Bool) (hS0 : Sound s) : Sound (State.startCommit s src keep) := by
  unfold State.startCommit
  (try dsimp only)
  repeat' (first | with_reducible assumption | with_reducible apply State.startJob_sound | with_reducible apply State.cancelSwap_sound | with_reducible apply State.enterLoading_sound)

theorem State.bankLoad_sound (s : State) (hS0 : Sound s) : Sound (State.bankLoad s) := by
  unfold State.bankLoad
  (try dsimp only)
  repeat' (first | with_reducible assumption | (intro) | with_reducible apply sound_foldl | with_reducible apply State.setReg_sound | with_reducible apply State.setChSt_sound | with_reducible apply State.setBkSt_sound | with_reducible apply State.refreshHs_sound | with_reducible apply State.chDisable_sound | with_reducible apply State.chEnable_sound | with_reducible apply State.bkDisable_sound | with_reducible apply State.bkEnable_sound | with_reducible apply State.ditherLoad_sound | (split; all_goals (try dsimp only)))

theorem State.learnLoad_sound (s : State) (keep : Bool) (hS0 : Sound s) : Sound (State.learnLoad s keep) := by
  unfold State.learnLoad
  (try dsimp only)
  repeat' (first | with_reducible assumption | with_reducible apply State.setTable_sound | (split; all_goals (try dsimp only)))

theorem State.blocksLoad_sound (s : State) (old : List Byte) (keep : Bool) (hS0 : Sound s) : Sound (State.blocksLoad s old keep) := by
  unfold State.blocksLoad
  (try dsimp only)
  repeat' (first | with_reducible assumption | with_reducible apply State.netLoad_sound | with_reducible apply State.timLoad_sound | with_reducible apply State.gioLoad_sound | with_reducible apply State.fanLoad_sound | with_reducible apply State.loopLoad_sound | with_reducible apply State.afeLoad_sound | with_reducible apply State.canLoad_sound | with_reducible apply State.bankLoad_sound | with_reducible apply State.learnLoad_sound)

theorem State.fillCopies_sound (s : State) (im : List Byte) (hS0 : Sound s) : Sound (State.fillCopies s im) := by
  unfold State.fillCopies
  (try dsimp only)
  repeat' (first | with_reducible assumption | (simp only [sound_mk, soundC_refold]))

theorem State.copyInForce_sound (s : State) (im : List Byte) (hS0 : Sound s) : Sound (State.copyInForce s im) := by
  unfold State.copyInForce
  (try dsimp only)
  repeat' (first | with_reducible assumption | with_reducible apply State.dramPut_sound)

theorem State.takeImage_sound (s : State) (src : Nat) (inf : Nat) (keep : Bool) (hS0 : Sound s) : Sound (State.takeImage s src inf keep) := by
  unfold State.takeImage
  (try dsimp only)
  repeat' (first | with_reducible assumption | with_reducible apply State.setReg_sound | with_reducible apply State.setRf_sound | with_reducible apply State.blocksLoad_sound | with_reducible apply State.fillCopies_sound | with_reducible apply State.copyInForce_sound | (split; all_goals (try dsimp only)))

theorem State.noImage_sound (s : State) (hS0 : Sound s) : Sound (State.noImage s) := by
  unfold State.noImage
  (try dsimp only)
  repeat' (first | with_reducible assumption | with_reducible apply State.setReg_sound | with_reducible apply State.setRf_sound | with_reducible apply State.blocksLoad_sound | with_reducible apply State.fillCopies_sound)

theorem State.loadFailed_sound (s : State) (evSrc : Nat) (v : Verdict) (hS0 : Sound s) : Sound (State.loadFailed s evSrc v) := by
  unfold State.loadFailed
  (try dsimp only)
  repeat' (first | with_reducible assumption | with_reducible apply State.raise_sound | with_reducible apply State.setVerdict_sound)

theorem State.reload_sound (s : State) (keep : Bool) (hit : Bool) (hS0 : Sound s) : Sound (State.reload s keep hit) := by
  unfold State.reload
  (try dsimp only)
  repeat' (first | with_reducible assumption | with_reducible apply State.raise_sound | with_reducible apply State.takeImage_sound | with_reducible apply State.noImage_sound | with_reducible apply State.loadFailed_sound | (split; all_goals (try dsimp only)))

theorem State.finishLoad_sound (s : State) (src : Nat) (keep : Bool) (hS0 : Sound s) : Sound (State.finishLoad s src keep) := by
  unfold State.finishLoad
  (try dsimp only)
  repeat' (first | with_reducible assumption | with_reducible apply State.raise_sound | with_reducible apply State.setVerdict_sound | with_reducible apply State.takeImage_sound | with_reducible apply State.loadFailed_sound | with_reducible apply State.reload_sound | (split; all_goals (try dsimp only)))

theorem State.showNor_sound (s : State) (hS0 : Sound s) : Sound (State.showNor s) := by
  unfold State.showNor
  (try dsimp only)
  repeat' (first | with_reducible assumption | with_reducible apply State.setReg_sound)

theorem State.dirWrite_sound (s : State) (d : SlotDir) (hS0 : Sound s) : Sound (State.dirWrite s d) := by
  unfold State.dirWrite
  (try dsimp only)
  repeat' (first | with_reducible assumption | with_reducible apply State.norPut_sound | with_reducible apply State.showNor_sound)

theorem State.norDrain_sound (s : State) (n : Nat) (hS0 : Sound s) : Sound (State.norDrain s n) := by
  unfold State.norDrain
  (try dsimp only)
  repeat' (first | with_reducible assumption | (intro) | with_reducible apply sound_foldl | with_reducible apply State.norPut_sound | with_reducible apply State.showNor_sound | (simp only [sound_mk, soundC_refold]))

theorem State.norErase_sound (s : State) (slot : Nat) (hS0 : Sound s) : Sound (State.norErase s slot) := by
  unfold State.norErase
  (try dsimp only)
  repeat' (first | with_reducible assumption | with_reducible apply State.showNor_sound | with_reducible apply State.dirWrite_sound | with_reducible apply State.norDrain_sound | (simp only [sound_mk, soundC_refold]))

theorem State.norEraseEnd_sound (dt : Nat) (s : State) (hS0 : Sound s) : Sound (State.norEraseEnd dt s) := by
  unfold State.norEraseEnd
  split
  · exact State.advance_sound _ _ hS0
  · extract_lets s1 lo
    have h1 : Sound s1 := State.within_sound _ _ _ hS0
    clear_value s1
    apply State.showNor_sound
    refine ⟨h1.1, ?_⟩
    have h := h1.2
    simp only [State.memWf, Bool.and_eq_true] at h ⊢
    exact ⟨⟨h.1.1, storeWf_clear _ _ _ _ h.1.2⟩, h.2⟩

theorem State.norCommit_sound (s : State) (slot : Nat) (hS0 : Sound s) : Sound (State.norCommit s slot) := by
  unfold State.norCommit
  (try dsimp only)
  repeat' (first | with_reducible assumption | with_reducible apply State.showImgBusy_sound | with_reducible apply State.showNor_sound | with_reducible apply State.norDrain_sound | (simp only [sound_mk, soundC_refold]))

theorem State.norCommitEnd_sound (dt : Nat) (s : State) (hS0 : Sound s) : Sound (State.norCommitEnd dt s) := by
  unfold State.norCommitEnd
  (try dsimp only)
  repeat' (first | with_reducible assumption | with_reducible apply State.advance_sound | with_reducible apply State.raise_sound | with_reducible apply State.setVerdict_sound | with_reducible apply State.showImgBusy_sound | with_reducible apply State.ueEnd_sound | with_reducible apply State.within_sound | with_reducible apply State.showNor_sound | with_reducible apply State.dirWrite_sound | (split; all_goals (try dsimp only)) | (simp only [sound_mk, soundC_refold]))

theorem State.norPrefer_sound (s : State) (slot : Nat) (hS0 : Sound s) : Sound (State.norPrefer s slot) := by
  unfold State.norPrefer
  (try dsimp only)
  repeat' (first | with_reducible assumption | with_reducible apply State.dirWrite_sound)

theorem State.writeNorCtl_sound (s : State) (w : Word) (ones : Word) (hS0 : Sound s) : Sound (State.writeNorCtl s w ones).2 := by
  unfold State.writeNorCtl
  (try dsimp only)
  repeat' (first | with_reducible assumption | with_reducible apply State.setRf_sound | with_reducible apply State.norErase_sound | with_reducible apply State.norCommit_sound | with_reducible apply State.norPrefer_sound | (split; all_goals (try dsimp only)))

theorem State.serveEject_sound (s : State) (hS0 : Sound s) : Sound (State.serveEject s) := by
  unfold State.serveEject
  (try dsimp only)
  repeat' (first | with_reducible assumption | with_reducible apply State.raise_sound | with_reducible apply State.toDraining_sound | (split; all_goals (try dsimp only)) | (simp only [sound_mk, soundC_refold]))

theorem State.bootLoad_sound (s : State) (hS0 : Sound s) : Sound (State.bootLoad s) := by
  unfold State.bootLoad
  (try dsimp only)
  repeat' (first | with_reducible assumption | with_reducible apply State.setBit_sound | with_reducible apply State.raise_sound | with_reducible apply State.setVerdict_sound | with_reducible apply State.takeImage_sound | with_reducible apply State.noImage_sound | with_reducible apply State.loadFailed_sound | (split; all_goals (try dsimp only)))

theorem State.loaded_sound (s : State) (hS0 : Sound s) : Sound (State.loaded s) := by
  unfold State.loaded
  (try dsimp only)
  repeat' (first | with_reducible assumption | with_reducible apply State.setBit_sound | with_reducible apply State.refreshHs_sound | with_reducible apply State.setDev_sound | with_reducible apply State.boostStartUp_sound | with_reducible apply State.endJob_sound | with_reducible apply State.unverify_sound | with_reducible apply State.serveEject_sound | (split; all_goals (try dsimp only)) | (simp only [sound_mk, soundC_refold]))

theorem State.loadEnd_sound (dt : Nat) (s : State) (hS0 : Sound s) : Sound (State.loadEnd dt s) := by
  unfold State.loadEnd
  (try dsimp only)
  repeat' (first | with_reducible assumption | with_reducible apply State.advance_sound | with_reducible apply State.endJob_sound | with_reducible apply State.within_sound | with_reducible apply State.finishLoad_sound | with_reducible apply State.bootLoad_sound | with_reducible apply State.loaded_sound | (split; all_goals (try dsimp only)))

theorem State.writeImgCtl_sound (s : State) (w : Word) (ones : Word) (hS0 : Sound s) : Sound (State.writeImgCtl s w ones).2 := by
  unfold State.writeImgCtl
  (try dsimp only)
  repeat' (first | with_reducible assumption | with_reducible apply State.setReg_sound | with_reducible apply State.startVerify_sound | with_reducible apply State.startCommit_sound | (split; all_goals (try dsimp only)))

theorem State.keyProg_sound (s : State) (hS0 : Sound s) : Sound (State.keyProg s).2 := by
  unfold State.keyProg
  (try dsimp only)
  repeat' (first | with_reducible assumption | with_reducible apply State.clearRegs_sound | (split; all_goals (try dsimp only)) | (simp only [sound_mk, soundC_refold]))

theorem State.keySet_sound (dt : Nat) (s : State) (hS0 : Sound s) : Sound (State.keySet dt s) := by
  unfold State.keySet
  (try dsimp only)
  repeat' (first | with_reducible assumption | with_reducible apply State.setReg_sound | with_reducible apply State.setBit_sound | with_reducible apply State.advance_sound | with_reducible apply State.raise_sound | with_reducible apply State.within_sound | (split; all_goals (try dsimp only)) | (simp only [sound_mk, soundC_refold]))

theorem State.swapArm_sound (s : State) (hS0 : Sound s) : Sound (State.swapArm s).2 := by
  unfold State.swapArm
  (try dsimp only)
  repeat' (first | with_reducible assumption | with_reducible apply State.setRf_sound | with_reducible apply State.setVerdict_sound | (split; all_goals (try dsimp only)) | (simp only [sound_mk, soundC_refold]))

theorem State.swapLate_sound (s : State) (hS0 : Sound s) : Sound (State.swapLate s) := by
  unfold State.swapLate
  (try dsimp only)
  repeat' (first | with_reducible assumption | with_reducible apply State.setRf_sound | with_reducible apply State.setBit_sound | with_reducible apply State.raise_sound)

theorem State.swapReady_sound (dt : Nat) (s : State) (hS0 : Sound s) : Sound (State.swapReady dt s) := by
  unfold State.swapReady
  (try dsimp only)
  repeat' (first | with_reducible assumption | with_reducible apply State.setRf_sound | with_reducible apply State.advance_sound | with_reducible apply State.reachNt_sound | with_reducible apply State.within_sound | with_reducible apply State.swapLate_sound | (split; all_goals (try dsimp only)) | (simp only [sound_mk, soundC_refold]))

theorem State.swapCancel_sound (s : State) (hS0 : Sound s) : Sound (State.swapCancel s) := by
  unfold State.swapCancel
  (try dsimp only)
  repeat' (first | with_reducible assumption | with_reducible apply State.cancelSwap_sound | (split; all_goals (try dsimp only)))

theorem State.writeSwapCtl_sound (s : State) (ones : Word) (hS0 : Sound s) : Sound (State.writeSwapCtl s ones).2 := by
  unfold State.writeSwapCtl
  (try dsimp only)
  repeat' (first | with_reducible assumption | with_reducible apply State.setReg_sound | with_reducible apply State.swapArm_sound | with_reducible apply State.swapCancel_sound | (split; all_goals (try dsimp only)))

theorem State.swapTick_sound (s : State) (hS0 : Sound s) : Sound (State.swapTick s) := by
  unfold State.swapTick
  (try dsimp only)
  repeat' (first | with_reducible assumption | with_reducible apply State.reachNt_sound | with_reducible apply State.showImgBusy_sound | with_reducible apply State.swapLate_sound | (split; all_goals (try dsimp only)) | (simp only [sound_mk, soundC_refold]))

theorem State.swapDone_sound (dt : Nat) (s : State) (hS0 : Sound s) : Sound (State.swapDone dt s) := by
  unfold State.swapDone
  (try dsimp only)
  repeat' (first | with_reducible assumption | with_reducible apply State.setReg_sound | with_reducible apply State.setRf_sound | with_reducible apply State.setBit_sound | with_reducible apply State.advance_sound | with_reducible apply State.raise_sound | with_reducible apply State.showImgBusy_sound | with_reducible apply State.within_sound | with_reducible apply State.copyInForce_sound | (split; all_goals (try dsimp only)) | (simp only [sound_mk, soundC_refold]))

/-! ### System -/

theorem State.setSupply_sound (s : State) (vsup : Nat) (vhld : Nat) (hS0 : Sound s) : Sound (State.setSupply s vsup vhld) := by
  unfold State.setSupply
  (try dsimp only)
  repeat' (first | with_reducible assumption | with_reducible apply State.setBit_sound | with_reducible apply State.putVal_sound | (simp only [sound_mk, soundC_refold]))

theorem State.resetBy_sound (s : State) (cause : Nat) (hS0 : Sound s) : Sound (State.resetBy s cause) := by
  unfold State.resetBy
  extract_lets on r _ _ _ _ _ base ret1 s1 s2
  have h0 : Sound base := by
    refine ⟨BitVec.and_self, ?_⟩
    have h := hS0.2
    simp only [State.memWf, Bool.and_eq_true] at h ⊢
    refine ⟨⟨?_, h.1.2⟩, h.2⟩
    show storeWf dramNone (if on = true then [] else s.dram) = true
    split
    · rfl
    · exact h.1.1
  clear_value base
  have r1 : Sound ret1 := State.setBit_sound _ _ _ _ h0
  clear_value ret1
  have q1 : Sound s1 := State.setBit_sound _ _ _ _ (State.setBit_sound _ _ _ _ r1)
  clear_value s1
  have q2 : Sound s2 := State.setBit_sound _ _ _ _ (State.setBit_sound _ _ _ _ q1)
  clear_value s2
  exact State.setRf_sound _ _ _ _ _ (State.setBit_sound _ _ _ _ q2)

theorem State.powerOn_sound (s : State) (dt : Nat) (vsup : Nat) (vhld : Nat) (strap : Nat) (hS0 : Sound s) : Sound (State.powerOn s dt vsup vhld strap) := by
  unfold State.powerOn
  (try dsimp only)
  repeat' (first | with_reducible assumption | with_reducible apply State.advance_sound | with_reducible apply State.resetBy_sound | (split; all_goals (try dsimp only)) | (simp only [sound_mk, soundC_refold]))

theorem State.resetPin_sound (s : State) (strap : Nat) (hS0 : Sound s) : Sound (State.resetPin s strap) := by
  unfold State.resetPin
  (try dsimp only)
  repeat' (first | with_reducible assumption | with_reducible apply State.resetBy_sound | (simp only [sound_mk, soundC_refold]))

theorem State.brownOut_sound (s : State) (vsup : Nat) (hS0 : Sound s) : Sound (State.brownOut s vsup) := by
  unfold State.brownOut
  (try dsimp only)
  repeat' (first | with_reducible assumption | with_reducible apply State.setSupply_sound | with_reducible apply State.resetBy_sound | (split; all_goals (try dsimp only)))

theorem State.reinsertion_sound (s : State) (hS0 : Sound s) : Sound (State.reinsertion s) := by
  unfold State.reinsertion
  (try dsimp only)
  repeat' (first | with_reducible assumption | with_reducible apply State.reachTick_sound | with_reducible apply State.resetBy_sound | (split; all_goals (try dsimp only)))

theorem State.bootComplete_sound (s : State) (calBad : Bool) (vhld : Nat) (hS0 : Sound s) : Sound (State.bootComplete s calBad vhld) := by
  unfold State.bootComplete
  (try dsimp only)
  repeat' (first | with_reducible assumption | with_reducible apply State.setBit_sound | with_reducible apply State.recorderStart_sound | with_reducible apply State.setDev_sound | with_reducible apply State.startJob_sound | with_reducible apply State.showNor_sound | with_reducible apply State.setSupply_sound | (split; all_goals (try dsimp only)))

theorem State.setArmStep_sound (s : State) (a : Option (Nat × Bool)) (hS0 : Sound s) : Sound (State.setArmStep s a) := by
  unfold State.setArmStep
  (try dsimp only)
  repeat' (first | with_reducible assumption | with_reducible apply State.setBit_sound | (simp only [sound_mk, soundC_refold]))

theorem State.writeArm_sound (s : State) (w : Word) (hS0 : Sound s) : Sound (State.writeArm s w).2 := by
  unfold State.writeArm
  (try dsimp only)
  repeat' (first | with_reducible assumption | with_reducible apply State.setRf_sound | with_reducible apply State.raise_sound | with_reducible apply State.dryOpen_sound | with_reducible apply State.setDev_sound | with_reducible apply State.setArmStep_sound | (split; all_goals (try dsimp only)))

theorem State.safeclr_sound (s : State) (hS0 : Sound s) : Sound (State.safeclr s) := by
  unfold State.safeclr
  (try dsimp only)
  repeat' (first | with_reducible assumption | with_reducible apply State.refreshHs_sound | with_reducible apply State.setDev_sound | with_reducible apply State.boostStartUp_sound | with_reducible apply State.startJob_sound | with_reducible apply State.enterLoading_sound | (split; all_goals (try dsimp only)))

theorem State.writeSysCtl_sound (s : State) (w : Word) (hS0 : Sound s) : Sound (State.writeSysCtl s w).2 := by
  unfold State.writeSysCtl
  (try dsimp only)
  repeat' (first | with_reducible assumption | with_reducible apply State.toReady_sound | with_reducible apply State.toDraining_sound | with_reducible apply State.resetBy_sound | with_reducible apply State.safeclr_sound | (split; all_goals (try dsimp only)))

theorem State.wdogRestart_sound (s : State) (hS0 : Sound s) : Sound (State.wdogRestart s) := by
  unfold State.wdogRestart
  (try dsimp only)
  repeat' (first | with_reducible assumption | with_reducible apply State.setBit_sound | with_reducible apply State.raise_sound | with_reducible apply State.fanWdog_sound | (split; all_goals (try dsimp only)) | (simp only [sound_mk, soundC_refold]))

theorem State.wdogExpire_sound (s : State) (hS0 : Sound s) : Sound (State.wdogExpire s) := by
  unfold State.wdogExpire
  (try dsimp only)
  repeat' (first | with_reducible assumption | with_reducible apply State.setBit_sound | with_reducible apply State.reachTick_sound | with_reducible apply State.raise_sound | with_reducible apply State.fanWdog_sound | (split; all_goals (try dsimp only)))

theorem State.writeWdog_sound (s : State) (w : Word) (hS0 : Sound s) : Sound (State.writeWdog s w).2 := by
  unfold State.writeWdog
  (try dsimp only)
  repeat' (first | with_reducible assumption | with_reducible apply State.setReg_sound | (split; all_goals (try dsimp only)))

theorem State.gaspOutputs_sound (s : State) (hS0 : Sound s) : Sound (State.gaspOutputs s) := by
  unfold State.gaspOutputs
  (try dsimp only)
  repeat' (first | with_reducible assumption | (intro) | with_reducible apply sound_foldl | with_reducible apply State.setRf_sound | with_reducible apply State.refreshHs_sound | with_reducible apply State.openAll_sound | with_reducible apply State.cutShot_sound | with_reducible apply State.withholdAll_sound | with_reducible apply State.boostStop_sound | with_reducible apply State.showDo_sound | with_reducible apply State.putDuty_sound | with_reducible apply State.excAllOff_sound | with_reducible apply State.canStop_sound | (simp only [sound_mk, soundC_refold]))

theorem State.gaspStart_sound (s : State) (cause : Nat) (hS0 : Sound s) : Sound (State.gaspStart s cause) := by
  unfold State.gaspStart
  (try dsimp only)
  repeat' (first | with_reducible assumption | with_reducible apply State.gaspOutputs_sound | (simp only [sound_mk, soundC_refold]))

theorem State.gaspSteps_sound (s0 : State) (f : KenFault) (erased : Nat) (hS0 : Sound s0) : Sound (State.gaspSteps s0 f erased) := by
  unfold State.gaspSteps
  (try dsimp only)
  repeat' (first | with_reducible assumption | with_reducible apply State.closeAllEps_sound | with_reducible apply State.settle_sound | with_reducible apply State.persist_sound | with_reducible apply State.ownEvent_sound | with_reducible apply State.append_sound | with_reducible apply State.recorderStart_sound | with_reducible apply State.drainRecords_sound | with_reducible apply State.thaw_sound | with_reducible apply State.stopErase_sound | with_reducible apply State.netRelease_sound | (split; all_goals (try dsimp only)) | (simp only [sound_mk, soundC_refold]))

theorem State.lastGasp_sound (s : State) (f : KenFault) (erased : Nat) (hS0 : Sound s) : Sound (State.lastGasp s f erased) := by
  unfold State.lastGasp
  (try dsimp only)
  repeat' (first | with_reducible assumption | with_reducible apply State.gaspStart_sound | with_reducible apply State.gaspSteps_sound | (split; all_goals (try dsimp only)))

theorem State.pwrFail_sound (s : State) (vsup : Nat) (vhld : Nat) (hS0 : Sound s) : Sound (State.pwrFail s vsup vhld) := by
  unfold State.pwrFail
  (try dsimp only)
  repeat' (first | with_reducible assumption | with_reducible apply State.setBit_sound | with_reducible apply State.raise_sound | with_reducible apply State.closeAllEps_sound | with_reducible apply State.toDraining_sound | with_reducible apply State.setSupply_sound | with_reducible apply State.gaspStart_sound | (split; all_goals (try dsimp only)) | (simp only [sound_mk, soundC_refold]))

theorem State.vsupOv_sound (s : State) (vsup : Nat) (hS0 : Sound s) : Sound (State.vsupOv s vsup) := by
  unfold State.vsupOv
  (try dsimp only)
  repeat' (first | with_reducible assumption | with_reducible apply State.setBit_sound | with_reducible apply State.raise_sound | with_reducible apply State.boostStop_sound | with_reducible apply State.setSupply_sound | (split; all_goals (try dsimp only)))

theorem State.vsupOvEnd_sound (s : State) (vsup : Nat) (hS0 : Sound s) : Sound (State.vsupOvEnd s vsup) := by
  unfold State.vsupOvEnd
  (try dsimp only)
  repeat' (first | with_reducible assumption | with_reducible apply State.setBit_sound | with_reducible apply State.boostStartUp_sound | with_reducible apply State.setSupply_sound | (split; all_goals (try dsimp only)))

theorem State.powerOff_sound (s : State) (vhld : Nat) (hS0 : Sound s) : Sound (State.powerOff s vhld) := by
  unfold State.powerOff
  (try dsimp only)
  repeat' (first | with_reducible assumption | with_reducible apply State.setSupply_sound | (split; all_goals (try dsimp only)) | (simp only [sound_mk, soundC_refold]))

theorem State.pwrEject_sound (s : State) (low : Bool) (hS0 : Sound s) : Sound (State.pwrEject s low) := by
  unfold State.pwrEject
  (try dsimp only)
  repeat' (first | with_reducible assumption | with_reducible apply State.setBit_sound | with_reducible apply State.serveEject_sound | (simp only [sound_mk, soundC_refold]))

theorem State.drainTimeout_sound (s : State) (hS0 : Sound s) : Sound (State.drainTimeout s) := by
  unfold State.drainTimeout
  (try dsimp only)
  repeat' (first | with_reducible assumption | (intro) | with_reducible apply sound_foldl | with_reducible apply State.reachTick_sound | with_reducible apply State.beginRelease_sound | (split; all_goals (try dsimp only)))

theorem State.ueQueue_sound (s : State) (hS0 : Sound s) : Sound (State.ueQueue s) := by
  unfold State.ueQueue
  (try dsimp only)
  repeat' (first | with_reducible assumption | with_reducible apply State.reachTick_sound | with_reducible apply State.raise_sound | with_reducible apply State.setQueue_sound | with_reducible apply State.refuseCmd_sound | (split; all_goals (try dsimp only)) | (simp only [sound_mk, soundC_refold]))

theorem State.ueWorking_sound (s : State) (u : Nat) (hS0 : Sound s) : Sound (State.ueWorking s u) := by
  unfold State.ueWorking
  (try dsimp only)
  repeat' (first | with_reducible assumption | with_reducible apply State.setRf_sound | with_reducible apply State.setBit_sound | with_reducible apply State.showDo_sound | with_reducible apply State.fanEnter_sound | with_reducible apply State.afeRestart_sound | (split; all_goals (try dsimp only)))

theorem State.ueCan_sound (s : State) (u : Nat) (hS0 : Sound s) : Sound (State.ueCan s u) := by
  unfold State.ueCan
  (try dsimp only)
  repeat' (first | with_reducible assumption | with_reducible apply State.count_sound | with_reducible apply State.setCan_sound | with_reducible apply State.showCan_sound | with_reducible apply State.canRemoved_sound | (split; all_goals (try dsimp only)))

theorem State.uePort_sound (s : State) (u : Nat) (hS0 : Sound s) : Sound (State.uePort s u) := by
  unfold State.uePort
  (try dsimp only)
  repeat' (first | with_reducible assumption | with_reducible apply State.count_sound | with_reducible apply State.setPort_sound | (split; all_goals (try dsimp only)))

theorem State.ueFrames_sound (s : State) (u : Nat) (hS0 : Sound s) : Sound (State.ueFrames s u) := by
  unfold State.ueFrames
  (try dsimp only)
  repeat' (first | with_reducible assumption | with_reducible apply State.count_sound | with_reducible apply State.episode_sound | (split; all_goals (try dsimp only)) | (simp only [sound_mk, soundC_refold]))

theorem State.ueRecords_sound (s : State) (u : Nat) (hS0 : Sound s) : Sound (State.ueRecords s u) := by
  unfold State.ueRecords
  (try dsimp only)
  repeat' (first | with_reducible assumption | with_reducible apply State.setBit_sound | with_reducible apply State.count_sound | with_reducible apply State.journalWrite_sound | with_reducible apply State.capMiss_sound | (split; all_goals (try dsimp only)) | (simp only [sound_mk, soundC_refold]))

theorem State.ueAct_sound (s : State) (region : Nat) (u : Nat) (hS0 : Sound s) : Sound (State.ueAct s region u) := by
  unfold State.ueAct
  (try dsimp only)
  repeat' (first | with_reducible assumption | with_reducible apply State.setBit_sound | with_reducible apply State.setCond_sound | with_reducible apply State.faultSafe_sound | with_reducible apply State.setUe_sound | with_reducible apply State.setLc_sound | with_reducible apply State.ueWorking_sound | with_reducible apply State.ueCan_sound | with_reducible apply State.uePort_sound | with_reducible apply State.ueFrames_sound | with_reducible apply State.ueRecords_sound | (split; all_goals (try dsimp only)) | (simp only [sound_mk, soundC_refold]))

theorem State.sramUe_sound (s : State) (region : Nat) (u : Nat) (hS0 : Sound s) : Sound (State.sramUe s region u) := by
  unfold State.sramUe
  (try dsimp only)
  repeat' (first | with_reducible assumption | with_reducible apply State.raise_sound | with_reducible apply State.ueQueue_sound | with_reducible apply State.ueAct_sound | (split; all_goals (try dsimp only)))

end Sys2Proof.Machine
end

