-- ==== Sys2Proof/Laws/SoundRegisters.lean ====
section
/-! SUPPORT. Soundness (LS and FW of no channel closed together, every memory in canonical form) is kept by the Shutter, register reads and writes, Shamel frames and the test port: one lemma per function that answers a state, named after it. -/

namespace Sys2Proof.Machine

/-! ### Shutter -/

theorem State.snapshot_sound (s : State) (t : Trigger) (hS0 : Sound s) : Sound (State.snapshot s t) := by
  unfold State.snapshot
  (try dsimp only)
  repeat' (first | with_reducible assumption | with_reducible apply State.setReg_sound | with_reducible apply State.setBit_sound | with_reducible apply State.putRegs_sound | with_reducible apply State.raise_sound | (split; all_goals (try dsimp only)) | (simp only [sound_mk, soundC_refold]))

theorem State.shtTrigger_sound (s : State) (t : Trigger) (hS0 : Sound s) : Sound (State.shtTrigger s t) := by
  unfold State.shtTrigger
  (try dsimp only)
  repeat' (first | with_reducible assumption | with_reducible apply State.setRf_sound | with_reducible apply State.setBit_sound | with_reducible apply State.count_sound | with_reducible apply State.episode_sound | with_reducible apply State.snapshot_sound | (split; all_goals (try dsimp only)))

theorem State.shtRearm_sound (s : State) (hS0 : Sound s) : Sound (State.shtRearm s) := by
  unfold State.shtRearm
  (try dsimp only)
  repeat' (first | with_reducible assumption | with_reducible apply State.setBit_sound | (simp only [sound_mk, soundC_refold]))

theorem State.atArm_sound (s : State) (hS0 : Sound s) : Sound (State.atArm s) := by
  unfold State.atArm
  (try dsimp only)
  repeat' (first | with_reducible assumption | with_reducible apply State.setBit_sound | (simp only [sound_mk, soundC_refold]))

theorem State.shtAtarm_sound (s : State) (hS0 : Sound s) : Sound (State.shtAtarm s).2 := by
  unfold State.shtAtarm
  (try dsimp only)
  repeat' (first | with_reducible assumption | with_reducible apply State.atArm_sound | (split; all_goals (try dsimp only)))

theorem State.shtAtcancel_sound (s : State) (hS0 : Sound s) : Sound (State.shtAtcancel s) := by
  unfold State.shtAtcancel
  (try dsimp only)
  repeat' (first | with_reducible assumption | with_reducible apply State.setBit_sound)

theorem State.shtAt_sound (s : State) (hS0 : Sound s) : Sound (State.shtAt s) := by
  unfold State.shtAt
  (try dsimp only)
  repeat' (first | with_reducible assumption | with_reducible apply State.setBit_sound | with_reducible apply State.reachNt_sound | with_reducible apply State.shtTrigger_sound | (split; all_goals (try dsimp only)))

theorem State.shtEvent_sound (dt : Nat) (s0 : State) (hS0 : Sound s0) : Sound (State.shtEvent dt s0) := by
  unfold State.shtEvent
  (try dsimp only)
  repeat' (first | with_reducible assumption | with_reducible apply State.advance_sound | with_reducible apply State.settle_sound | with_reducible apply State.shtTrigger_sound | (split; all_goals (try dsimp only)) | (simp only [sound_mk, soundC_refold]))

theorem State.shtEdge_sound (s : State) (level : Bool) (hS0 : Sound s) : Sound (State.shtEdge s level) := by
  unfold State.shtEdge
  (try dsimp only)
  repeat' (first | with_reducible assumption | with_reducible apply State.setBit_sound | with_reducible apply State.shtTrigger_sound | (split; all_goals (try dsimp only)))

theorem State.shtClear_sound (s : State) (hS0 : Sound s) : Sound (State.shtClear s) := by
  unfold State.shtClear
  (try dsimp only)
  repeat' (first | with_reducible assumption | with_reducible apply State.setReg_sound)

theorem State.shtActs_sound (s : State) (ones : Word) (hS0 : Sound s) : Sound (State.shtActs s ones) := by
  unfold State.shtActs
  (try dsimp only)
  repeat' (first | with_reducible assumption | with_reducible apply State.shtTrigger_sound | with_reducible apply State.shtRearm_sound | with_reducible apply State.shtAtarm_sound | with_reducible apply State.shtAtcancel_sound | with_reducible apply State.shtClear_sound | (split; all_goals (try dsimp only)))

theorem State.readSht_sound (s : State) (hS0 : Sound s) : Sound (State.readSht s).2 := by
  unfold State.readSht
  (try dsimp only)
  repeat' (first | with_reducible assumption | with_reducible apply State.setRf_sound | (split; all_goals (try dsimp only)))

/-! ### Registers -/

theorem State.commit_sound (s : State) (a : Nat) (w : Word) (ones : Word) (hS0 : Sound s) : Sound (State.commit s a w ones) := by
  unfold State.commit
  (try dsimp only)
  repeat' (first | with_reducible assumption | with_reducible apply State.setReg_sound | (split; all_goals (try dsimp only)))

theorem State.launch_sound (s : State) (dom : Dom) (a : Nat) (before : Word) (data : Word) (mask : Word) (hS0 : Sound s) : Sound (State.launch s dom a before data mask) := by
  unfold State.launch
  (try dsimp only)
  repeat' (first | with_reducible assumption | (simp only [sound_mk, soundC_refold]))

theorem State.fly_sound (s : State) (dom : Dom) (a : Nat) (w : Word) (ones : Word) (mask : Word) (hS0 : Sound s) : Sound (State.fly s dom a w ones mask) := by
  unfold State.fly
  (try dsimp only)
  repeat' (first | with_reducible assumption | with_reducible apply State.commit_sound | with_reducible apply State.launch_sound)

theorem refuseIf_sound (bad : Bool) (s : State) (k : Nat × State) (hS0 : Sound s) (hk : Sound k.2) : Sound (refuseIf bad s k).2 := by
  unfold refuseIf
  split
  · exact hS0
  · exact hk

theorem State.dramWrite_sound (s : State) (a : Nat) (w : Word) (hS0 : Sound s) : Sound (State.dramWrite s a w).2 := by
  unfold State.dramWrite
  (try dsimp only)
  repeat' (first | with_reducible assumption | with_reducible apply State.setBit_sound | with_reducible apply State.dramPut_sound | (split; all_goals (try dsimp only)))

theorem State.norWrite_sound (s : State) (a : Nat) (w : Word) (hS0 : Sound s) : Sound (State.norWrite s a w).2 := by
  unfold State.norWrite
  (try dsimp only)
  repeat' (first | with_reducible assumption | with_reducible apply State.showNor_sound | (split; all_goals (try dsimp only)) | (simp only [sound_mk, soundC_refold]))

theorem State.winWrite_sound (s : State) (w : Word) (hS0 : Sound s) : Sound (State.winWrite s w).2 := by
  unfold State.winWrite
  (try dsimp only)
  repeat' (first | with_reducible assumption | with_reducible apply State.setReg_sound | with_reducible apply State.dramWrite_sound | with_reducible apply State.norWrite_sound | (split; all_goals (try dsimp only)))

theorem State.winRead_sound (s : State) (hS0 : Sound s) : Sound (State.winRead s).2 := by
  unfold State.winRead
  (try dsimp only)
  repeat' (first | with_reducible assumption | with_reducible apply State.setReg_sound)

theorem State.latch_sound (s : State) (a : Nat) (hS0 : Sound s) : Sound (State.latch s a) := by
  unfold State.latch
  (try dsimp only)
  repeat' (first | with_reducible assumption | (split; all_goals (try dsimp only)) | (simp only [sound_mk, soundC_refold]))

theorem State.readWord_sound (s : State) (a : Nat) (hS0 : Sound s) : Sound (State.readWord s a).2.2 := by
  unfold State.readWord
  split
  · exact hS0
  split
  · exact hS0
  · with_reducible apply sound_ite3
    · exact snd3 _ _ _ (State.winRead_sound _ hS0)
    · with_reducible apply sound_ite3
      · exact snd3 _ _ _ (State.readRecData_sound _ _ hS0)
      · with_reducible apply sound_ite3
        · exact snd3 _ _ _ (State.readSht_sound _ hS0)
        · exact snd3 _ _ _ (State.latch_sound _ _ hS0)

theorem State.wrSys_sound (s : State) (a : Nat) (w : Word) (ones : Word) (mask : Word) (hS0 : Sound s) : Sound (State.wrSys s a w ones mask).2 := by
  unfold State.wrSys
  (try dsimp only)
  repeat' (first | with_reducible assumption | with_reducible apply State.writeArm_sound | with_reducible apply State.writeSysCtl_sound | with_reducible apply State.writeWdog_sound | with_reducible apply State.commit_sound | with_reducible apply refuseIf_sound | with_reducible apply State.winWrite_sound | (split; all_goals (try dsimp only)))

theorem State.wrKeyId_sound (s : State) (a : Nat) (w : Word) (ones : Word) (locked : Bool) (hS0 : Sound s) : Sound (State.wrKeyId s a w ones locked).2 := by
  unfold State.wrKeyId
  (try dsimp only)
  repeat' (first | with_reducible assumption | with_reducible apply State.commit_sound | (split; all_goals (try dsimp only)))

theorem State.wrImg_sound (s : State) (a : Nat) (w : Word) (ones : Word) (hS0 : Sound s) : Sound (State.wrImg s a w ones).2 := by
  unfold State.wrImg
  (try dsimp only)
  repeat' (first | with_reducible assumption | with_reducible apply State.setReg_sound | with_reducible apply State.writeNorCtl_sound | with_reducible apply State.writeImgCtl_sound | with_reducible apply State.keyProg_sound | with_reducible apply State.writeSwapCtl_sound | with_reducible apply State.commit_sound | with_reducible apply refuseIf_sound | with_reducible apply State.wrKeyId_sound | (split; all_goals (try dsimp only)))

theorem State.writeRpl_sound (s : State) (w : Word) (ones : Word) (hS0 : Sound s) : Sound (State.writeRpl s w ones).2 := by
  unfold State.writeRpl
  (try dsimp only)
  repeat' (first | with_reducible assumption | with_reducible apply State.setReg_sound | with_reducible apply State.setBit_sound | with_reducible apply State.rplRecStart_sound | with_reducible apply State.rplPlay_sound | (split; all_goals (try dsimp only)))

theorem State.wrCmd_sound (s : State) (a : Nat) (w : Word) (ones : Word) (hS0 : Sound s) : Sound (State.wrCmd s a w ones).2 := by
  unfold State.wrCmd
  (try dsimp only)
  repeat' (first | with_reducible assumption | with_reducible apply State.writeShed_sound | with_reducible apply State.laneClear_sound | with_reducible apply State.cmdClear_sound | with_reducible apply State.qPeakClear_sound | with_reducible apply State.commit_sound | with_reducible apply refuseIf_sound | with_reducible apply State.writeRpl_sound | (split; all_goals (try dsimp only)))

theorem State.wrTrn_sound (s : State) (a : Nat) (w : Word) (ones : Word) (mask : Word) (hS0 : Sound s) : Sound (State.wrTrn s a w ones mask).2 := by
  unfold State.wrTrn
  (try dsimp only)
  repeat' (first | with_reducible assumption | with_reducible apply State.trnClear_sound | with_reducible apply State.calPeakClear_sound | with_reducible apply State.waitClear_sound | with_reducible apply State.commit_sound | with_reducible apply State.fly_sound | with_reducible apply refuseIf_sound | (split; all_goals (try dsimp only)))

theorem State.wrBnk_sound (s : State) (a : Nat) (w : Word) (ones : Word) (mask : Word) (hS0 : Sound s) : Sound (State.wrBnk s a w ones mask).2 := by
  unfold State.wrBnk
  (try dsimp only)
  repeat' (first | with_reducible assumption | with_reducible apply State.bnkClear_sound | with_reducible apply State.faultClear_sound | with_reducible apply State.commit_sound | with_reducible apply State.fly_sound | with_reducible apply refuseIf_sound | (split; all_goals (try dsimp only)))

theorem State.wrPrf_sound (s : State) (a : Nat) (w : Word) (ones : Word) (hS0 : Sound s) : Sound (State.wrPrf s a w ones).2 := by
  unfold State.wrPrf
  (try dsimp only)
  repeat' (first | with_reducible assumption | with_reducible apply State.prfClear_sound | with_reducible apply State.vmClear_sound | with_reducible apply State.faultClear_sound | with_reducible apply State.commit_sound | with_reducible apply refuseIf_sound | (split; all_goals (try dsimp only)))

theorem State.writeLd_sound (s : State) (w : Word) (ones : Word) (hS0 : Sound s) : Sound (State.writeLd s w ones).2 := by
  unfold State.writeLd
  (try dsimp only)
  repeat' (first | with_reducible assumption | with_reducible apply State.setRf_sound | with_reducible apply State.ldOps_sound | (split; all_goals (try dsimp only)))

theorem State.wrVsn_sound (s : State) (a : Nat) (w : Word) (ones : Word) (mask : Word) (hS0 : Sound s) : Sound (State.wrVsn s a w ones mask).2 := by
  unfold State.wrVsn
  (try dsimp only)
  repeat' (first | with_reducible assumption | with_reducible apply sound_ite2 | with_reducible apply State.writeDelay_sound | with_reducible apply State.writeRef_sound | with_reducible apply State.writeFailed_sound | with_reducible apply State.writeSaved_sound | with_reducible apply State.writeSFailed_sound | with_reducible apply State.journalRestart_sound | with_reducible apply State.vsnClear_sound | with_reducible apply State.commit_sound | with_reducible apply State.fly_sound | with_reducible apply refuseIf_sound | with_reducible apply State.writeLd_sound | (split; all_goals (try dsimp only)))

theorem State.wrTim_sound (s : State) (a : Nat) (w : Word) (ones : Word) (mask : Word) (hS0 : Sound s) : Sound (State.wrTim s a w ones mask).2 := by
  unfold State.wrTim
  (try dsimp only)
  repeat' (first | with_reducible assumption | with_reducible apply State.commit_sound | with_reducible apply State.fly_sound | with_reducible apply refuseIf_sound | (split; all_goals (try dsimp only)))

theorem State.wrNet_sound (s : State) (a : Nat) (w : Word) (ones : Word) (hS0 : Sound s) : Sound (State.wrNet s a w ones).2 := by
  unfold State.wrNet
  (try dsimp only)
  repeat' (first | with_reducible assumption | with_reducible apply State.garp_sound | with_reducible apply State.netClear_sound | with_reducible apply State.commit_sound | (split; all_goals (try dsimp only)))

theorem State.wrLoop_sound (s : State) (a : Nat) (w : Word) (ones : Word) (hS0 : Sound s) : Sound (State.wrLoop s a w ones).2 := by
  unfold State.wrLoop
  (try dsimp only)
  repeat' (first | with_reducible assumption | with_reducible apply State.showLoop_sound | with_reducible apply State.writeLoopCtl_sound | with_reducible apply State.loopApply_sound | with_reducible apply State.hostSlot_sound | with_reducible apply State.hostInv_sound | with_reducible apply State.loopClear_sound | with_reducible apply State.commit_sound | (split; all_goals (try dsimp only)))

theorem State.armWrite_sound (s : State) (a : Nat) (w : Word) (ones : Word) (arm : State → Nat × State) (stop : State → State) (hS0 : Sound s) (harm : ∀ x, Sound x → Sound (arm x).2) (hstop : ∀ x, Sound x → Sound (stop x)) : Sound (State.armWrite s a w ones arm stop).2 := by
  have h1 := State.commit_sound s a w ones hS0
  unfold State.armWrite
  extract_lets s1 r
  have h2 : Sound r.2 := by
    unfold r
    split
    · exact harm _ h1
    · exact h1
  clear_value r
  split
  · exact sound_ite _ _ _ (hstop _ h2) h2
  · exact h2

theorem State.wrEph_sound (s : State) (a : Nat) (w : Word) (ones : Word) (hS0 : Sound s) : Sound (State.wrEph s a w ones).2 := by
  unfold State.wrEph
  (try dsimp only)
  repeat' (first | with_reducible assumption | (intro) | with_reducible apply State.writeBin_sound | with_reducible apply State.ephClearCnt_sound | with_reducible apply State.writeEphCtl_sound | with_reducible apply State.injArm_sound | with_reducible apply State.injAbort_sound | with_reducible apply State.capArm_sound | with_reducible apply State.capStop_sound | with_reducible apply State.commit_sound | with_reducible apply refuseIf_sound | with_reducible apply State.armWrite_sound | (split; all_goals (try dsimp only)))

theorem State.wrAfe_sound (s : State) (a : Nat) (w : Word) (ones : Word) (hS0 : Sound s) : Sound (State.wrAfe s a w ones).2 := by
  unfold State.wrAfe
  (try dsimp only)
  repeat' (first | with_reducible assumption | with_reducible apply State.writeExc_sound | with_reducible apply State.writeChenAfe_sound | with_reducible apply State.afeClear_sound | with_reducible apply State.commit_sound | (split; all_goals (try dsimp only)))

theorem State.wrFan_sound (s : State) (a : Nat) (w : Word) (ones : Word) (hS0 : Sound s) : Sound (State.wrFan s a w ones).2 := by
  unfold State.wrFan
  (try dsimp only)
  repeat' (first | with_reducible assumption | with_reducible apply State.writeFanEn_sound | with_reducible apply State.writeFanLock_sound | with_reducible apply State.fanClear_sound | with_reducible apply State.commit_sound | (split; all_goals (try dsimp only)))

theorem State.writeTxq_sound (s : State) (x : Nat) (ones : Word) (hS0 : Sound s) : Sound (State.writeTxq s x ones).2 := by
  unfold State.writeTxq
  (try dsimp only)
  repeat' (first | with_reducible assumption | with_reducible apply State.canPush_sound | with_reducible apply State.canAbortHead_sound | with_reducible apply State.canFlush_sound | (split; all_goals (try dsimp only)))

theorem State.writeTt_sound (s : State) (x : Nat) (b : Nat) (a : Nat) (w : Word) (ones : Word) (hS0 : Sound s) : Sound (State.writeTt s x b a w ones).2 := by
  unfold State.writeTt
  (try dsimp only)
  repeat' (first | with_reducible assumption | with_reducible apply State.canTtArm_sound | with_reducible apply State.canTtCancel_sound | with_reducible apply State.commit_sound | (split; all_goals (try dsimp only)))

theorem State.wrCan_sound (s : State) (x : Nat) (a : Nat) (w : Word) (ones : Word) (hS0 : Sound s) : Sound (State.wrCan s x a w ones).2 := by
  unfold State.wrCan
  (try dsimp only)
  repeat' (first | with_reducible assumption | with_reducible apply State.writeTsdiv_sound | with_reducible apply State.canRelease_sound | with_reducible apply State.writeCanCtl_sound | with_reducible apply State.commit_sound | with_reducible apply refuseIf_sound | with_reducible apply State.writeTxq_sound | with_reducible apply State.writeTt_sound | (split; all_goals (try dsimp only)))

theorem State.writeFreeze_sound (s : State) (ones : Word) (hS0 : Sound s) : Sound (State.writeFreeze s ones).2 := by
  unfold State.writeFreeze
  (try dsimp only)
  repeat' (first | with_reducible assumption | with_reducible apply State.thaw_sound | with_reducible apply State.freeze_sound | (split; all_goals (try dsimp only)))

theorem State.writeRecClear_sound (s : State) (ones : Word) (hS0 : Sound s) : Sound (State.writeRecClear s ones).2 := by
  unfold State.writeRecClear
  (try dsimp only)
  repeat' (first | with_reducible assumption | with_reducible apply State.recChal_sound | with_reducible apply State.recClear_sound | with_reducible apply refuseIf_sound | (split; all_goals (try dsimp only)))

theorem State.wrRec_sound (s : State) (a : Nat) (w : Word) (ones : Word) (hS0 : Sound s) : Sound (State.wrRec s a w ones).2 := by
  unfold State.wrRec
  (try dsimp only)
  repeat' (first | with_reducible assumption | with_reducible apply State.setReg_sound | with_reducible apply State.writeCursor_sound | with_reducible apply State.ckeyProg_sound | with_reducible apply State.recCounters_sound | with_reducible apply State.commit_sound | with_reducible apply State.wrKeyId_sound | with_reducible apply State.writeFreeze_sound | with_reducible apply State.writeRecClear_sound | (split; all_goals (try dsimp only)))

theorem State.wrSht_sound (s : State) (a : Nat) (w : Word) (ones : Word) (mask : Word) (hS0 : Sound s) : Sound (State.wrSht s a w ones mask).2 := by
  unfold State.wrSht
  (try dsimp only)
  repeat' (first | with_reducible assumption | with_reducible apply State.commit_sound | with_reducible apply State.fly_sound | with_reducible apply refuseIf_sound | (split; all_goals (try dsimp only)))

theorem State.wrPwr_sound (s : State) (a : Nat) (w : Word) (ones : Word) (mask : Word) (hS0 : Sound s) : Sound (State.wrPwr s a w ones mask).2 := by
  unfold State.wrPwr
  (try dsimp only)
  repeat' (first | with_reducible assumption | with_reducible apply State.commit_sound | with_reducible apply State.launch_sound | with_reducible apply State.fly_sound | with_reducible apply refuseIf_sound | (split; all_goals (try dsimp only)))

theorem State.wrGio_sound (s : State) (a : Nat) (w : Word) (ones : Word) (hS0 : Sound s) : Sound (State.wrGio s a w ones).2 := by
  unfold State.wrGio
  (try dsimp only)
  repeat' (first | with_reducible assumption | with_reducible apply State.doClear_sound | with_reducible apply State.gioClear_sound | with_reducible apply State.commit_sound | (split; all_goals (try dsimp only)))

theorem State.writeWord_sound (s : State) (a : Nat) (data : Word) (mask : Word) (hS0 : Sound s) : Sound (State.writeWord s a data mask).2 := by
  unfold State.writeWord
  (try dsimp only)
  repeat' (first | with_reducible assumption | with_reducible apply State.wrSys_sound | with_reducible apply State.wrImg_sound | with_reducible apply State.wrCmd_sound | with_reducible apply State.wrTrn_sound | with_reducible apply State.wrBnk_sound | with_reducible apply State.wrPrf_sound | with_reducible apply State.wrVsn_sound | with_reducible apply State.wrTim_sound | with_reducible apply State.wrNet_sound | with_reducible apply State.wrLoop_sound | with_reducible apply State.wrEph_sound | with_reducible apply State.wrAfe_sound | with_reducible apply State.wrFan_sound | with_reducible apply State.wrCan_sound | with_reducible apply State.wrRec_sound | with_reducible apply State.wrSht_sound | with_reducible apply State.wrPwr_sound | with_reducible apply State.wrGio_sound | (split; all_goals (try dsimp only)))

theorem State.swapIn_sound (s : State) (f : Flight) (act : State → Word → State) (hS0 : Sound s) (hact : ∀ x w, Sound x → Sound (act x w)) : Sound (State.swapIn s f act) := by
  exact hact _ _ hS0

theorem State.applyFlight_sound (s0 : State) (s : State) (f : Flight) (hS0 : Sound s0) (hS1 : Sound s) : Sound (State.applyFlight s0 s f) := by
  unfold State.applyFlight
  (try dsimp only)
  repeat' (first | with_reducible assumption | (intro) | with_reducible apply State.writeChen_sound | with_reducible apply State.writeBken_sound | with_reducible apply State.writeDry_sound | with_reducible apply State.clearArrives_sound | with_reducible apply State.timSet_sound | with_reducible apply State.activate_sound | with_reducible apply State.timSwitch_sound | with_reducible apply State.slewChanged_sound | with_reducible apply State.timClear_sound | with_reducible apply State.shtActs_sound | with_reducible apply State.commit_sound | with_reducible apply State.swapIn_sound | (split; all_goals (try dsimp only)))

theorem State.effect_sound (dt : Nat) (s : State) (d : Dom) (hS0 : Sound s) : Sound (State.effect dt s d) := by
  unfold State.effect
  (try dsimp only)
  repeat' (first | with_reducible assumption | with_reducible apply State.advance_sound | with_reducible apply State.applyFlight_sound | (split; all_goals (try dsimp only)) | (simp only [sound_mk, soundC_refold]))

/-! ### Shamel -/

theorem State.readRun_sound (s : State) (a : Nat) (z0 : Nat) (hS0 : Sound s) : Sound (State.readRun s a z0).2 := by
  induction z0 generalizing s a with
  | zero => exact hS0
  | succ n ih =>
    unfold State.readRun
    extract_lets r q
    split
    · exact hS0
    · exact ih _ _ (State.readWord_sound _ _ hS0)

theorem State.writeRun_sound (s : State) (a : Nat) (z0 : List Word) (hS0 : Sound s) : Sound (State.writeRun s a z0).2 := by
  induction z0 generalizing s a with
  | nil => exact hS0
  | cons w ws ih =>
    unfold State.writeRun
    extract_lets r q
    have h1 : Sound r.2 := State.writeWord_sound _ _ _ _ hS0
    split
    · exact h1
    · exact ih _ _ h1

theorem State.winReadRun_sound (s : State) (z0 : Nat) (hS0 : Sound s) : Sound (State.winReadRun s z0).2 := by
  induction z0 generalizing s with
  | zero => exact hS0
  | succ n ih => exact ih _ (State.winRead_sound _ hS0)

theorem State.winWriteRun_sound (s : State) (z0 : List Word) (hS0 : Sound s) : Sound (State.winWriteRun s z0).2 := by
  induction z0 generalizing s with
  | nil => exact hS0
  | cons w ws ih =>
    unfold State.winWriteRun
    extract_lets r q
    have h1 : Sound r.2 := State.winWrite_sound _ _ hS0
    split
    · exact h1
    · exact ih _ h1

theorem State.perform_sound (s : State) (z0 : Op) (hS0 : Sound s) : Sound (State.perform s z0).2.1 := by
  unfold State.perform
  (try dsimp only)
  repeat' (first | with_reducible assumption | with_reducible apply State.writeWord_sound | with_reducible apply State.readRun_sound | with_reducible apply State.writeRun_sound | with_reducible apply State.winReadRun_sound | with_reducible apply State.winWriteRun_sound | (split; all_goals (try dsimp only)))

theorem State.runOps_sound (s : State) (f : Frame) (z0 : List Op) (hS0 : Sound s) : Sound (State.runOps s f z0).1 := by
  induction z0 generalizing s f with
  | nil => exact hS0
  | cons op ops ih =>
    unfold State.runOps
    split
    · exact ih _ _ hS0
    · extract_lets r s1 f1
      have h0 : Sound r.2.1 := State.perform_sound _ _ hS0
      have h1 : Sound s1 := State.answer_sound _ _ _ _ h0
      clear_value s1 r
      split
      · exact h0
      · split
        · exact h1
        · exact ih _ _ h1

theorem State.sendResp_sound (s : State) (r : Response) (hS0 : Sound s) : Sound (State.sendResp s r) := by
  unfold State.sendResp
  (try dsimp only)
  repeat' (first | with_reducible assumption | with_reducible apply State.originate_sound | (simp only [sound_mk, soundC_refold]))

theorem State.keepResp_sound (s : State) (f : Frame) (bs : List Byte) (hS0 : Sound s) : Sound (State.keepResp s f bs) := by
  unfold State.keepResp
  (try dsimp only)
  repeat' (first | with_reducible assumption | (simp only [sound_mk, soundC_refold]))

theorem State.endFrame_sound (s : State) (f : Frame) (hS0 : Sound s) : Sound (State.endFrame s f) := by
  unfold State.endFrame
  (try dsimp only)
  repeat' (first | with_reducible assumption | with_reducible apply State.keepResp_sound | (split; all_goals (try dsimp only)) | (simp only [sound_mk, soundC_refold]))

theorem State.runFrame_sound (s : State) (f : Frame) (hS0 : Sound s) : Sound (State.runFrame s f).1 := by
  unfold State.runFrame
  (try dsimp only)
  repeat' (first | with_reducible assumption | with_reducible apply State.runOps_sound | with_reducible apply State.endFrame_sound | (split; all_goals (try dsimp only)) | (simp only [sound_mk, soundC_refold]))

theorem State.park_sound (s : State) (h : Held) (hS0 : Sound s) : Sound (State.park s h) := by
  unfold State.park
  (try dsimp only)
  repeat' (first | with_reducible assumption | (split; all_goals (try dsimp only)) | (simp only [sound_mk, soundC_refold]))

theorem State.holdAt_sound (s : State) (i : Nat) (x : Option Held) (hS0 : Sound s) : Sound (State.holdAt s i x) := by
  unfold State.holdAt
  (try dsimp only)
  repeat' (first | with_reducible assumption | (simp only [sound_mk, soundC_refold]))

theorem State.runWaiting_sound (s : State) (z0 : List Frame) (hS0 : Sound s) : Sound (State.runWaiting s z0) := by
  induction z0 generalizing s with
  | nil => exact hS0
  | cons f fs ih =>
    unfold State.runWaiting
    extract_lets r s1
    have h0 : Sound r.1 := State.runFrame_sound _ _ hS0
    have h1 : Sound s1 := by
      unfold s1
      split
      · exact State.park_sound _ _ h0
      · exact h0
    clear_value s1
    exact sound_ite _ _ _ (ih _ h1) h1

theorem State.startFrame_sound (s : State) (f : Frame) (hS0 : Sound s) : Sound (State.startFrame s f) := by
  unfold State.startFrame
  (try dsimp only)
  repeat' (first | with_reducible assumption | with_reducible apply State.runWaiting_sound | (split; all_goals (try dsimp only)) | (simp only [sound_mk, soundC_refold]))

theorem State.goOn_sound (s : State) (h : Held) (hS0 : Sound s) : Sound (State.goOn s h).1 := by
  unfold State.goOn
  (try dsimp only)
  repeat' (first | with_reducible assumption | with_reducible apply State.runFrame_sound | (split; all_goals (try dsimp only)))

theorem State.nextFrames_sound (s : State) (hS0 : Sound s) : Sound (State.nextFrames s) := by
  unfold State.nextFrames
  (try dsimp only)
  repeat' (first | with_reducible assumption | with_reducible apply State.runWaiting_sound | (split; all_goals (try dsimp only)))

theorem State.goOnHeld_sound (s : State) (i : Nat) (h : Held) (hS0 : Sound s) : Sound (State.goOnHeld s i h) := by
  unfold State.goOnHeld
  (try dsimp only)
  repeat' (first | with_reducible assumption | with_reducible apply State.holdAt_sound | with_reducible apply State.goOn_sound | with_reducible apply State.nextFrames_sound | (simp only [sound_mk, soundC_refold]))

theorem State.goOnFront_sound (s : State) (h : Held) (hS0 : Sound s) : Sound (State.goOnFront s h) := by
  unfold State.goOnFront
  (try dsimp only)
  repeat' (first | with_reducible assumption | with_reducible apply State.park_sound | with_reducible apply State.goOn_sound | with_reducible apply State.nextFrames_sound | (split; all_goals (try dsimp only)) | (simp only [sound_mk, soundC_refold]))

theorem State.fenceComplete_sound (s : State) (hS0 : Sound s) : Sound (State.fenceComplete s) := by
  unfold State.fenceComplete
  (try dsimp only)
  repeat' (first | with_reducible assumption | with_reducible apply State.goOnHeld_sound | with_reducible apply State.goOnFront_sound | (split; all_goals (try dsimp only)))

theorem State.fenceRelease_sound (s : State) (hS0 : Sound s) : Sound (State.fenceRelease s) := by
  unfold State.fenceRelease
  (try dsimp only)
  repeat' (first | with_reducible assumption | with_reducible apply State.reachNt_sound | with_reducible apply State.runFrame_sound | with_reducible apply State.holdAt_sound | (split; all_goals (try dsimp only)) | (simp only [sound_mk, soundC_refold]))

theorem State.shmDiscard_sound (s : State) (check : Nat) (ip : Word) (hS0 : Sound s) : Sound (State.shmDiscard s check ip) := by
  unfold State.shmDiscard
  (try dsimp only)
  repeat' (first | with_reducible assumption | with_reducible apply State.count_sound | with_reducible apply State.episode_sound)

theorem State.shmRefuse_sound (s : State) (src : Peer) (port : Nat) (seq : Nat) (flags : Nat) (bit : Nat) (hS0 : Sound s) : Sound (State.shmRefuse s src port seq flags bit) := by
  unfold State.shmRefuse
  (try dsimp only)
  repeat' (first | with_reducible assumption | with_reducible apply State.count_sound | with_reducible apply State.sendResp_sound | (split; all_goals (try dsimp only)))

theorem State.keepSender_sound (s : State) (x : Sender) (hS0 : Sound s) : Sound (State.keepSender s x) := by
  unfold State.keepSender
  (try dsimp only)
  repeat' (first | with_reducible assumption | (simp only [sound_mk, soundC_refold]))

theorem State.acceptFrame_sound (s : State) (f : Frame) (hS0 : Sound s) : Sound (State.acceptFrame s f) := by
  unfold State.acceptFrame
  (try dsimp only)
  repeat' (first | with_reducible assumption | with_reducible apply State.count_sound | with_reducible apply State.sendResp_sound | with_reducible apply State.startFrame_sound | with_reducible apply State.keepSender_sound | (split; all_goals (try dsimp only)))

theorem State.shamelFrame_sound (s0 : State) (src : Peer) (port : Nat) (p : List Byte) (hS0 : Sound s0) : Sound (State.shamelFrame s0 src port p) := by
  unfold State.shamelFrame
  (try dsimp only)
  repeat' (first | with_reducible assumption | with_reducible apply State.takeOffer_sound | with_reducible apply State.wdogRestart_sound | with_reducible apply State.shmDiscard_sound | with_reducible apply State.shmRefuse_sound | with_reducible apply State.acceptFrame_sound | (split; all_goals (try dsimp only)))

theorem State.shamelResponse_sound (s : State) (hS0 : Sound s) : Sound (State.shamelResponse s) := by
  unfold State.shamelResponse
  (try dsimp only)
  repeat' (first | with_reducible assumption | with_reducible apply State.sendResp_sound | with_reducible apply State.keepResp_sound | (split; all_goals (try dsimp only)) | (simp only [sound_mk, soundC_refold]))

theorem State.oneOp_sound (s : State) (op : Op) (hS0 : Sound s) : Sound (State.oneOp s op) := by
  unfold State.oneOp
  (try dsimp only)
  repeat' (first | with_reducible assumption | with_reducible apply State.startFrame_sound | (split; all_goals (try dsimp only)))

/-! ### TestPort -/

theorem State.testLoad_sound (s : State) (i : TestInstr) (hS0 : Sound s) : Sound (State.testLoad s i) := by
  unfold State.testLoad
  (try dsimp only)
  repeat' (first | with_reducible assumption | (simp only [sound_mk, soundC_refold]))

end Sys2Proof.Machine
end

