-- ==== Sys2Proof/Tests/Slice0.lean ====
section
/-! SUPPORT. Small states, the witnesses of the statements' hypotheses, the well-formedness smoke test and a few small tests of single steps. -/

namespace Sys2Proof.Tests

open Sys2Proof Sys2Proof.Machine

set_option Elab.async false

/-! ### Building small states -/

/-- A state with some registers written. -/
def regs (l : List (Nat × Nat)) (s : State) : State := l.foldl (fun x p => x.setReg p.1 (w32 p.2)) s

/-- The reset state in another device state. -/
def dev (d : DevState) (s : State) : State := { s with sys := { s.sys with dev := d } }

/-- A state with the working copy of one section of the image. -/
def sect (id : Nat) (bs : List Nat) (s : State) : State :=
  { s with img := { s.img with sects := (List.range 16).map fun k => if k + 1 = id then bs.map (BitVec.ofNat 8) else s.sect (k + 1) } }

/-- Profile 1: T_BST_MAX 100 µs, T_PK 200 µs, REL_MODE 0, T_REL_MAX 50 µs, FALLBACK 2, MAX_SHOT 50 ms, MIN_OFF 10 µs. Profile 2: no boost. -/
def profBytes : List Nat :=
  [100, 0, 100, 0, 80, 0, 200, 0, 40, 0, 0, 20, 0, 0, 50, 2, 50, 0, 20, 0, 10, 0, 0x88, 0x13, 10, 0, 0, 0, 0, 0, 0, 0,
   0, 0, 0, 0, 80, 0, 200, 0, 40, 0, 0, 20, 2, 0, 50, 2, 0, 0, 0, 0, 10, 0, 0x88, 0x13, 10, 0, 0, 0, 0, 0, 0, 0]

/-- Bank 0 is an ejection bank, bank 1 proportional with dither at 100 Hz. -/
def bankBytes : List Nat := List.replicate 16 0 ++ [1, 0, 0, 0, 1, 0, 0, 0, 0, 0, 0, 0, 0, 0, 0, 0] ++ [2, 0, 0, 0, 1, 5, 10, 0, 100, 0, 20, 0, 0, 0, 0, 0]

/-- ARMED with an image whose lane 0 is valve 0 under profile 1. -/
def armed : State :=
  dev .armed (sect 3 [0, 0xFF, 0, 0, 1, 0, 0, 0] (sect 4 bankBytes (sect 5 profBytes (sect 6 [1]
    (regs [(Reg.IMG_STATUS, 3), (Reg.CMD_MIN_LEAD, 500), (Reg.TRN_FREEZE, 100), (Reg.BNK_CHEN, 0xFFFFFFFF), (Reg.BNK_BKEN, 0xFFF), (Reg.BNK_CHST, 0x55555555), (Reg.BNK_BKST, 0x555555),
      (Reg.PRF_VBST, 240)] State.reset)))))

/-- A timed command for lane 0 of 10 µs at 1 ms, and a cancel of its tag, and a marker. -/
def cmd0 : Cmd := { stamp := 1000000, w1 := 0x00000200, w2 := 0x00070000, source := 1 }
/-- The cancel. -/
def cancel0 : Cmd := { stamp := 900000, w1 := 0x80000000, w2 := 0x00070000, source := 1 }
/-- The marker. -/
def marker0 : Cmd := { stamp := 800000, w1 := 0xC0000000, w2 := 0x00090000, source := 1 }
/-- The request of the command. -/
def req0 : Req := { cmd := cmd0, lane := 0, valve := 0, prof := 1, shift := 0, fixed := none, subst := false }

/-- Profile 1 with a band of 20 mA about its hold current. -/
def banded : List Byte := (armed.prof 1).set 10 20
/-- A shot of that request, frozen and closed. -/
def shot0 : Shot :=
  { id := 7, req := req0, q := 1000000, e := 1010000, openRef := 1000000, openAt := 1000000, dUsed := 0, decision := .boost, own := armed.prof 1, fb := armed.prof 2, joins := []
    pflags := 0, deferSh := 0, waitSh := 0, pendSh := 0, closed := true, closeTick := 0, frozenAt := 0, dry := false, phase := .frozen, hbLead := false, xprof := 1, relAt := none
    relStart := 0, confirm := 0, openTick := 0, stepping := false, dflags := 0, vbst := 0, tbst := 0, imax := 0, arr := none, depth := 0, learned := none, capture := none }

/-- A state with shots. -/
def shots (l : List Shot) (s : State) : State := { s with trn := { s.trn with shots := l } }

/-- A state with calendar entries. -/
def cal (l : List CalEntry) (s : State) : State := { s with trn := { s.trn with cal := l } }

/-- A state with intake queue entries. -/
def queue (l : List Cmd) (s : State) : State := { s with cmd := { s.cmd with queue := l } }

/-! ### Intake and REPLAY -/

/-- A command frame of one command for lane 0, with its CRC. -/
def frame1 : List Byte :=
  let h : List Byte := leBytes 2 0x434D ++ [1, 0, 9, 0] ++ leBytes 2 1 ++ leBytes 4 0 ++ leBytes 8 0 ++ leBytes 4 0 ++ leBytes 4 0
  let c : List Byte := leBytes 4 62500 ++ leBytes 4 0x200 ++ leBytes 4 0x70000
  h ++ leBytes 4 (crc32c (h ++ c)).toNat ++ c

/-- A command frame of no command, with its CRC. -/
def frame0 : List Byte :=
  let h : List Byte := leBytes 2 0x434D ++ [1, 0, 9, 0] ++ leBytes 2 0 ++ leBytes 4 0 ++ leBytes 8 0 ++ leBytes 4 0 ++ leBytes 4 0
  h ++ leBytes 4 (crc32c h).toNat

/-- The same frame with a wrong magic. -/
def badMagic : List Byte := 0 :: frame1.drop 1
/-- The same frame with a wrong CRC. -/
def badCrc : List Byte := frame1.take 28 ++ [0, 0, 0, 0] ++ frame1.drop 32

/-- Shed level 1 with MIN 0 and HOLD 1 ms, by queue length. -/
def shed (n : Nat) : State :=
  regs [(Reg.CMD_SHED_LVL, 0x00000A01)] { queue (List.replicate n cmd0) armed with cmd := { (queue (List.replicate n cmd0) armed).cmd with fillAt := 5 } }

/-- An open episode of 3 refusals of cause 5. -/
def epis : State := { State.reset with episodes := [{ code := 0x0201, key := 5, args := [5, 0, 0, 0], opened := 0, last := 10, count := 3, level := 0 }] }

/-- A REPLAY region of one unit. -/
def rpl (s : State) : State := { s with img := { s.img with rplSize := 1 } }

/-- A stream of one entry whose CRC is wrong, with its end. -/
def stream : State := rpl { armed with dram := [(0xC0000000, 4), (0xC0000010, 1)] }

/-! ### Transit -/

/-- The request's freeze point lies ahead. -/
def frozen0 : State := cal [{ cmd := cmd0, reqs := [req0] }] armed
/-- The same with its cancel. -/
def cancelled0 : State := cal [{ cmd := cmd0, reqs := [req0] }, { cmd := cancel0, reqs := [] }] armed
/-- The same with a marker. -/
def marked0 : State := cal [{ cmd := marker0, reqs := [] }] armed

/-- A shot handed to its die. -/
def handed : State := shots [{ shot0 with phase := .handed }] armed
/-- A shot running in a phase. -/
def running (p : Phase) : State := shots [{ shot0 with phase := p, openTick := 10 }] armed

/-! ### Driving, faults, learning -/

/-- Samples with a knee at 25 and an arrival. -/
def samples : List Sample := (List.range 45).map fun k => ⟨BitVec.ofNat 12 (if k ≤ 24 then 10 * k else if k ≤ 30 then 240 else 240 + 10 * (k - 30)), 8⟩

/-- A shot in hold whose channel has conducted since its open instant. -/
def conducts : State :=
  { shots [{ shot0 with phase := .hold, openTick := 10, e := 1100000 }] armed with drv := { armed.drv with marks := [⟨10, 1, 0, 0⟩], ls := 1 } }

/-- A shot in hold with its arrival measured. -/
def arrived : State := shots [{ shot0 with phase := .hold, openTick := 10, arr := some 600, confirm := 40, own := shot0.own.set 19 0x10 }] armed

/-- The proportional bank's update is due. -/
def propDue : State := { armed with loop := { armed.loop with propAt := some 46000 } }

/-- One clear waits. -/
def clearing (a b : Nat) : State := { regs [(Reg.BNK_CHFLT, 0x3F), (Reg.BNK_CHFLT + 380, 0x3F), (Reg.PRF_VFLT, 2)] armed with drv := { armed.drv with clears := [⟨a, b, 0⟩] } }

/-- A marker record waits for a journal ring of one unit. -/
def journal : State := { armed with vsn := { armed.vsn with jq := [.marker marker0 800000] }, img := { armed.img with jrnSize := 1 } }

/-- A state with another intake part. -/
def cmdIn (f : CmdState → CmdState) (s : State) : State := { s with cmd := f s.cmd }

/-- A capture engine waits for its samples. -/
def capturing : State := { armed with vsn := { armed.vsn with engines := [some { shot := 7, valve := 0, dec := 1, pre := 0, openTick := some 10, samples := none, record := none }, none, none, none] } }

/-- A capture engine whose shot's record is written; a capture ring of one unit. -/
def recorded : State :=
  regs [(Reg.VSN_CAP_SLOTS, 2)] { armed with img := { armed.img with capSize := 1 }, vsn := { armed.vsn with engines := [some { shot := 7, valve := 0, dec := 1, pre := 0, openTick := some 10, samples := none, record := some (List.replicate 64 9, some 3, none) }, none, none, none] } }

/-! ### Recorder -/

/-- The recorder has started and an event waits. -/
def recWaiting : State := { armed with rcd := { armed.rcd with started := true, queue := [armed.mkEvent 0x0203 [1] false 0] } }

/-- The recorder with other fields. -/
def recIn (f : Rec → Rec) (s : State) : State := { s with rcd := f s.rcd }

/-- A challenge is open in READY, the clear key set. -/
def chal : State :=
  regs [(Reg.REC_CKEY_CTL, 2), (Reg.REC_WRAP, 3)] (dev .ready (recIn (fun r => { r with started := true, challenge := some (List.replicate 16 7), key := some (List.replicate 32 9), lockUntil := 0 }) armed))

/-- The right answer to that challenge stands in REC_AUTH. -/
def chalRight : State :=
  let a := chal.response (List.replicate 16 7)
  regs ((List.range 4).map fun k => (Reg.REC_AUTH + 4 * k, leAt a (4 * k) 4)) chal

/-! ### Ring link and network time -/

/-- A queued frame. -/
def qf (n : Nat) : QFrame := { kind := .forwarded, dst := 5, src := 6, etype := 0x0800, vlan := none, tag := some (0, 96, n), dest := none, len := 100, bad := false, ingress := none, bytes := [] }

/-- Both ports up, transmitters on, with these queues on PA. -/
def ringUp (qs : List (List QFrame)) : State :=
  { regs [(Reg.NET_IPV4, 0x64)] armed with
    sys := { armed.sys with ethOn := true }
    net := { armed.net with pa := { up := true, mode := 2, cfg := 2, altTick := 0, queues := qs }, pb := { up := true, mode := 3, cfg := 3, altTick := 0, queues := [[], [], [], []] }
                            nodes := [{ mac := 5, used := 40, high := 9, seen := [9, 8] }, { mac := 6, used := 30, high := 9, seen := [9] }] } }

/-- The transmitters on and no link. -/
def ringDown : State := { armed with sys := { armed.sys with ethOn := true }, net := { armed.net with pa := { armed.net.pa with mode := 1 }, pb := { armed.net.pb with mode := 2 } } }

/-- A frame from station 5 with sequence number 9 for station `d`. -/
def rx (d : Nat) : RxFrame := { dst := d, src := 5, hsr := some 9, path := 0, lsduOk := true, pcp := none, vid := 0, etype := 0x0800, len := 100, fcsOk := true, q := 0, payload := [] }

/-- A state with a TIMC section: domains 0 and 1, and what servo and peer delay need. -/
def timc : List Nat := [0, 1, 0, 0, 0, 0, 0, 8, 8, 3, 3, 0, 200, 0, 100, 0, 16, 0, 64, 0, 0, 0, 0, 0]

/-- LOCKED on domain A. -/
def locked : State := { sect 13 timc (ringUp [[], [], [], []]) with tim := { armed.tim with mode := .locked, active := 0 } }

/-- One Sync with both copies waits. -/
def syncDue : State := { locked with tim := { locked.tim with waits := [{ dom := 0, src := 5, seq := 1, tick := 0, last := 0, copies := [(0, 640), (1, 1280)] }] } }

/-- A foreign master of domain A is kept and selected. -/
def master : State :=
  let f : Foreign := { src := 5, gm := 5, rank := [1, 2, 3], logInt := 0, seq := 1, last := 0, prev := none }
  { locked with tim := { locked.tim with da := { locked.tim.da with foreign := [f], sel := some (5, 5), lastSync := some 0, tracked := true }, db := { locked.tim.db with foreign := [f] } } }

/-- A peer delay exchange runs on both ports. -/
def pdelay : State :=
  let x : PdPort := { seq := 3, asked := true, t1 := some 0, sentTick := 0, okRun := 0, noRun := 2, valid := true, delay := none, lastValid := 0 }
  { locked with tim := { locked.tim with pd0 := x, pd1 := x } }

/-- The same with its request still in the queue of PA. -/
def asking : State :=
  { pdelay with net := { pdelay.net with pa := { pdelay.net.pa with queues := [[], [], [], [{ qf 3 with kind := .pdelay, bytes := List.replicate 31 0 ++ [3] ++ List.replicate 22 0 }]] } } }

/-! ### General I/O and fans -/

/-- AO 0 in current mode, AO 1 in voltage mode; encoders ×4 with ZCLR; DI 31 inverted. -/
def io : State :=
  sect 12 ([2] ++ List.replicate 15 0 ++ [1] ++ List.replicate 236 0 ++ [1, 0, 0] ++ List.replicate 64 0 ++ [3, 0, 1, 0, 0, 0, 0, 0, 3, 0, 0, 0]) { armed with loop := { armed.loop with ioAt := some 47000 } }

/-- Changed levels wait since tick 1: at DI 31, and at encoder 0 on A and B as asked. -/
def waiting (a b : Bool) : State :=
  { io with gio := { io.gio with diWait := [(31, some 1)], encWait := (if a then [(0, some 1)] else []) ++ (if b then [(1, some 1)] else []) } }

/-- Encoder 0 with a filter of 40 ns at these levels. -/
def filtered (a b : Bool) : State :=
  sect 12 (List.replicate 320 0 ++ [3, 0, 1, 0, 2]) { armed with gio := { armed.gio with encAb := [(0, (a, b))] } }

/-- Fan 0 with a tach and switch 0, fan 1 of type 2 on switch 1, both running; fan 0 LOCKED bit. -/
def fans : State :=
  let s := regs [(Reg.FAN_ST, 0x00020003), (Reg.FAN_ST + 4, 0x00000003), (Reg.FAN_EN, 1), (Reg.FAN_LOCK, 2)]
    (sect 10 (List.replicate 8 0 ++ [1, 0, 0xFF, 2, 1, 0, 3, 0, 0, 0, 0, 0, 0, 0, 0, 0, 5, 0, 0, 0, 0, 0, 0, 0] ++ [2, 1, 0xFF, 2, 1, 0, 0, 0, 0, 0, 0, 0, 0, 0, 0, 0, 5, 0, 0, 0, 0, 0, 0, 0]) armed)
  { s with fan := { s.fan with zoneAt := some 48000, fans := [(0, { since := 0, edges := [0], speed := 7, lost := 0, good := 0, inBand := 0, below := 0, held := 0 })] }
           clk := { s.clk with now := 250 } }

/-! ### Loops, Ephemeris, generators, capture channels -/

/-- Loop 0 in AUTO with a period of one beat, phase 6 µs, PV from slot 0; one execution behind it. -/
def loop0 : State :=
  let s := regs [(loopReg Reg.LOOP_CFG 0, 0x00060001), (loopReg Reg.LOOP_CTL 0, 2), (loopReg Reg.LOOP_FFSLOT 0, 0x400), (loopReg Reg.LOOP_SLOT 0, 0), (loopReg Reg.LOOP_SP 0, 0x00030000), (loopReg Reg.LOOP_KP 0, 77)] armed
  { s with clk := { s.clk with beatAny := true }, inputs := [(0, ⟨0x00010000, 0⟩)]
           loop := { s.loop with todo := [0, 3], outs := [0]
                                 ctx := [(0, { coef := [0x01000000, 0x00100000, 0x00800000, 0, 0x8000, 0x80000000, 0x7FFFFFFF, 0x80000000, 0x7FFFFFFF, 0x100, 7], sel := 0, acc := 5, d := 9, xPrev := some 4
                                               y := 70000, e := 3, last := 2, fall := none, viaFb := false })] } }

/-- A computed execution of loop 0 that finishes on tick `k`. -/
def computed (k : Nat) : State :=
  { loop0 with loop := { loop0.loop with runs := [{ loop := 0, finish := k, mode := 2, held := false, ctx := { loop0.lc 0 with y := 5, e := 6, d := 7 }, errTag := 0, fresh := true, lim := false, j := none, lrn := false, track := false
                                                    learn := [], ff := 0, inj := none, injOn := false, sp := 0, pv := 0, pvTag := 0, u := 0 }] } }

/-- The same, held. -/
def computedHeld (k : Nat) : State := { computed k with loop := { (computed k).loop with runs := (computed k).loop.runs.map fun r => { r with held := true } } }

/-- Loop 0 in OFF. -/
def loopOff : State := regs [(loopReg Reg.LOOP_CTL 0, 0)] loop0

/-- Loop 0 owns 16 bins from 31 on, with initial values. -/
def bins : State := regs [(ephReg Reg.EPH_CFG 0, 0x001F0040)] { sect 8 (List.replicate 28 0 ++ [32, 0, 0, 0] ++ [1, 2, 3, 4]) loopOff with eph := { loopOff.eph with bins := [(30, 4), (33, 5), (47, 6)] } }

/-- A generator and a capture channel bound to loop 0, both active and done with their length; a captured record waits. -/
def tuning : State :=
  let s := regs [(genReg Reg.EPH_IGCTL 0, 0x02000000), (genReg Reg.EPH_IGAMP 0 + 4, 4), (genReg Reg.EPH_IGM 0, 4), (chanReg Reg.EPH_CCTL 0, 0x02000000), (chanReg Reg.EPH_CBASE 0 + 4, 2), (chanReg Reg.EPH_CCNT 0, 2)] loopOff
  { s with eph := { s.eph with gens := [(0, { bound := some 0, start := 0, theta := 0, lfsr := 0, bit := false })], chans := [(0, { bound := some 0, start := none, seen := 2, missed := 0 })]
                               capq := [(0, 1, 0x40000000, [1, 2, 3])] } }

/-- A generator and a capture channel free to be armed on loop 0. -/
def armable : State :=
  let s := regs [(genReg Reg.EPH_IGAMP 0 + 4, 4), (chanReg Reg.EPH_CBASE 0, 64), (chanReg Reg.EPH_CBASE 0 + 4, 2)] loopOff
  { s with img := { s.img with capSize := 1 } }

/-! ### Front end -/

/-- Channel 0 in mode `m` at M = 64 with what it holds, the others off. -/
def front (cfg : Nat) (f : AfeCh → AfeCh) : State :=
  let s := regs [(cfgA 0, cfg), (Reg.AFE_CHEN, 1), (excA 0, 0x00000102)] armed
  { s with afe := { s.afe with chans := [(0, f (chNone 0))] } }

/-- An output window of channel 0 is finished. -/
def window (cfg : Nat) (f : AfeCh → AfeCh) : State := front cfg fun c => f { c with out := some { sum := 12345678, range := 3, tr := true, sat := true, tick := 0, pts := [] } }

/-! ### CAN FD -/

/-- A frame to send and a received one. -/
def tx0 : CanFrame := { w0 := 0x123, ctl := 2, data := [1, 2] }
/-- A received frame of identifier 0x123. -/
def rx0 : CanRx := { id := 0x123, ide := false, rtr := false, fdf := false, brs := false, esi := false, dlc := 2, data := [1, 2], ago := 0 }

/-- Both controllers in NORMAL on the bus; element 0 accepts every frame into the place that `act` names. -/
def bus (act : Nat) (f : Can → Can) : State :=
  let s := regs ([(Reg.CAN_CTL 0, 0x41), (Reg.CAN_CTL 1, 0x01)] ++ [(Reg.CAN_FCTL 0, 1 + 16 * act), (Reg.CAN_FCTL 1, 1 + 16 * act)]) armed
  { s with can0 := f { s.can0 with mode := 1 }, can1 := f { s.can1 with mode := 1 } }

/-! ### Changing one part of a state -/

/-- A state with another device part. -/
def sysIn (f : Sys → Sys) (s : State) : State := { s with sys := f s.sys }
/-- A state with another image part. -/
def imgIn (f : Img → Img) (s : State) : State := { s with img := f s.img }
/-- A state with another timebase part. -/
def timIn (f : Tim → Tim) (s : State) : State := { s with tim := f s.tim }
/-- A state with another Shutter part. -/
def shtIn (f : Sht → Sht) (s : State) : State := { s with sht := f s.sht }
/-- A state with another Shamel part. -/
def shmIn (f : Shm → Shm) (s : State) : State := { s with shm := f s.shm }
/-- A state with another network part. -/
def netIn (f : Net → Net) (s : State) : State := { s with net := f s.net }
/-- A state with another drive part. -/
def drvIn (f : Drv → Drv) (s : State) : State := { s with drv := f s.drv }

/-- READY with the image of `armed`. -/
def rdy : State := dev .ready armed

/-- A busy state: a queue, a calendar, shots before and after their open instant, a bank conducting. -/
def busy : State :=
  queue [cmd0, cancel0] (cal [{ cmd := cmd0, reqs := [req0] }] (shots [shot0, { shot0 with id := 8, phase := .hold }, { shot0 with id := 9, phase := .boost }]
    (drvIn (fun d => { d with ls := 1, hb := 1 }) (regs [(Reg.SYS_WDOG, 0x1000A), (Reg.PWR_PFCFG, 87)] armed))))

/-- The unpowered module. -/
def dark : State := sysIn (fun x => { x with powered := false }) armed

/-- READY, locked, with everything arming asks for, the first word for `b` written. -/
def armable2 (b : Bool) : State := sysIn (fun x => { x with armStep := some (0, b) }) (timIn (fun t => { t with mode := .locked }) (regs [(Reg.PWR_STAT, 2)] rdy))

/-- A verified staging area and a swap instant. -/
def swapAtInst (ns sec st : Nat) (s : State) : State := regs [(Reg.IMG_STATUS, st), (Reg.IMG_SWAP_AT_NS, ns), (Reg.IMG_SWAP_AT_SEC_LO, sec)] s

/-- Both NOR slots valid in the directory. -/
def bothValid (s : State) : State := s.dirWrite { seq := 7, valid := (true, true), prefB := false, serialA := 5, serialB := 6 }

/-- A write in flight. -/
def flight (d : Dom) (a k : Nat) : Flight := { dom := d, addr := a, before := 7, data := 9, mask := BitVec.allOnes 32, issued := k }

/-- A frame under transmission by CAN 0 and CAN 1 from source `src`, number `n`. -/
def sending (src n : Nat) : CanTx := { src := src, num := n, frame := tx0, start := 0, abort := false }

/-- Timed buffer 0 of both controllers in state `st` with a window and an instant of 5 µs. -/
def timed0 (st : Nat) (s : State) : State :=
  regs ((List.range 2).flatMap fun x => [(ttA x 0 + 16, 100), (ttA x 0 + 4, 5000), (ttA x 0, 4 * st)]) s

/-- A Shamel frame with these bytes of ops. -/
def shamel (node seq n flags : Nat) (body : List Byte) : List Byte :=
  leBytes 2 0x534D ++ by1 1 ++ by1 node ++ leBytes 4 seq ++ leBytes 2 n ++ leBytes 2 flags ++ leBytes 4 (crc32c body).toNat ++ body
/-- One READ of one word. -/
def readOp : List Byte := [1, 1, 0, 0] ++ leBytes 4 0x10000
/-- A frame for every module with that READ. -/
def shamel1 : List Byte := shamel 0xFF 7 1 0 readOp
/-- A READ and a WRITE of host slot 3. -/
def readSlot : List Byte := shamel 0xFF 8 1 0 ([1, 1, 0, 0] ++ leBytes 4 (Reg.LOOP_HVAL + 12))
/-- The WRITE. -/
def writeSlot : List Byte := shamel 0xFF 8 1 0 ([2, 1, 0, 0] ++ leBytes 4 (Reg.LOOP_HVAL + 12) ++ leBytes 4 7)
/-- Two senders are known; the first has its response stored. -/
def asked : State :=
  shmIn (fun m => { m with senders := [{ ip := 5, port := 9, seq := 7, resp := some [1, 2, 3, 4, 5, 6, 7, 8, 9, 10, 0, 0] }, { ip := 6, port := 9, seq := 7, resp := none }] })
    (regs [(Reg.NET_STAT, 0x100)] (ringUp [[], [], [], []]))
/-- A frame of a bare op. -/
def bareFrame : Frame := { ip := 0, mac := 0, port := 65536, seq := 0, noResp := true, stop := false, ops := [], results := [], skip := false, latches := [] }

/-! ### Witnesses: for each clause of a statement a state and operands that meet its hypotheses together -/

/-- A state and operands for the hypotheses of each clause of CommandFrameTakenOrRefusedWhole. -/
theorem witness_commandFrameTakenOrRefusedWhole :
    [(let s0 : State := armed; (let dt : Nat := 7; (let p : List Byte := frame0; decide (s0.sys.powered = true) && (let s := s0.pass (s0.checkWait p dt); decide (s.bit Reg.CMD_RPL_CTL 0 = false ∧ s.cmd.coming = [] ∧ s.frameCause p = 0 ∧ leAt p 6 2 = 0))))),
     (let s0 : State := armed; (let dt : Nat := 12289; (let p : List Byte := frame1; decide (s0.sys.powered = true) && (let s := s0.pass (s0.checkWait p dt); decide (s.bit Reg.CMD_RPL_CTL 0 = false ∧ s.cmd.coming = [] ∧ s.frameCause p = 0) && (match frameCmds p (s.stampOffset (leAt p 3 1)) 0 with | c :: _ => decide (s.cmdCause true c = 0 ∧ s.cmd.queue.length < 12288) | _ => false))))),
     (let s0 : State := cmdIn (fun c => { c with coming := [(1, true, cmd0)] }) rdy; (let dt : Nat := 3; (let p : List Byte := frame1; decide (s0.sys.powered = true) && (let s := s0.pass (s0.checkWait p dt); decide (s.bit Reg.CMD_RPL_CTL 0 = false ∧ s.cmd.coming = [] ∧ s.frameCause p = 0) && (match frameCmds p (s.stampOffset (leAt p 3 1)) 0 with | c :: _ => decide (s.cmdCause true c ≠ 0) | _ => false))))),
     (let s0 : State := armed; (let dt : Nat := 3; (let p : List Byte := badMagic; decide (s0.sys.powered = true) && (let s := s0.pass (s0.checkWait p dt); decide (s.bit Reg.CMD_RPL_CTL 0 = false ∧ s.cmd.coming = []) && (let k : Nat := 1; decide (s.frameCause p = k ∧ k ≠ 0)))))),
     (let s0 : State := armed; (let dt : Nat := 3; (let p : List Byte := badMagic; decide (s0.sys.powered = true) && (let s := s0.pass (s0.checkWait p dt); decide (s.bit Reg.CMD_RPL_CTL 0 = false ∧ s.cmd.coming = []) && (let k : Nat := 1; decide (s.frameCause p = k ∧ k ≠ 0 ∧ leAt p 0 2 ≠ 0x434D)))))),
     (let s : State := cmdIn (fun c => { c with coming := [(1, true, cmd0), (2, true, cmd0)] }) armed; (match s.cmd.coming with | (a0, _, _) :: es => decide (a0 = s.clk.now + 1 ∧ (∀ e ∈ es, s.clk.now + 1 < e.1)) | _ => false)),
     (let s : State := cmdIn (fun c => { c with coming := [(1, true, cmd0), (2, true, cmd0)] }) armed; (match s.cmd.coming with | (a0, ring, c) :: es => decide (a0 = s.clk.now + 1 ∧ (∀ e ∈ es, s.clk.now + 1 < e.1) ∧ s.cmdCause ring c = 0 ∧ s.cmd.queue.length < 12288) | _ => false)),
     (let s : State := cmdIn (fun c => { c with coming := [(1, true, cmd0)] }) rdy; (match s.cmd.coming with | (a0, ring, c) :: es => decide (a0 = s.clk.now + 1 ∧ (∀ e ∈ es, s.clk.now + 1 < e.1) ∧ s.cmdCause ring c ≠ 0) | _ => false))].all id = true := by
  decide +kernel

/-- A state and operands for the hypotheses of each clause of TakeEntersCalendar. -/
theorem witness_takeEntersCalendar :
    [(let s : State := armed; decide (s.sys.powered = true ∧ s.cmd.coming = [] ∧ s.cmd.queue = [])),
     (let s : State := queue [cmd0] armed; decide (s.sys.powered = true ∧ s.cmd.coming = []) && (match s.cmd.queue with | c :: _ => decide (c.kind ≤ 1) && (let s1 := s.reachTick s.takeTick; (let late : Int := s1.ntGrid + s1.minLead - s1.earliestOpen c; decide (late ≤ s.lateTol ∧ s1.earliestOpen c - s1.ntGrid ≤ 2000000000 ∧ s.trn.cal.length < 262144))) | _ => false))].all id = true := by
  decide +kernel

/-- A state and operands for the hypotheses of each clause of ShedLevelMoves. -/
theorem witness_shedLevelMoves :
    [(let s : State := shed 12289; decide (s.sys.powered = true ∧ s.cmd.coming = []) && (match s.shedDue with | some _ => decide (12289 ≤ s.cmd.queue.length) | _ => false)),
     (let s : State := regs [(Reg.CMD_SHED_LVL, 0x01000A02)] (shed 4095); decide (s.sys.powered = true ∧ s.cmd.coming = []) && (match s.shedDue with | some _ => decide (s.cmd.queue.length < 12289) | _ => false)),
     (let s : State := shed 12288; decide (s.sys.powered = true ∧ s.shedDue = none)),
     (let s : State := shed 12289; decide (s.sys.powered = true) && (let w : Word := 65280; decide (fld w 8 8 ≠ 0))),
     (let s : State := shed 12289; decide (s.sys.powered = true) && (let w : Word := 9; decide (fld w 8 8 = 0)))].all id = true := by
  decide +kernel

/-- A state and operands for the hypotheses of each clause of EpisodeClosesOnce. -/
theorem witness_episodeClosesOnce :
    [(let s : State := epis; decide (s.sys.powered = true ∧ s.cmd.coming = [] ∧ s.bus = []) && (match firstEp s.episodes with | some _ => true | _ => false)),
     (let s : State := armed; decide (s.sys.powered = true ∧ s.episodes = []))].all id = true := by
  decide +kernel

/-- A state and operands for the hypotheses of each clause of ReplayRecordsAndPlays. -/
theorem witness_replayRecordsAndPlays :
    [(let s : State := rpl armed; decide (s.sys.powered = true ∧ s.bit Reg.CMD_RPL_CTL 1 = false ∧ 16 ≤ s.rplSize)),
     (let s : State := stream; decide (s.sys.powered = true ∧ s.live = true ∧ s.bit Reg.CMD_RPL_CTL 0 = false ∧ s.bit Reg.CMD_RPL_CTL 9 = false ∧ { s with cmd := { s.cmd with rplPos := 0 } }.rplField 0 4 ≠ 0 ∧ { s with cmd := { s.cmd with rplPos := 0 } }.rplField 0 4 ≤ 8972)),
     (let s : State := regs [(Reg.CMD_RPL_CTL, 0x202)] stream; decide (s.sys.powered = true ∧ (s.live = false ∨ s.bit Reg.CMD_RPL_CTL 0 = true ∨ s.bit Reg.CMD_RPL_CTL 9 = true))),
     (let s : State := regs [(Reg.CMD_RPL_CTL, 0x202)] stream; decide (s.sys.powered = true ∧ s.cmd.coming = [] ∧ s.bit Reg.CMD_RPL_CTL 9 = true ∧ s.rplField 0 4 ≠ 0 ∧ s.rplField 0 4 ≤ 8972))].all id = true := by
  decide +kernel

/-- A state and operands for the hypotheses of each clause of FreezePointPlansOrVoids. -/
theorem witness_freezePointPlansOrVoids :
    [(let s : State := frozen0; decide (s.sys.powered = true ∧ s.cmd.coming = []) && (match s.nextFreeze with | some r => (let _s1 := s.reachNt (s.reqOpen r - s.freezeLead); decide (s.failed r.valve = false ∧ s.cancelOf r = none ∧ (∀ h ∈ s.trn.shots, s.mayJoin h h.e r = false))) | _ => false)),
     (let s : State := cancelled0; decide (s.sys.powered = true ∧ s.cmd.coming = []) && (match s.nextFreeze with | some r => decide (s.failed r.valve = false ∧ (s.cancelOf r).isSome = true) | _ => false))].all id = true := by
  decide +kernel

/-- A state and operands for the hypotheses of each clause of CalendarMovesOn. -/
theorem witness_calendarMovesOn :
    [(let s : State := shots [{ shot0 with closed := false }] armed; decide (s.sys.powered = true ∧ s.cmd.coming = []) && (match s.nextClose with | some h => decide (s.trn.shots.find? (fun x => x.id == h.id) = some h ∧ (∀ r ∈ s.allReqs, s.mayJoin h h.e r = false)) | _ => false)),
     (let s : State := cancelled0; decide (s.sys.powered = true ∧ s.cmd.coming = []) && (match s.firstOfKind 2 with | some _ => decide (0 < s.clk.inc) | _ => false)),
     (let s : State := marked0; decide (s.sys.powered = true ∧ s.cmd.coming = []) && (match s.firstOfKind 3 with | some _ => decide (0 < s.clk.inc) | _ => false)),
     (let s0 : State := shots [{ shot0 with closed := false }] armed; (let dt : Nat := 2500; decide (s0.sys.powered = true) && (let s := s0.pass dt; (match s.trn.shots.find? (fun x => x.phase == .frozen) with | some h => decide (s.clk.now ≤ h.frozenAt + 2500) | _ => false)))),
     (let s0 : State := shots [{ shot0 with closed := false }] armed; (let dt : Nat := 2501; decide (s0.sys.powered = true) && (let s := s0.pass dt; (match s.trn.shots.find? (fun x => x.phase == .frozen) with | some h => decide (h.frozenAt + 2500 < s.clk.now) | _ => false))))].all id = true := by
  decide +kernel

/-- A state and operands for the hypotheses of each clause of OpenInstantDrivesOneChannel. -/
theorem witness_openInstantDrivesOneChannel :
    [(let s : State := handed; decide (s.sys.powered = true ∧ s.cmd.coming = []) && (match s.firstShot (fun h => h.phase == .handed || h.phase == .withheld) (·.openAt) with | some h => decide (h.phase = .handed ∧ h.req.valve < 96 ∧ h.decision ≠ .inhibited ∧ s.chSt h.req.valve = 1 ∧ s.bkSt (bankOf h.req.valve) = 1 ∧ h.dry = false ∧ s.canDrive h.req.valve = true ∧ s.reopenAt h.req.valve = none ∧ (h.boosts = false ∨ (s.bit (Reg.BNK_CHFLT + 4 * h.req.valve) 4 = false ∧ 2 * pVMin h.own ≤ s.vbst ∧ (s.hbHolder (bankOf h.req.valve) = 0 ∨ s.hbHolder (bankOf h.req.valve) = h.req.valve + 1)))) | _ => false)),
     (let s : State := shots [{ shot0 with phase := .handed, dry := true }] armed; decide (s.sys.powered = true ∧ s.cmd.coming = []) && (match s.firstShot (fun h => h.phase == .handed || h.phase == .withheld) (·.openAt) with | some h => decide (h.phase = .handed ∧ h.decision ≠ .inhibited ∧ s.chSt h.req.valve = 1 ∧ s.bkSt (bankOf h.req.valve) = 1 ∧ h.dry = true) | _ => false)),
     (let s : State := shots [{ shot0 with phase := .handed, decision := .inhibited }] armed; decide (s.sys.powered = true ∧ s.cmd.coming = []) && (match s.firstShot (fun h => h.phase == .handed || h.phase == .withheld) (·.openAt) with | some h => decide (h.phase = .handed ∧ (h.decision = .inhibited ∨ s.chSt h.req.valve = 0)) | _ => false)),
     (let s : State := shots [{ shot0 with phase := .withheld }] armed; decide (s.sys.powered = true ∧ s.cmd.coming = []) && (match s.firstShot (fun h => h.phase == .handed || h.phase == .withheld) (·.openAt) with | some h => decide (h.phase = .withheld) | _ => false)),
     (let s : State := handed; decide (s.sys.powered = true ∧ s.cmd.coming = []) && (match s.firstShot (fun h => h.phase == .handed && h.boosts && !h.hbLead && !h.dry) (·.openAt) with | some h => decide (s.canDrive h.req.valve = true ∧ s.hbHolder (bankOf h.req.valve) = 0 ∧ s.chSt h.req.valve = 1 ∧ s.bkSt (bankOf h.req.valve) = 1 ∧ s.bit (Reg.BNK_CHFLT + 4 * h.req.valve) 4 = false) | _ => false))].all id = true := by
  decide +kernel

/-- A state and operands for the hypotheses of each clause of ShotPhasesFollow. -/
theorem witness_shotPhasesFollow :
    [(let s : State := shots [{ shot0 with phase := .hold, openTick := 10, dry := true }] armed; (let v : Fin 96 := 0; decide (s.sys.powered = true ∧ s.cmd.coming = []) && (match s.runningShot v with | some h => decide (h.dry = true ∧ h.phase ≠ .release) | _ => false))),
     (let s : State := running .boost; (let v : Fin 96 := 0; decide (s.sys.powered = true ∧ s.cmd.coming = []) && (match s.runningShot v with | some h => decide (h.dry = false) && (let _dt : Nat := 5000; (let _c : Nat := 5000; decide (h.phase = .boost))) | _ => false))),
     (let s : State := running .peak; (let v : Fin 96 := 0; decide (s.sys.powered = true ∧ s.cmd.coming = []) && (match s.runningShot v with | some h => decide (h.dry = false) && (let _c : Nat := 5000; decide (h.phase = .peak)) | _ => false))),
     (let s : State := shots [{ shot0 with phase := .hold, openTick := 10, own := banded }] armed; (let v : Fin 96 := 0; decide (s.sys.powered = true ∧ s.cmd.coming = []) && (match s.runningShot v with | some h => decide (h.dry = false ∧ h.phase ≠ .release) | _ => false))),
     (let s : State := running .release; (let v : Fin 96 := 0; decide (s.sys.powered = true ∧ s.cmd.coming = []) && (match s.runningShot v with | some h => decide (h.dry = false ∧ h.phase = .release) && (let _dt : Nat := 5000; true) | _ => false))),
     (let s : State := running .release; (let v : Fin 96 := 0; decide (s.sys.powered = true ∧ s.cmd.coming = []) && (match s.runningShot v with | some h => decide (h.dry = false ∧ h.phase = .release) | _ => false))),
     (let s0 : State := shots [{ shot0 with phase := .hold, openTick := 10, own := banded }] armed; (let v : Fin 96 := 0; (let dt : Nat := 5000; (let cur : Nat := 100; decide (s0.sys.powered = true) && (let s := s0.pass (min dt 50); decide (s.cmd.coming = []) && (match s.runningShot v with | some h => decide (h.dry = false ∧ (h.phase = .peak ∨ h.phase = .hold) ∧ s.canDrive v = true ∧ cur + 2 * pBand h.executed ≤ h.iset) | _ => false)))))),
     (let s0 : State := shots [{ shot0 with phase := .hold, openTick := 10, own := banded }] armed; (let v : Fin 96 := 0; (let dt : Nat := 5000; (let cur : Nat := 5000; decide (s0.sys.powered = true) && (let s := s0.pass (min dt 50); decide (s.cmd.coming = []) && (match s.runningShot v with | some h => decide (h.dry = false ∧ (h.phase = .peak ∨ h.phase = .hold) ∧ s.canDrive v = true ∧ h.iset < cur + 2 * pBand h.executed ∧ h.iset + 2 * pBand h.executed ≤ cur ∧ h.stepping = false) | _ => false)))))),
     (let s0 : State := shots [{ shot0 with phase := .hold, openTick := 10, own := banded }] armed; (let v : Fin 96 := 0; (let dt : Nat := 5000; (let cur : Nat := 160; decide (s0.sys.powered = true) && (let s := s0.pass (min dt 50); decide (s.cmd.coming = []) && (match s.runningShot v with | some h => decide (h.dry = false ∧ (h.phase = .peak ∨ h.phase = .hold) ∧ s.canDrive v = true ∧ h.iset < cur + 2 * pBand h.executed ∧ cur < h.iset + 2 * pBand h.executed ∧ h.stepping = false) | _ => false))))))].all id = true := by
  decide +kernel

/-- A state and operands for the hypotheses of each clause of VbstRulesAct. -/
theorem witness_vbstRulesAct :
    [(let s0 : State := regs [(Reg.PRF_VBST_SET, 120)] armed; (let dt : Nat := 1025; (let r : Rail := ⟨1023, 200⟩; decide (s0.sys.powered = true ∧ r.vbst < 1024) && (let s := s0.pass dt; (let set := 2 * s.rf Reg.PRF_VBST_SET 0 8; (let _s1 := s.setVbst r.vbst; (let _shown : State → Prop := fun t => t.rf Reg.PRF_VBST 0 10 = r.vbst ∧ t.slot 81 = ⟨0, w32 (16384 * r.vbst)⟩ ∧ ∀ n, n ≠ 81 → t.slot n = s.slot n; (let _rail := [Reg.PRF_VBST, Reg.PRF_VBST_LOWEST, Reg.PRF_STAT, Reg.PRF_BSTTO_CNT + 8]; decide (set + 12 < r.vbst ∧ s.bit Reg.PRF_STAT 1 = false))))))))),
     (let s0 : State := regs [(Reg.PRF_VBST_SET, 120), (Reg.PRF_STAT, 2)] armed; (let dt : Nat := 1025; (let r : Rail := ⟨1023, 200⟩; decide (s0.sys.powered = true ∧ r.vbst < 1024) && (let s := s0.pass dt; (let set := 2 * s.rf Reg.PRF_VBST_SET 0 8; (let _s1 := s.setVbst r.vbst; (let _shown : State → Prop := fun t => t.rf Reg.PRF_VBST 0 10 = r.vbst ∧ t.slot 81 = ⟨0, w32 (16384 * r.vbst)⟩ ∧ ∀ n, n ≠ 81 → t.slot n = s.slot n; (let _rail := [Reg.PRF_VBST, Reg.PRF_VBST_LOWEST, Reg.PRF_STAT, Reg.PRF_BSTTO_CNT + 8]; decide (set + 12 < r.vbst ∧ s.bit Reg.PRF_STAT 1 = true))))))))),
     (let s0 : State := regs [(Reg.PRF_VBST_SET, 120), (Reg.PRF_STAT, 2)] armed; (let dt : Nat := 1025; (let r : Rail := ⟨9, 200⟩; decide (s0.sys.powered = true ∧ r.vbst < 1024) && (let s := s0.pass dt; (let set := 2 * s.rf Reg.PRF_VBST_SET 0 8; (let _s1 := s.setVbst r.vbst; (let _shown : State → Prop := fun t => t.rf Reg.PRF_VBST 0 10 = r.vbst ∧ t.slot 81 = ⟨0, w32 (16384 * r.vbst)⟩ ∧ ∀ n, n ≠ 81 → t.slot n = s.slot n; (let _rail := [Reg.PRF_VBST, Reg.PRF_VBST_LOWEST, Reg.PRF_STAT, Reg.PRF_BSTTO_CNT + 8]; decide (r.vbst < set + 8 ∧ s.bit Reg.PRF_STAT 1 = true ∧ s.bit Reg.PRF_VFLT 0 = false))))))))),
     (let s0 : State := regs [(Reg.PRF_VBST_SET, 120)] armed; (let dt : Nat := 1025; (let r : Rail := ⟨9, 200⟩; decide (s0.sys.powered = true ∧ r.vbst < 1024) && (let s := s0.pass dt; (let set := 2 * s.rf Reg.PRF_VBST_SET 0 8; (let _s1 := s.setVbst r.vbst; (let _shown : State → Prop := fun t => t.rf Reg.PRF_VBST 0 10 = r.vbst ∧ t.slot 81 = ⟨0, w32 (16384 * r.vbst)⟩ ∧ ∀ n, n ≠ 81 → t.slot n = s.slot n; (let _rail := [Reg.PRF_VBST, Reg.PRF_VBST_LOWEST, Reg.PRF_STAT, Reg.PRF_BSTTO_CNT + 8]; decide (r.vbst < set + 8 ∧ (s.bit Reg.PRF_STAT 1 = false ∨ s.bit Reg.PRF_VFLT 0 = true)))))))))),
     (let s0 : State := regs [(Reg.PRF_VBST_SET, 120)] armed; (let dt : Nat := 1025; (let r : Rail := ⟨1023, 200⟩; decide (s0.sys.powered = true ∧ r.vbst < 1024) && (let s := s0.pass dt; (let _set := 2 * s.rf Reg.PRF_VBST_SET 0 8; (let _s1 := s.setVbst r.vbst; (let _shown : State → Prop := fun t => t.rf Reg.PRF_VBST 0 10 = r.vbst ∧ t.slot 81 = ⟨0, w32 (16384 * r.vbst)⟩ ∧ ∀ n, n ≠ 81 → t.slot n = s.slot n; (let _rail := [Reg.PRF_VBST, Reg.PRF_VBST_LOWEST, Reg.PRF_STAT, Reg.PRF_BSTTO_CNT + 8]; true)))))))),
     (let s0 : State := regs [(Reg.PRF_VBST_SET, 120)] armed; (let dt : Nat := 400; (let r : Rail := ⟨400, 200⟩; decide (s0.sys.powered = true ∧ r.vbst < 1024) && (let s := s0.pass dt; (let _set := 2 * s.rf Reg.PRF_VBST_SET 0 8; (let _s1 := s.setVbst r.vbst; (let _shown : State → Prop := fun t => t.rf Reg.PRF_VBST 0 10 = r.vbst ∧ t.slot 81 = ⟨0, w32 (16384 * r.vbst)⟩ ∧ ∀ n, n ≠ 81 → t.slot n = s.slot n; (let _rail := [Reg.PRF_VBST, Reg.PRF_VBST_LOWEST, Reg.PRF_STAT, Reg.PRF_BSTTO_CNT + 8]; (let _b : Bool := true; true)))))))))].all id = true := by
  decide +kernel

/-- A state and operands for the hypotheses of each clause of EnablesMoveChannels. -/
theorem witness_enablesMoveChannels :
    [(let s : State := running .hold; decide (s.sys.powered = true) && (let _k : Fin 3 := 2; (let _w : Word := 5; true)))].all id = true := by
  decide +kernel

/-- A state and operands for the hypotheses of each clause of ProportionalSetAndDither. -/
theorem witness_proportionalSetAndDither :
    [(let s : State := propDue; decide (s.sys.powered = true ∧ s.cmd.coming = []) && (match s.loop.propAt with | some _ => true | _ => false)),
     (let s : State := propDue; decide (s.sys.powered = true ∧ s.cmd.coming = []) && (let v : Fin 96 := 85; decide (s.bankRole (bankOf v) = 2 ∧ s.bankByte (bankOf v) 6 1 ≠ 0)))].all id = true := by
  decide +kernel

/-- A state and operands for the hypotheses of each clause of ChannelFaultsLatchAndOpen. -/
theorem witness_channelFaultsLatchAndOpen :
    [(let s0 : State := conducts; (let _v : Fin 96 := 95; (let dt : Nat := 9; (let _i : Nat := 9; decide (s0.sys.powered = true) && (let s := s0.pass dt; (let _lat : Nat := 9; decide (s.cmd.coming = []))))))),
     (let s : State := regs [(Reg.BNK_CHFLT, 0xFF00), (Reg.BNK_CHFLT + 4, 0xFF00), (Reg.BNK_CHFLT + 380, 0xFF00)] (running .boost); (let v : Fin 96 := 95; decide (s.sys.powered = true) && (let _c : Nat := 9; decide (s.ef Reg.BNK_FLT_CFG 0 4 ≤ s.rf (Reg.BNK_CHFLT + 4 * v) 8 4 ∧ s.bit (Reg.BNK_CHFLT + 4 * v) 4 = false)))),
     (let s : State := conducts; (let v : Fin 96 := 95; decide (s.sys.powered = true) && (let _c : Nat := 9; decide ((s.rf (Reg.BNK_CHFLT + 4 * v) 8 4 < s.ef Reg.BNK_FLT_CFG 0 4 ∨ s.bit (Reg.BNK_CHFLT + 4 * v) 4 = true))))),
     (let s : State := regs [(Reg.BNK_CHFLT, 0xFF00), (Reg.BNK_CHFLT + 4, 0xFF00), (Reg.BNK_CHFLT + 380, 0xFF00)] (running .boost); (let v : Fin 96 := 95; decide (s.sys.powered = true) && (let _c : Nat := 13; decide (s.ef Reg.BNK_FLT_CFG 4 4 ≤ s.rf (Reg.BNK_CHFLT + 4 * v) 12 4 ∧ s.bit (Reg.BNK_CHFLT + 4 * v) 5 = false)))),
     (let s : State := conducts; (let v : Fin 96 := 95; decide (s.sys.powered = true) && (let _c : Nat := 13; decide ((s.rf (Reg.BNK_CHFLT + 4 * v) 12 4 < s.ef Reg.BNK_FLT_CFG 4 4 ∨ s.bit (Reg.BNK_CHFLT + 4 * v) 5 = true))))),
     (let s : State := conducts; (let v : Fin 96 := 0; decide (s.sys.powered = true) && (let _cur : Nat := 5; decide (s.cmd.coming = []) && (match s.olTick v with | some _ => true | _ => false)))),
     (let s : State := conducts; (let v : Fin 96 := 95; decide (s.sys.powered = true) && (let _cur : Nat := 5; decide (s.olTick v = none))))].all id = true := by
  decide +kernel

/-- A state and operands for the hypotheses of each clause of BankAndDieFaultsAct. -/
theorem witness_bankAndDieFaultsAct :
    [(let s0 : State := running .hold; (let dt : Nat := 5; decide (s0.sys.powered = true) && (let s := s0.pass dt; (let _b : Fin 12 := 11; true))))].all id = true := by
  decide +kernel

/-- A state and operands for the hypotheses of each clause of FaultClearTakesEffectLater. -/
theorem witness_faultClearTakesEffectLater :
    [(let s : State := { armed with flights := [flight .drv (Reg.BNK_CHFLT + 380) 0] }; (let v : Fin 96 := 95; (let w : Word := 5; decide (s.sys.powered = true) && (let bits := w.toNat &&& 0x3B &&& (s.reg (Reg.BNK_CHFLT + 4 * v)).toNat; decide (bits = 0))))),
     (let s : State := clearing (Reg.BNK_CHFLT + 380) 0x3B; (let v : Fin 96 := 95; (let w : Word := 5; decide (s.sys.powered = true) && (let bits := w.toNat &&& 0x3B &&& (s.reg (Reg.BNK_CHFLT + 4 * v)).toNat; decide (bits ≠ 0))))),
     (let s : State := clearing (Reg.BNK_CHFLT + 380) 0x3B; (let _v : Fin 96 := 95; (let w : Word := 327; decide (s.sys.powered = true ∧ bitOf w 1 = true ∧ s.bit Reg.PRF_VFLT 1 = true ∧ s.vbst ≤ 328)))),
     (let s : State := { armed with flights := [flight .drv (Reg.BNK_CHFLT + 380) 0] }; (let _v : Fin 96 := 95; (let w : Word := 329; decide (s.sys.powered = true ∧ (bitOf w 1 = false ∨ s.bit Reg.PRF_VFLT 1 = false ∨ 328 < s.vbst))))),
     (let s : State := { armed with flights := [flight .drv (Reg.BNK_CHFLT + 380) 0] }; (let v : Fin 96 := 95; (let _w : Word := 9; decide (s.sys.powered = true) && (let _dt : Nat := 9; decide (s.cmd.coming = []) && (match takeFlight .drv s.flights with | some (f, _) => decide (f.addr = Reg.BNK_CHFLT + 4 * v ∧ f.dom = .drv) | _ => false))))),
     (let s0 : State := clearing (Reg.BNK_CHFLT + 380) 0x3B; (let v : Fin 96 := 95; (let dt : Nat := 9; (let _on : StillOn := ⟨1, 0⟩; decide (s0.sys.powered = true) && (let s := s0.pass (s0.clearWait dt); (match s.drv.clears with | c :: _ => decide (s.clearReady c = true ∧ c.addr = Reg.BNK_CHFLT + 4 * v) | _ => false)))))),
     (let s0 : State := { armed with flights := [flight .drv (Reg.BNK_CHFLT + 380) 0] }; (let _v : Fin 96 := 95; (let dt : Nat := 9; (let _on : StillOn := ⟨1, 0⟩; decide (s0.sys.powered = true) && (let s := s0.pass (s0.clearWait dt); decide ((∀ c ∈ s.drv.clears, s.clearReady c = false)))))))].all id = true := by
  decide +kernel

/-- A state and operands for the hypotheses of each clause of LearningFollowsTheShot. -/
theorem witness_learningFollowsTheShot :
    [(let s0 : State := arrived; (let v : Fin 96 := 0; (let dt : Nat := 32; decide (s0.sys.powered = true) && (let s := s0.pass (s0.learnWait dt v); (match s.runningShot v with | some h => (match h.arr with | some _ => decide (s.learnable h = true ∧ h.learned = none ∧ 1 ≤ h.xprof ∧ h.xprof ≤ 31 ∧ (s.vsn.hostTick ≠ s.clk.now ∨ ldIdx v h.xprof ∉ s.vsn.hostIdx)) | _ => false) | _ => false))))),
     (let s0 : State := { arrived with vsn := { arrived.vsn with hostIdx := [0] } }; (let v : Fin 96 := 0; (let dt : Nat := 0; decide (s0.sys.powered = true) && (let s := s0.pass (s0.learnWait dt v); (match s.runningShot v with | some h => (match h.arr with | some _ => decide (s.learnable h = true ∧ h.learned = none ∧ 1 ≤ h.xprof ∧ h.xprof ≤ 31 ∧ s.vsn.hostTick = s.clk.now ∧ ldIdx v h.xprof ∈ s.vsn.hostIdx) | _ => false) | _ => false))))),
     (let s : State := conducts; decide (s.sys.powered = true) && (let v : Fin 96 := 0; (let xs : List Sample := samples; decide (s.cmd.coming = []) && (match s.runningShot v with | some h => (let found := detect (fld (s.eff Reg.VSN_ARR_CFG) 0 8) (fld (s.eff Reg.VSN_ARR_CFG) 8 8) (fld (s.eff Reg.VSN_ARR_CFG) 16 3) h.window (s.slopeOk v h.openTick h.executed fun j => ((xs[j]?).getD ⟨0, 0⟩).vn) xs; decide (h.dry = false ∧ h.arr = none) && (match found.out with | some _ => (match found.gmin with | some _ => true | _ => false) | _ => false)) | _ => false)))),
     (let s : State := conducts; decide (s.sys.powered = true) && (let n : Nat := 2975; (let w : Word := 64000; decide (n < 2976 ∧ fld w 0 16 ≤ 64000)))),
     (let s : State := conducts; decide (s.sys.powered = true) && (let n : Nat := 2975; (let w : Word := 64001; decide (n < 2976 ∧ 64000 < fld w 0 16)))),
     (let s : State := conducts; decide (s.sys.powered = true) && (let k : Nat := 2; (let _w : Word := 2975; decide (k < 3))))].all id = true := by
  decide +kernel

/-- A state and operands for the hypotheses of each clause of LearnedTableOperations. -/
theorem witness_learnedTableOperations :
    [(let s : State := armed; decide (s.sys.powered = true ∧ s.vsn.liveBusy ≤ s.clk.now ∧ s.vsn.savedBusy ≤ s.clk.now ∧ s.vsn.refBusy ≤ s.clk.now)),
     (let s : State := armed; decide (s.sys.powered = true ∧ s.vsn.liveBusy ≤ s.clk.now ∧ s.vsn.savedBusy ≤ s.clk.now ∧ s.vsn.refBusy ≤ s.clk.now) && (let _v : Fin 96 := 95; true)),
     (let s : State := regs [(Reg.VSN_LD_CTL, 64)] armed; decide (s.sys.powered = true ∧ s.vsn.liveBusy ≤ s.clk.now ∧ s.vsn.savedBusy ≤ s.clk.now ∧ s.vsn.refBusy ≤ s.clk.now ∧ s.bit Reg.VSN_LD_CTL 6 = true)),
     (let s : State := armed; decide (s.sys.powered = true ∧ s.vsn.liveBusy ≤ s.clk.now ∧ s.vsn.savedBusy ≤ s.clk.now ∧ s.vsn.refBusy ≤ s.clk.now ∧ s.bit Reg.VSN_LD_CTL 6 = false))].all id = true := by
  decide +kernel

/-- A state and operands for the hypotheses of each clause of JournalAndCaptures. -/
theorem witness_journalAndCaptures :
    [(let s0 : State := journal; (let dt : Nat := 5; decide (s0.sys.powered = true) && (let s := s0.pass dt; (let _i : Nat := 5; (match s.vsn.jq with | .marker _ _ :: _ => decide (0 < s.jrnLen ∧ s.bit Reg.VSN_JCTL 0 = false) | _ => false))))),
     (let s0 : State := regs [(Reg.VSN_JWR, 5), (Reg.VSN_JCTL, 1), (Reg.VSN_JRD, 6)] journal; (let dt : Nat := 26; decide (s0.sys.powered = true) && (let s := s0.pass dt; (let _i : Nat := 26; (match s.vsn.jq with | .marker _ _ :: _ => decide (0 < s.jrnLen ∧ s.bit Reg.VSN_JCTL 0 = true ∧ (if s.jIdx + 1 < s.jrnLen then s.jIdx + 1 else 0) = s.rf Reg.VSN_JRD 0 25) | _ => false))))),
     (let s0 : State := regs [(Reg.VSN_JWR, 5), (Reg.VSN_JCTL, 1), (Reg.VSN_JRD, 6)] journal; (let dt : Nat := 5; decide (s0.sys.powered = true) && (let s := s0.pass dt; (let _i : Nat := 5; (match s.vsn.jq with | .marker _ _ :: _ => decide (0 < s.jrnLen) | _ => false))))),
     (let s0 : State := capturing; (let dt : Nat := 9; decide (s0.sys.powered = true) && (let s := s0.pass dt; (let i : Fin 4 := 0; (let _xs : List (BitVec 12) := [5, 6]; decide (s.cmd.coming = [] ∧ s.vsn.engines.length = 4) && (match s.vsn.engines.getD i none with | some e => (match e.openTick with | some _ => decide (e.record = none) | _ => false) | _ => false)))))),
     (let s0 : State := recorded; (let dt : Nat := 9; decide (s0.sys.powered = true) && (let s := s0.pass dt; (let i : Fin 4 := 0; (let _xs : List (BitVec 12) := [5, 6]; decide (s.cmd.coming = [] ∧ s.vsn.engines.length = 4) && (match s.vsn.engines.getD i none with | some e => (match e.openTick with | some _ => (match e.record with | some r => decide (r.1.length = 64 ∧ s.capRoom = true) | _ => false) | _ => false) | _ => false)))))),
     (let s0 : State := regs [(Reg.VSN_CAP_SLOTS, 0)] recorded; (let dt : Nat := 9; decide (s0.sys.powered = true) && (let s := s0.pass dt; (let i : Fin 4 := 0; (let _xs : List (BitVec 12) := [5, 6]; decide (s.cmd.coming = [] ∧ s.vsn.engines.length = 4) && (match s.vsn.engines.getD i none with | some e => (match e.openTick with | some _ => (match e.record with | some _ => decide (s.capRoom = false) | _ => false) | _ => false) | _ => false)))))),
     (let s : State := dev .ready (regs [(Reg.VSN_JWR, 5), (Reg.VSN_JCTL, 1)] journal); decide (s.sys.powered = true ∧ s.sys.dev = .ready)),
     (let s : State := regs [(Reg.VSN_JWR, 5), (Reg.VSN_JCTL, 1), (Reg.VSN_JRD, 6)] journal; decide (s.sys.powered = true ∧ s.sys.dev ≠ .ready))].all id = true := by
  decide +kernel

/-- A state and operands for the hypotheses of each clause of RecordWrittenToBothAreas. -/
theorem witness_recordWrittenToBothAreas :
    [(let s0 : State := recWaiting; (let dt : Nat := 65537; decide (s0.sys.powered = true) && (let s1 := s0.pass (min dt 12500); (let s := s1.settle; decide (s1.cmd.coming = [] ∧ s.rcd.started = true ∧ s.rcd.own = []) && (match s.rcd.queue with | e :: es => decide (e.args.length = 8 ∧ s.bit Reg.REC_STAT 0 = false ∧ s.bit Reg.REC_STAT 2 = false ∧ s.rcd.clrPend = false ∧ { s with rcd := { s.rcd with queue := es } }.merged e = none ∧ s.mediumCause = 0 ∧ s.rf Reg.REC_FIDX 0 12 < 2048 ∧ s.rf Reg.REC_POS 0 16 < 65536 ∧ s.badSlot (s.rf Reg.REC_FIDX 0 12) = false ∧ s.badSlot (2048 + s.rf Reg.REC_POS 0 16) = false) | _ => false))))),
     (let s0 : State := regs [(Reg.REC_STAT, 1)] recWaiting; (let dt : Nat := 5; decide (s0.sys.powered = true) && (let s1 := s0.pass (min dt 12500); (let s := s1.settle; decide (s1.cmd.coming = [] ∧ s.rcd.started = true ∧ s.bit Reg.REC_STAT 0 = true)))))].all id = true := by
  decide +kernel

/-- A state and operands for the hypotheses of each clause of RecorderKeepsItsState. -/
theorem witness_recorderKeepsItsState :
    [(let s : State := recWaiting; decide (s.sys.powered = true ∧ s.cmd.coming = [] ∧ s.rcd.clrPend = false ∧ s.rcd.frozenAt = none)),
     (let s : State := recIn (fun r => { r with clrPend := true }) recWaiting; decide (s.sys.powered = true ∧ s.cmd.coming = [] ∧ s.rcd.clrPend = true)),
     (let s : State := recIn (fun r => { r with frozenAt := some 3 }) recWaiting; decide (s.sys.powered = true ∧ s.cmd.coming = []) && (match s.rcd.frozenAt with | some _ => true | _ => false)),
     (let s : State := recWaiting; decide (s.sys.powered = true ∧ s.cmd.coming = [])),
     (let s : State := recWaiting; decide (s.sys.powered = true ∧ s.cmd.coming = [] ∧ s.rcd.started = true)),
     (let s : State := recIn (fun r => { r with lostRun := 4, lostEseq := 9 }) recWaiting; decide (s.sys.powered = true ∧ s.cmd.coming = [] ∧ s.bus = [] ∧ s.region10 + 32 ≤ 524288 ∧ s.rcd.lostRun ≠ 0 ∧ s.rcd.queue.length < 256)),
     (let s0 : State := recIn (fun r => { r with queue := [] }) recWaiting; (let dt : Nat := 5; decide (s0.sys.powered = true) && (let s := s0.pass dt; decide (s.rcd.started = true ∧ s.bit Reg.REC_STAT 2 = false ∧ s.rcd.own = [] ∧ s.rcd.queue = []))))].all id = true := by
  decide +kernel

/-- A state and operands for the hypotheses of each clause of RecorderReadAndCleared. -/
theorem witness_recorderReadAndCleared :
    [(let s : State := recIn (fun r => { r with started := true, clrPend := true, erasePos := 4 }) armed; decide (s.sys.powered = true ∧ s.cmd.coming = [])),
     (let s : State := chal; decide (s.sys.powered = true ∧ s.cmd.coming = [] ∧ s.bit Reg.REC_CKEY_CTL 1 = true ∧ s.rcd.lockUntil ≤ s.clk.now)),
     (let s : State := chal; decide (s.sys.powered = true ∧ s.cmd.coming = []) && (match s.rcd.challenge with | some _ => true | _ => false)),
     (let s : State := recIn (fun r => { r with lockUntil := 77 }) chal; decide (s.sys.powered = true ∧ s.cmd.coming = [] ∧ s.rcd.lockUntil ≠ 0)),
     (let s : State := regs [(Reg.REC_CKEY_CTL, 0)] chal; decide (s.sys.powered = true ∧ s.cmd.coming = [] ∧ s.sys.dev = .ready ∧ s.bit Reg.REC_CKEY_CTL 1 = false ∧ s.rcd.keyProg = false)),
     (let s : State := recIn (fun r => { r with started := true, clrPend := true, erasePos := 4 }) armed; decide (s.sys.powered = true ∧ s.cmd.coming = [] ∧ s.sys.dev ≠ .ready)),
     (let s0 : State := recIn (fun r => { r with clrPend := true, clrBoot := true, erasePos := 4 }) chal; (let dt : Nat := 5; decide (s0.sys.powered = true) && (let s := s0.pass (s0.eraseWait dt); decide (s.rcd.started = true ∧ s.rcd.clrPend = true ∧ s.rcd.consec = 0 ∧ s.bit Reg.REC_STAT 3 = false ∧ s.rcd.clrBoot = true)))),
     (let s0 : State := recIn (fun r => { r with started := true, clrPend := true, erasePos := 4 }) armed; (let dt : Nat := 5; decide (s0.sys.powered = true) && (let s := s0.pass (s0.eraseWait dt); decide (s.rcd.started = true ∧ s.rcd.clrPend = true ∧ s.rcd.consec = 0 ∧ s.bit Reg.REC_STAT 3 = false ∧ s.rcd.clrBoot = false)))),
     (let s0 : State := recIn (fun r => { r with keyProg := true }) chal; (let dt : Nat := 5; decide (s0.sys.powered = true ∧ (s0.pass (s0.keyWait dt)).rcd.keyProg = true)))].all id = true := by
  decide +kernel

/-- A state and operands for the hypotheses of each clause of RingPortsFollowTheirLinks. -/
theorem witness_ringPortsFollowTheirLinks :
    [(let s0 : State := ringUp [[], [], [], [qf 3, qf 4]]; (let p : Fin 2 := 0; (let dt : Nat := 5; decide (s0.sys.powered = true) && (let s := s0.pass dt; decide (s.portOn p = true) && (match (s.port p).queues with | [_, _, _, _ :: _] => true | _ => false))))),
     (let s0 : State := ringUp [[], [], [qf 5], []]; (let p : Fin 2 := 0; (let dt : Nat := 5; decide (s0.sys.powered = true) && (let s := s0.pass dt; decide (s.portOn p = true) && (match (s.port p).queues with | [_, _, _ :: _, []] => true | _ => false))))),
     (let s0 : State := ringDown; (let p : Fin 2 := 1; (let dt : Nat := 9; decide (s0.sys.powered = true) && (let s := s0.pass dt; (let sp : Nat := 9; decide (s.sys.ethOn = true ∧ (s.port p).up = false ∧ (s.port p).mode ≠ 0 ∧ ((s.port p).mode = 3 → sp = 1000))))))),
     (let s0 : State := ringUp [[], [], [], [qf 3, qf 4]]; (let p : Fin 2 := 1; (let dt : Nat := 5; decide (s0.sys.powered = true) && (let s := s0.pass dt; decide ((s.port p).up = true))))),
     (let s : State := ringDown; (let p : Fin 2 := 1; decide (s.sys.powered = true ∧ s.cmd.coming = [] ∧ s.sys.ethOn = true ∧ (s.port p).up = false ∧ (s.port p).cfg = 0))),
     (let s : State := ringUp [[], [], [], [qf 3, qf 4]]; (let _p : Fin 2 := 1; decide (s.sys.powered = true ∧ s.cmd.coming = []))),
     (let s : State := ringUp [[], [], [], [qf 3, qf 4]]; (let _p : Fin 2 := 1; decide (s.sys.powered = true ∧ s.cmd.coming = []) && (match oldestNode s.net.nodes with | some _ => true | _ => false))),
     (let s : State := sysIn (fun x => { x with released := some 7 }) (ringUp [[qf 1], [], [qf 5], []]); (let _p : Fin 2 := 1; decide (s.sys.powered = true ∧ s.cmd.coming = []) && (match s.sys.released with | some _ => decide (s.sys.ethOn = true) | _ => false)))].all id = true := by
  decide +kernel

/-- A state and operands for the hypotheses of each clause of StackAnswersAndEventFrames. -/
theorem witness_stackAnswersAndEventFrames :
    [(let s0 : State := ringUp [[], [], [], []]; (let dt : Nat := 9; decide (s0.sys.powered = true) && (let s := s0.pass dt; (let _q := s.pcpQueue s.pcpResp; (let _a : ArpSender := ⟨5, 5⟩; (let spa : Word := 9; decide (spa ≠ s.reg Reg.NET_IPV4))))))),
     (let s0 : State := ringUp [[], [], [], []]; (let dt : Nat := 9; decide (s0.sys.powered = true) && (let s := s0.pass dt; (let _q := s.pcpQueue s.pcpResp; (let _mac : Nat := 9; (let _ip : Word := 9; (let d : List Byte := frame1; decide (20 + d.length ≤ s.maxUdp + 28)))))))),
     (let s : State := ringUp [[], [], [], []]; decide (s.sys.powered = true ∧ s.cmd.coming = [])),
     (let s : State := netIn (fun n => { n with evq := [armed.mkEvent 0x0203 [1] false 0] }) (ringUp [[], [], [], []]); decide (s.sys.powered = true ∧ s.cmd.coming = []) && (match s.settle.evDue with | some _ => decide (s.sys.ethOn = true) | _ => false)),
     (let s : State := ringUp [[], [], [], []]; decide (s.sys.powered = true ∧ s.cmd.coming = [] ∧ s.net.evq = [] ∧ s.sys.ethOn = true))].all id = true := by
  decide +kernel

/-- A state and operands for the hypotheses of each clause of SyncDrivesServo. -/
theorem witness_syncDrivesServo :
    [(let s : State := syncDue; (let _dt : Nat := 65537; decide (s.sys.powered = true ∧ s.cmd.coming = []) && (match firstWait s.tim.waits with | some w => decide (w.copies.length = 2 ∧ w.dom = s.tim.active ∧ w.dom < 2 ∧ s.tim.swAt = none ∧ s.switching = false ∧ s.tim.mode = .locked ∧ 1 ≤ s.timc 7 1 ∧ (syncTheta w.copies).natAbs ≤ 65536 * s.timc 12 2) && (let phi := max (-s.slewPpb) (min s.slewPpb (divRound (-(syncTheta w.copies) * 1000) (65536 * max 1 (s.timc 16 2)))); (let _f := max (-200000) (min 200000 (s.tim.f + divRound (phi * 1000) (max 1 (s.timc 18 2) * 2 ^ (-s.logSync).toNat))); true)) | _ => false))),
     (let s0 : State := { master with tim := { master.tim with pd0 := { pdelay.tim.pd0 with t1 := none } } }; (let dt : Nat := 9; (let p : Fin 2 := 0; (let num : Nat := 0; (let src : Nat := 5; (let seq : Nat := 9; (let _q : Nat := 9; (let logInt : Int := 0; (let _origin : Int := 9; (let _corr : Int := 9; (let f : RxFrame := rx 2; decide (s0.sys.powered = true) && (let s := s0.pass dt; decide (s.portOn p = true ∧ f.hsr.isSome = true ∧ f.lsduOk = true) && (match s.ptpDom num with | some d => decide (s.syncValid d p src logInt false = true ∧ (d, src, seq) ∉ s.tim.taken) | _ => false))))))))))))),
     (let s0 : State := syncDue; (let dt : Nat := 9; (let p : Fin 2 := 1; (let num : Nat := 1; (let src : Nat := 9; (let _seq : Nat := 9; (let _q : Nat := 9; (let logInt : Int := 9; (let _origin : Int := 9; (let _corr : Int := 9; (let f : RxFrame := rx 2; decide (s0.sys.powered = true) && (let s := s0.pass dt; decide (s.portOn p = true ∧ f.hsr.isSome = true ∧ f.lsduOk = true) && (match s.ptpDom num with | some d => decide (s.syncValid d p src logInt false = false) | _ => false))))))))))))),
     (let s0 : State := syncDue; (let dt : Nat := 9; (let p : Fin 2 := 1; (let num : Nat := 1; (let _src : Nat := 9; (let _seq : Nat := 9; (let _q : Nat := 9; (let _logInt : Int := 9; (let _origin : Int := 9; (let _corr : Int := 9; (let f : RxFrame := rx 2; decide (s0.sys.powered = true) && (let s := s0.pass dt; decide (s.portOn p = true ∧ f.hsr.isSome = true ∧ f.lsduOk = true) && (match s.ptpDom num with | some _ => true | _ => false)))))))))))))].all id = true := by
  decide +kernel

/-- A state and operands for the hypotheses of each clause of TimebaseStatesAndDomainSwitch. -/
theorem witness_timebaseStatesAndDomainSwitch :
    [(let s : State := dev .ready (regs [(Reg.TIM_SET_SEC_LO, 7), (Reg.TIM_SET_NS, 999999999)] master); decide (s.sys.powered = true ∧ s.cmd.coming = [] ∧ s.live = false ∧ s.rf Reg.TIM_SET_NS 0 30 ≤ 999999999 ∧ s.flights = [])),
     (let s : State := master; decide (s.sys.powered = true ∧ s.cmd.coming = [] ∧ s.live = true)),
     (let s : State := master; decide (s.sys.powered = true ∧ s.cmd.coming = []) && (let d : Fin 2 := 0; (match (s.dom d).lastSync with | some _ => decide (s.tim.active = d ∧ s.tim.swAt = none ∧ s.ef Reg.TIM_CTL 2 1 = 0 ∧ s.tim.mode = .locked ∧ s.ef Reg.TIM_HOLD_MAX 0 14 ≠ 0) | _ => false))),
     (let s : State := timIn (fun t => { t with mode := .holdover }) master; decide (s.sys.powered = true ∧ s.cmd.coming = [] ∧ s.tim.mode = .holdover)),
     (let s : State := timIn (fun t => { t with db := { t.db with tracked := true } }) master; decide (s.sys.powered = true ∧ s.cmd.coming = [] ∧ s.tim.swAt = none ∧ s.switching = false ∧ s.switchBar = none)),
     (let s : State := master; decide (s.sys.powered = true ∧ s.cmd.coming = [] ∧ s.tim.swAt = none ∧ s.switching = false ∧ s.switchBar ≠ none)),
     (let s : State := timIn (fun t => { t with swAt := some 10000000, db := { t.db with tracked := true } }) master; decide (s.sys.powered = true ∧ s.cmd.coming = [] ∧ s.tim.swAt ≠ none)),
     (let s : State := timIn (fun t => { t with swAt := some 10000000, db := { t.db with tracked := true } }) master; decide (s.sys.powered = true ∧ s.cmd.coming = []) && (match s.tim.swAt with | some _ => decide (s.switchBar = none ∧ s.tim.active < 2 ∧ (s.tim.mode = .locked ∨ s.tim.mode = .holdover ∨ (s.dom (1 - s.tim.active)).sel.isSome = true)) | _ => false)),
     (let s : State := regs [(Reg.TIM_STAT, 32)] master; decide (s.sys.powered = true ∧ s.cmd.coming = [] ∧ s.switching = true))].all id = true := by
  decide +kernel

/-- A state and operands for the hypotheses of each clause of AnnounceAndPeerDelay. -/
theorem witness_announceAndPeerDelay :
    [(let s0 : State := asking; (let dt : Nat := 9; decide (s0.sys.powered = true) && (let s := s0.pass dt; (let num : Nat := 1; (let _src : Nat := 9; (let _gm : Nat := 9; (let _rank : List Nat := [1, 2]; (let _logInt : Int := 9; (let _seq : Nat := 9; (let steps : Nat := 9; (match s.ptpDom num with | some d => decide (d < 2 ∧ steps < 255) | _ => false))))))))))),
     (let s0 : State := asking; (let dt : Nat := 9; decide (s0.sys.powered = true) && (let s := s0.pass dt; (let _num : Nat := 9; (let _src : Nat := 9; (let _gm : Nat := 9; (let _rank : List Nat := [1, 2]; (let _logInt : Int := 9; (let _seq : Nat := 9; (let steps : Nat := 256; decide (255 ≤ steps))))))))))),
     (let s0 : State := asking; (let dt : Nat := 9; decide (s0.sys.powered = true) && (let s := s0.pass dt; (let p : Fin 2 := 1; (let _seq : Nat := 9; (let _ask : Nat := 9; decide (s.hasRoom p 3 76 = true ∧ (s.port p).queues.length = 4))))))),
     (let s0 : State := asking; (let dt : Nat := 9; decide (s0.sys.powered = true) && (let s := s0.pass dt; (let p : Fin 2 := 1; (let _turn : Nat := 9; (let _ratio : Nat := 9; (let _q : Nat := 9; decide ((s.pd p).t1.isSome = true)))))))),
     (let s0 : State := asking; (let dt : Nat := 5; decide (s0.sys.powered = true) && (let s := s0.pass dt; (let p : Fin 2 := 1; decide ((s.pd p).asked = true))))),
     (let s0 : State := asking; (let dt : Nat := 5; decide (s0.sys.powered = true) && (let s := s0.pass dt; (let p : Fin 2 := 0; decide (s.portOn p = true) && (match (s.port p).queues with | [_, _, _, f :: _] => decide (f.kind = .pdelay ∧ f.ingress = none ∧ (s.pd p).asked = true ∧ ptpSeq f.bytes = (s.pd p).seq) | _ => false))))),
     (let s : State := master; decide (s.sys.powered = true ∧ s.cmd.coming = []) && (let d : Fin 2 := 1; (match firstForeign (s.dom d).foreign with | some _ => true | _ => false))),
     (let s : State := asking; decide (s.sys.powered = true ∧ s.cmd.coming = []) && (let _p : Fin 2 := 1; decide (s.sys.ethOn = true)))].all id = true := by
  decide +kernel

/-- A state and operands for the hypotheses of each clause of InputsAndEncodersFollowPins. -/
theorem witness_inputsAndEncodersFollowPins :
    [(let s0 : State := waiting true true; (let dt : Nat := 5; decide (s0.sys.powered = true) && (let s := s0.pass dt; decide (s.cmd.coming = []) && (let k : Fin 32 := 31; (match s.diSince k with | some _ => true | _ => false))))),
     (let s0 : State := waiting true true; (let dt : Nat := 5; decide (s0.sys.powered = true) && (let s := s0.pass dt; decide (s.cmd.coming = []) && (let k : Fin 32 := 5; decide (s.diSince k = none))))),
     (let s0 : State := waiting true true; (let dt : Nat := 5; decide (s0.sys.powered = true) && (let s := s0.pass dt; decide (s.cmd.coming = []) && (let k : Fin 32 := 31; (match s.diSince k with | some t0 => decide (s.clk.now < t0 + s.diFilt k) | _ => false))))),
     (let s0 : State := waiting true true; (let dt : Nat := 5; decide (s0.sys.powered = true) && (let s := s0.pass dt; decide (s.cmd.coming = []) && (let k : Fin 4 := 0; decide (s.encDecode k ≠ 0) && (match s.encSince k 0 with | some t0 => decide (s.encSince k 1 = some t0) | _ => false))))),
     (let s0 : State := waiting true false; (let dt : Nat := 9; decide (s0.sys.powered = true) && (let s := s0.pass dt; decide (s.cmd.coming = []) && (let k : Fin 4 := 0; (let b : Bool := false; decide (s.encDecode k = 3 ∧ s.encPs k = 0 ∧ storeGet (fun _ => (0 : Int)) s.gio.encAcc k = 0 ∧ s.encLevels k = (b, b)) && (match s.encSince k 0 with | some _ => decide (s.encSince k 1 = none) | _ => false)))))),
     (let s0 : State := waiting false true; (let dt : Nat := 9; decide (s0.sys.powered = true) && (let s := s0.pass dt; decide (s.cmd.coming = []) && (let k : Fin 4 := 0; (let b : Bool := false; decide (s.encDecode k = 3 ∧ s.encPs k = 0 ∧ storeGet (fun _ => (0 : Int)) s.gio.encAcc k = 0 ∧ s.encLevels k = (b, b) ∧ s.encSince k 0 = none) && (match s.encSince k 1 with | some _ => true | _ => false)))))),
     (let s0 : State := filtered true true; (let dt : Nat := 9; decide (s0.sys.powered = true) && (let s := s0.pass dt; decide (s.cmd.coming = []) && (let k : Fin 4 := 0; (let a : Bool := false; (let b : Bool := true; decide (0 < s.encFilt k ∧ s.encSince k 0 = none ∧ s.encSince k 1 = none ∧ s.encLevels k = (!a, b)))))))),
     (let s0 : State := waiting true true; (let dt : Nat := 5; decide (s0.sys.powered = true) && (let s := s0.pass dt; decide (s.cmd.coming = []) && (let k : Fin 4 := 0; decide (s.encZclr k = true ∧ s.encDecode k ≠ 0))))),
     (let s0 : State := waiting true true; (let dt : Nat := 5; decide (s0.sys.powered = true) && (let s := s0.pass dt; decide (s.cmd.coming = []) && (let k : Fin 4 := 3; decide (s.encZclr k = false)))))].all id = true := by
  decide +kernel

/-- A state and operands for the hypotheses of each clause of OutputsAndTheirFaults. -/
theorem witness_outputsAndTheirFaults :
    [(let s : State := io; decide (s.sys.powered = true ∧ s.cmd.coming = []) && (match s.loop.ioAt with | some _ => true | _ => false)),
     (let s0 : State := io; (let dt : Nat := 5; decide (s0.sys.powered = true) && (let s := s0.pass dt; (let k : Fin 8 := 0; decide (s.aoMode k = 2))))),
     (let s0 : State := io; (let dt : Nat := 5; decide (s0.sys.powered = true) && (let s := s0.pass dt; (let k : Fin 8 := 1; decide (s.aoMode k = 1))))),
     (let s0 : State := io; (let dt : Nat := 5; decide (s0.sys.powered = true) && (let s := s0.pass dt; (let k : Fin 8 := 7; decide (s.aoMode k ≠ 1 ∧ s.aoMode k ≠ 2)))))].all id = true := by
  decide +kernel

/-- A state and operands for the hypotheses of each clause of FansTachsAttemptsAndZoneUpdate. -/
theorem witness_fansTachsAttemptsAndZoneUpdate :
    [(let s0 : State := fans; (let dt : Nat := 5; decide (s0.sys.powered = true) && (let s := s0.pass dt; (let k : Fin 16 := 0; decide (s.fanTach k = true ∧ s.fanPpr k ≤ 4 ∧ s.fanPpr k ≤ (s.fc k).edges.length) && (match (s.fc k).edges[s.fanPpr k - 1]? with | some t0 => decide (t0 < s.clk.now) && (let _v := (divRound (15000000000 * 65536) (s.clk.now - t0)).toNat; true) | _ => false))))),
     (let s0 : State := fans; (let dt : Nat := 1001; decide (s0.sys.powered = true) && (let s := s0.pass dt; (let k : Fin 16 := 1; decide (s.fanType k = 2 ∧ s.fanDuty k < 1000))))),
     (let s0 : State := fans; (let dt : Nat := 200; decide (s0.sys.powered = true) && (let s := s0.pass dt; (let sw : Fin 8 := 0; (let milli : Nat := 3601; decide (3600 ≤ milli) && (match s.fanOf sw with | some k => decide ((s.duting k = true ∨ s.fanSt k = 1 ∨ s.fanSt k = 7)) | _ => false)))))),
     (let s0 : State := fans; (let dt : Nat := 200; decide (s0.sys.powered = true) && (let s := s0.pass dt; (let sw : Fin 8 := 7; (let milli : Nat := 3601; decide (3600 ≤ milli ∧ s.fanOf sw = none)))))),
     (let s0 : State := fans; (let dt : Nat := 200; decide (s0.sys.powered = true) && (let s := s0.pass dt; (let _sw : Fin 8 := 7; (let milli : Nat := 200; decide (milli < 3600)))))),
     (let s0 : State := fans; (let dt : Nat := 200; decide (s0.sys.powered = true) && (let s := s0.pass dt; (let k : Fin 16 := 15; (let milli : Nat := 0; (match s.fanSw k with | some _ => decide (milli ≤ 20 * s.fx k 16 1) | _ => false)))))),
     (let s0 : State := fans; (let dt : Nat := 200; decide (s0.sys.powered = true) && (let s := s0.pass dt; (let k : Fin 16 := 1; (let milli : Nat := 200; (match s.fanSw k with | some _ => decide (20 * s.fx k 16 1 < milli ∧ s.duting k = true) | _ => false)))))),
     (let s : State := fans; decide (s.sys.powered = true ∧ s.cmd.coming = []) && (let k : Fin 16 := 1; decide (s.fanTach k = true ∧ (s.fc k).lost = 0))),
     (let s : State := fans; decide (s.sys.powered = true ∧ s.cmd.coming = []) && (let _w : Word := 200; true)),
     (let s : State := fans; decide (s.sys.powered = true ∧ s.cmd.coming = []) && (let _milli : List Nat := [1, 2]; (match s.fan.zoneAt with | some _ => true | _ => false)))].all id = true := by
  decide +kernel

/-- A state and operands for the hypotheses of each clause of BeatLatchesInputsAndFindsLoops. -/
theorem witness_beatLatchesInputsAndFindsLoops :
    [(let s : State := loop0; decide (s.sys.powered = true ∧ s.cmd.coming = [] ∧ s.clk.beatAny = true ∧ s.clk.stepped = false ∧ 0 < s.clk.inc) && (let _i := max (s.clk.beat + 1) (s.ntNs / 50000); true))].all id = true := by
  decide +kernel

/-- A state and operands for the hypotheses of each clause of AutoExecutionFollowsLaw. -/
theorem witness_autoExecutionFollowsLaw :
    [(let s : State := loop0; (let _retries : Nat := 65; decide (s.sys.powered = true ∧ s.cmd.coming = []) && (match s.loop.todo.dropWhile s.offNow with | n :: _ => decide (n < 64 ∧ s.loopMode n = 2 ∧ (s.lc n).fall = none ∧ (s.lc n).last = 2) && (match (s.lc n).xPrev with | some xp => decide (s.ephOn n = false ∧ s.genOf n = none ∧ s.inputCheck n 2 = (false, false, true)) && (let c := s.lc n; (let sp := (s.reg (loopReg Reg.LOOP_SP n)).toInt; (let pv := (s.loopIn n 0).val.toInt; (let e := sat32 (if c.sel.getLsbD 0 = true then pv - sp else sp - pv); (let p := sat32 ((c.co 0 * e + 2 ^ 23) / 2 ^ 24); (let x := if c.sel.getLsbD 1 = true then sat32 (-pv) else e; (let v := sat32 ((c.co 2 * sat32 (x - xp) + 2 ^ 23) / 2 ^ 24); (let al : Int := ((c.coef.getD 4 0).toNat % 65536 : Nat); (let d := sat32 ((al * c.d + (65536 - al) * v + 32768) / 65536); (let i := max (c.co 5 * 2 ^ 24) (min (c.co 6 * 2 ^ 24) (c.acc + c.co 1 * e)); (let ff : Int := if c.sel.getLsbD 2 = true then (s.loopIn n 3).val.toInt else 0; (let f := sat32 ((c.co 3 * ff + 2 ^ 23) / 2 ^ 24); (let u := sat32 (p + (i + 2 ^ 23) / 2 ^ 24 + d + f); (let lim := sat32 (s.loopPer n * c.co 9); (let _y := max (c.co 7) (min (c.co 8) (if c.co 9 = 0 then u else c.y + max (-lim) (min lim (u - c.y)))); true))))))))))))))) | _ => false) | _ => false)))].all id = true := by
  decide +kernel

/-- A state and operands for the hypotheses of each clause of OutputPhaseWritesLoop. -/
theorem witness_outputPhaseWritesLoop :
    [(let s : State := computed 5; decide (s.sys.powered = true ∧ s.cmd.coming = []) && (match s.loop.outs with | n :: _ => decide (n < 64) && (let due := s.clk.now + s.ticksTo (s.beatNs + 1000 * (s.loopPhase n : Int)); (match s.runOf n with | some r => decide (r.finish ≤ 398 * due ∧ r.held = false) | _ => false)) | _ => false)),
     (let s : State := computedHeld 5; decide (s.sys.powered = true ∧ s.cmd.coming = []) && (match s.loop.outs with | n :: _ => decide (n < 64) && (let due := s.clk.now + s.ticksTo (s.beatNs + 1000 * (s.loopPhase n : Int)); (match s.runOf n with | some r => decide (r.finish ≤ 398 * due ∧ r.held = true) | _ => false)) | _ => false)),
     (let s : State := computed 5000000; decide (s.sys.powered = true ∧ s.cmd.coming = []) && (match s.loop.outs with | n :: _ => decide (n < 64) && (let due := s.clk.now + s.ticksTo (s.beatNs + 1000 * (s.loopPhase n : Int)); (match s.runOf n with | some r => decide (398 * due < r.finish) | _ => false)) | _ => false)),
     (let s : State := loopOff; decide (s.sys.powered = true ∧ s.cmd.coming = []) && (match s.loop.outs with | n :: _ => decide (n < 64) && (let _due := s.clk.now + s.ticksTo (s.beatNs + 1000 * (s.loopPhase n : Int)); decide (s.runOf n = none ∧ s.loopMode n = 0 ∧ (s.lc n).fall = none) && (let c := s.lc n; (let lim := sat32 (s.loopPer n * c.co 9); (let _y := max (c.co 7) (min (c.co 8) (if c.co 9 = 0 then c.co 10 else c.y + max (-lim) (min lim (c.co 10 - c.y)))); true)))) | _ => false))].all id = true := by
  decide +kernel

/-- A state and operands for the hypotheses of each clause of LoopModesShadowSetsAndHostSlots. -/
theorem witness_loopModesShadowSetsAndHostSlots :
    [(let s : State := loop0; decide (s.sys.powered = true) && (let _n : Fin 64 := 63; (let w : Word := 6; decide ((5 < fld w 0 3 ∨ fld w 4 2 = 3))))),
     (let s : State := regs [(loopReg Reg.LOOP_CFG 0, 0x00020001)] loopOff; decide (s.sys.powered = true) && (let n : Fin 64 := 0; (let w : Word := 5; decide (fld w 0 3 ≤ 5 ∧ fld w 4 2 ≠ 3 ∧ s.loopMode n = 0 ∧ fld w 0 3 ≠ 0 ∧ s.loopPer n ≠ 0) && (match s.admitTest n (s.loopCost n) with | some _ => true | _ => false)))),
     (let s : State := loop0; decide (s.sys.powered = true) && (let n : Fin 64 := 63; (let w : Word := 1000; decide (fld w 0 3 ≤ 5 ∧ fld w 4 2 ≠ 3 ∧ (s.loopMode n ≠ 0 ∨ fld w 0 3 = 0 ∨ (s.loopPer n ≠ 0 ∧ s.admitTest n (s.loopCost n) = none)))))),
     (let s : State := loop0; decide (s.sys.powered = true ∧ s.cmd.coming = [])),
     (let s : State := dev .loading (imgIn (fun i => { i with job := .load 1 false false }) armed); decide (s.sys.powered = true ∧ s.cmd.coming = []) && (let _dt : Nat := 1000; (match s.img.job with | .load _ _ _ => decide (s.sys.dev = .loading) | _ => false))),
     (let s : State := sysIn (fun x => { x with released := some 7 }) armed; decide (s.sys.powered = true ∧ s.cmd.coming = [] ∧ s.sys.released.isSome = true ∧ s.sys.ejLow = false)),
     (let s0 : State := dark; (let _dt : Nat := 1000; (let v : Nat := 1000; (let _h : Nat := 1000; (let _st : Fin 64 := 63; decide (s0.sys.powered = false ∧ 870 < v)))))),
     (let s0 : State := sysIn (fun x => { x with gaspFail := true }) armed; (let dt : Nat := 51; decide (s0.sys.powered = true) && (let s := s0.pass dt; (let v : Nat := 1000; decide (s.sys.gaspFail = true ∧ s.pfThr + 50 ≤ v)))))].all id = true := by
  decide +kernel

/-- A state and operands for the hypotheses of each clause of EphemerisBinsAreSet. -/
theorem witness_ephemerisBinsAreSet :
    [(let s : State := { bins with loop := { bins.loop with runs := (computed 5).loop.runs } }; decide (s.sys.powered = true) && (let n : Fin 64 := 63; decide (s.runOf n = none))),
     (let s : State := { bins with loop := { bins.loop with runs := (computed 5).loop.runs } }; decide (s.sys.powered = true) && (let n : Fin 64 := 0; decide (s.inExec n = true))),
     (let s : State := bins; decide (s.sys.powered = true) && (let k : Fin 8192 := 46; (let _w : Word := 8193; (match s.binOwner (8192 * s.rf Reg.EPH_BPAGE 0 3 + k) with | some n => decide (s.runOf n = none) | _ => false)))),
     (let s : State := { bins with loop := { bins.loop with runs := (computed 5).loop.runs } }; decide (s.sys.powered = true) && (let k : Fin 8192 := 8191; (let _w : Word := 8193; decide (s.binOwner (8192 * s.rf Reg.EPH_BPAGE 0 3 + k) = none)))),
     (let s : State := { bins with loop := { bins.loop with runs := (computed 5).loop.runs } }; decide (s.sys.powered = true) && (let n : Fin 64 := 63; (let w : Word := 31; decide (bitOf w 0 = true ∧ s.ephNb n = 0)))),
     (let s : State := { bins with loop := { bins.loop with runs := (computed 5).loop.runs } }; decide (s.sys.powered = true) && (let n : Fin 64 := 0; (let w : Word := 5; decide (bitOf w 0 = true ∧ s.ephNb n ≠ 0 ∧ s.loopMode n = 0 ∧ bitOf w 3 = false ∧ bitOf w 4 = false))))].all id = true := by
  decide +kernel

/-- A state and operands for the hypotheses of each clause of InjectionAndCapture. -/
theorem witness_injectionAndCapture :
    [(let s : State := armable; decide (s.sys.powered = true) && (let g : Fin 4 := 3; (let n := s.rf (genReg Reg.EPH_IGCTL g) 16 6; decide (s.bit (genReg Reg.EPH_IGCTL g) 24 = false ∧ s.bit (genReg Reg.EPH_IGCTL g) 25 = false ∧ s.genOf n = none ∧ s.loopMode n = 0)))),
     (let s : State := tuning; decide (s.sys.powered = true) && (let g : Fin 4 := 3; decide ((s.bit (genReg Reg.EPH_IGCTL g) 24 = true ∨ s.bit (genReg Reg.EPH_IGCTL g) 25 = true ∨ s.genOf (s.rf (genReg Reg.EPH_IGCTL g) 16 6) ≠ none)))),
     (let s : State := tuning; decide (s.sys.powered = true) && (let g : Fin 4 := 0; (match (s.gen g).bound with | some n => decide (n < 64) | _ => false))),
     (let s : State := tuning; decide (s.sys.powered = true) && (let g : Fin 4 := 0; (match (s.gen g).bound with | some n => decide (n < 64 ∧ s.genAct g = true ∧ s.genLen g ≤ s.genM g) | _ => false))),
     (let s : State := armable; decide (s.sys.powered = true) && (let c : Fin 8 := 7; (let n := s.rf (chanReg Reg.EPH_CCTL c) 8 6; (let base := (s.reg (chanReg Reg.EPH_CBASE c)).toNat; (let far := 2048 * (s.reg Reg.VSN_CAP_SLOTS).toNat + base + 32 * (s.reg (chanReg Reg.EPH_CBASE c + 4)).toNat; decide ((s.chan c).bound = none ∧ s.chanOf n = none ∧ base % 32 = 0 ∧ far ≤ s.capStore ∧ s.loopMode n = 0)))))),
     (let s : State := tuning; decide (s.sys.powered = true) && (let c : Fin 8 := 7; (let n := s.rf (chanReg Reg.EPH_CCTL c) 8 6; (let base := (s.reg (chanReg Reg.EPH_CBASE c)).toNat; (let far := 2048 * (s.reg Reg.VSN_CAP_SLOTS).toNat + base + 32 * (s.reg (chanReg Reg.EPH_CBASE c + 4)).toNat; decide (((s.chan c).bound ≠ none ∨ s.chanOf n ≠ none ∨ base % 32 ≠ 0 ∨ s.capStore < far))))))),
     (let s : State := tuning; decide (s.sys.powered = true) && (let c : Fin 8 := 0; (match (s.chan c).bound with | some n => decide (n < 64) | _ => false))),
     (let s : State := tuning; decide (s.sys.powered = true) && (let c : Fin 8 := 0; (match (s.chan c).bound with | some n => decide (n < 64 ∧ s.bit (chanReg Reg.EPH_CCTL c) 25 = true ∧ (s.reg (chanReg Reg.EPH_CBASE c + 4)).toNat ≤ (s.reg (chanReg Reg.EPH_CCNT c)).toNat) | _ => false))),
     (let s : State := tuning; decide (s.sys.powered = true) && (match s.eph.capq with | (c, _, _, _) :: _ => decide (c < 8) | _ => false))].all id = true := by
  decide +kernel

/-- A state and operands for the hypotheses of each clause of RangeDecisionsFollowSamples. -/
theorem witness_rangeDecisionsFollowSamples :
    [(let s0 : State := front 0x1091 id; (let dt : Nat := 5; (let _xs : List (List Int × Bool) := [([5, -6], true)]; decide (s0.sys.powered = true) && (let s := s0.pass dt; true))))].all id = true := by
  decide +kernel

/-- A state and operands for the hypotheses of each clause of OutputSamplesWriteSlots. -/
theorem witness_outputSamplesWriteSlots :
    [(let s0 : State := window 0x1091 id; (let dt : Nat := 9; (let k : Fin 16 := 0; (let _low : Bool := true; decide (s0.sys.powered = true) && (let s := s0.pass (s0.outWait k dt); (let _den := (if s.sinc1 k = true then s.chM k else s.chM k ^ 4) * 2 ^ 31; (match (s0.ac k).out with | some _ => true | _ => false))))))),
     (let s0 : State := front 0x1091 id; (let dt : Nat := 9; (let k : Fin 16 := 15; (let _low : Bool := true; decide (s0.sys.powered = true) && (let s := s0.pass (s0.outWait k dt); (let _den := (if s.sinc1 k = true then s.chM k else s.chM k ^ 4) * 2 ^ 31; decide ((s.ac k).out = none))))))),
     (let s0 : State := regs [(Reg.AFE_CHEN, 0)] (window 0x1091 id); (let dt : Nat := 9; (let k : Fin 16 := 0; (let _low : Bool := true; decide (s0.sys.powered = true) && (let s := s0.pass (s0.outWait k dt); (let _den := (if s.sinc1 k = true then s.chM k else s.chM k ^ 4) * 2 ^ 31; (match (s.ac k).out with | some _ => decide (s.afeOn k = false) | _ => false))))))),
     (let s0 : State := window 0x1091 (fun c => { c with supEnd := some 5 }); (let dt : Nat := 9; (let k : Fin 16 := 0; (let _low : Bool := true; decide (s0.sys.powered = true) && (let s := s0.pass (s0.outWait k dt); (let _den := (if s.sinc1 k = true then s.chM k else s.chM k ^ 4) * 2 ^ 31; decide (s.afeOn k = true ∧ (s.bit (excA (k / 2)) 17 = false ∨ s.afe.excOff.getLsbD (k / 2) = false)) && (match (s.ac k).out with | some _ => decide (s.afeMode k ≠ 4 ∧ s.afeMode k ≠ 5) && (match (s.ac k).supEnd with | some _ => true | _ => false) | _ => false))))))),
     (let s0 : State := window 0x1091 id; (let dt : Nat := 9; (let k : Fin 16 := 0; (let _low : Bool := true; decide (s0.sys.powered = true) && (let s := s0.pass (s0.outWait k dt); (let den := (if s.sinc1 k = true then s.chM k else s.chM k ^ 4) * 2 ^ 31; decide (s.afeOn k = true ∧ (s.bit (excA (k / 2)) 17 = false ∨ s.afe.excOff.getLsbD (k / 2) = false)) && (match (s.ac k).out with | some w => decide (s.afeMode k ≠ 4 ∧ s.afeMode k ≠ 5 ∧ (s.ac k).supEnd = none ∧ s.bit (cfgA k) 21 = false ∧ (s.ac k).cond = 0 ∧ s.afeCurve k = 0) && (let _raw := sat32 (divRound (w.sum * fs0 (s.afeMode k) * 65536) den); true) | _ => false))))))),
     (let s0 : State := window 0x201093 (fun c => { c with runOpen := 1 }); (let dt : Nat := 9; (let k : Fin 16 := 0; (let _low : Bool := true; decide (s0.sys.powered = true) && (let s := s0.pass (s0.outWait k dt); (let den := (if s.sinc1 k = true then s.chM k else s.chM k ^ 4) * 2 ^ 31; decide (s.afeOn k = true ∧ (s.bit (excA (k / 2)) 17 = false ∨ s.afe.excOff.getLsbD (k / 2) = false)) && (match (s.ac k).out with | some w => decide (w.range < 8 ∧ s.afeMode k = 3 ∧ (s.ac k).supEnd = none ∧ s.bit (cfgA k) 21 = true ∧ 1 ≤ (s.ac k).runOpen ∧ sat32 (divRound (w.sum * 25 * 65536) den) * 1000 < 3600 * 65536) | _ => false)))))))].all id = true := by
  decide +kernel

/-- A state and operands for the hypotheses of each clause of ExcitationAndEnables. -/
theorem witness_excitationAndEnables :
    [(let s : State := window 0x1091 (fun c => { c with supEnd := some 5 }); decide (s.sys.powered = true ∧ s.cmd.coming = []) && (let j : Fin 8 := 7; (let w : Word := 5; decide ((4 < fld w 0 3 ∨ s.rf (excA j) 0 3 = fld w 0 3))))),
     (let s : State := window 0x1091 (fun c => { c with supEnd := some 5 }); decide (s.sys.powered = true ∧ s.cmd.coming = []) && (let j : Fin 8 := 7; (let w : Word := 4; decide (fld w 0 3 ≤ 4 ∧ s.rf (excA j) 0 3 ≠ fld w 0 3)))),
     (let s : State := window 0x1091 (fun c => { c with supEnd := some 5 }); decide (s.sys.powered = true ∧ s.cmd.coming = []) && (let k : Fin 16 := 0; (match (s.ac k).supEnd with | some _ => true | _ => false))),
     (let s : State := { window 0x1091 id with afe := { (window 0x1091 id).afe with excOff := 1, restarted := [(0, 100)] } }; decide (s.sys.powered = true ∧ s.cmd.coming = []) && (let j : Fin 8 := 0; decide (s.afe.excOff.getLsbD j = true ∧ s.sys.gaspDone = false))),
     (let s : State := { window 0x1091 id with afe := { (window 0x1091 id).afe with excOff := 1, restarted := [(0, 100)] } }; decide (s.sys.powered = true ∧ s.cmd.coming = []) && (let j : Fin 8 := 0; decide (storeGet (fun _ => 0) s.afe.restarted j ≠ 0))),
     (let s : State := window 0x1091 (fun c => { c with supEnd := some 5 }); decide (s.sys.powered = true ∧ s.cmd.coming = []) && (let _w : Word := 5; true)),
     (let s0 : State := window 0x1091 (fun c => { c with supEnd := some 5 }); (let dt : Nat := 9; decide (s0.sys.powered = true) && (let s := s0.pass dt; (let j : Fin 8 := 0; (let _q : Nat := 9; decide (s.excOn j = true)))))),
     (let s0 : State := window 0x1091 (fun c => { c with supEnd := some 5 }); (let dt : Nat := 9; decide (s0.sys.powered = true) && (let s := s0.pass dt; (let j : Fin 8 := 7; (let _q : Nat := 9; decide (s.excOn j = false))))))].all id = true := by
  decide +kernel

/-- A state and operands for the hypotheses of each clause of CanReceivesThroughFilters. -/
theorem witness_canReceivesThroughFilters :
    [(let s0 : State := bus 1 id; (let dt : Nat := 9; (let x : Fin 2 := 1; decide (s0.sys.powered = true) && (let s := s0.pass dt; (let f : CanRx := rx0; decide (s.canOnBus x = true ∧ (s.can x).mode ≠ 4 ∧ (f.fdf = true → s.bit (Reg.CAN_CTL x) 6 = true)) && (match s.canElement x (canWord f) with | some e => decide (s.rf (Reg.CAN_FCTL x + 4 * e) 4 3 = 1 ∧ (s.can x).fifo0.length < 64) | _ => false)))))),
     (let s0 : State := bus 2 (fun c => { c with fifo1 := List.replicate 64 [1] }); (let dt : Nat := 9; (let x : Fin 2 := 1; decide (s0.sys.powered = true) && (let s := s0.pass dt; (let f : CanRx := rx0; decide (s.canOnBus x = true ∧ (s.can x).mode ≠ 4 ∧ (f.fdf = true → s.bit (Reg.CAN_CTL x) 6 = true)) && (match s.canElement x (canWord f) with | some e => decide (s.rf (Reg.CAN_FCTL x + 4 * e) 4 3 = 2 ∧ 64 ≤ (s.can x).fifo1.length) | _ => false)))))),
     (let s0 : State := bus 0 (fun c => { c with fifo0 := [[1], [2]] }); (let dt : Nat := 9; (let x : Fin 2 := 1; decide (s0.sys.powered = true) && (let s := s0.pass dt; (let f : CanRx := rx0; decide (s.canOnBus x = true ∧ (s.can x).mode ≠ 4 ∧ (f.fdf = true → s.bit (Reg.CAN_CTL x) 6 = true)) && (match s.canElement x (canWord f) with | some e => decide (s.rf (Reg.CAN_FCTL x + 4 * e) 4 3 = 0) | _ => false)))))),
     (let s0 : State := bus 1 id; (let dt : Nat := 9; (let x : Fin 2 := 1; decide (s0.sys.powered = true) && (let s := s0.pass dt; (let f : CanRx := { rx0 with fdf := true }; decide (s.canOnBus x = true ∧ (s.can x).mode ≠ 4 ∧ f.fdf = true ∧ s.bit (Reg.CAN_CTL x) 6 = false)))))),
     (let s0 : State := armed; (let dt : Nat := 9; (let x : Fin 2 := 1; decide (s0.sys.powered = true) && (let s := s0.pass dt; (let _f : CanRx := rx0; decide (s.canOnBus x = false)))))),
     (let s : State := bus 1 id; (let x : Fin 2 := 1; decide (s.sys.powered = true) && (let k : Fin 2 := 1; (let n : BitVec 7 := 9; decide ((n = 0 ∨ ((s.can x).fifo k).length < n.toNat)))))),
     (let s : State := bus 2 (fun c => { c with fifo1 := List.replicate 64 [1] }); (let x : Fin 2 := 1; decide (s.sys.powered = true) && (let k : Fin 2 := 1; (let n : BitVec 7 := 9; decide (n ≠ 0 ∧ n.toNat ≤ ((s.can x).fifo k).length))))),
     (let s : State := sect 11 (List.replicate 1568 0 ++ [3, 8, 0, 0, 0, 0, 10, 0]) (bus 1 fun c => { c with decAt := [(0, 9)] }); (let x : Fin 2 := 0; decide (s.sys.powered = true) && (let e : Fin 256 := 0; decide (s.cmd.coming = [] ∧ storeGet (fun _ => 0) (s.can x).decAt e ≠ 0 ∧ s.canTmo x e ≠ 0))))].all id = true := by
  decide +kernel

/-- A state and operands for the hypotheses of each clause of CanTransmitsInOrder. -/
theorem witness_canTransmitsInOrder :
    [(let s : State := regs [(Reg.CAN_TXW 0, 5), (Reg.CAN_TXW 1 + 4, 0x30)] (bus 1 id); (let x : Fin 2 := 1; decide (s.sys.powered = true) && (let f := s.canStaged (Reg.CAN_TXW x); decide ((f.fdf = true ∧ s.bit (Reg.CAN_CTL x) 6 = false) ∨ (f.brs = true ∧ f.fdf = false) ∨ (f.rtr = true ∧ f.fdf = true) ∨ 32 ≤ (s.can x).q.length)))),
     (let s : State := regs [(Reg.CAN_TXW 0, 5), (Reg.CAN_TXW 1 + 4, 0x30)] (bus 1 id); (let x : Fin 2 := 0; decide (s.sys.powered = true) && (let f := s.canStaged (Reg.CAN_TXW x); decide ((f.fdf = true → s.bit (Reg.CAN_CTL x) 6 = true) ∧ (f.brs = true → f.fdf = true) ∧ (f.rtr = true → f.fdf = false) ∧ (s.can x).q.length < 32)))),
     (let s : State := bus 1 (fun c => { c with q := [tx0, { tx0 with w0 := 5 }] }); (let x : Fin 2 := 1; decide (s.sys.powered = true) && (match (s.can x).q with | _ :: _ => decide ((s.can x).tx = none) | _ => false))),
     (let s : State := bus 1 (fun c => { c with q := [tx0], tx := some (sending 0 0) }); (let x : Fin 2 := 1; decide (s.sys.powered = true) && (match (s.can x).tx with | some u => decide (u.src = 0) | _ => false))),
     (let s : State := regs [(Reg.CAN_TXW 0, 5), (Reg.CAN_TXW 1 + 4, 0x30)] (bus 1 id); (let x : Fin 2 := 1; decide (s.sys.powered = true ∧ (s.can x).tx = none))),
     (let s : State := { armed with loop := { armed.loop with encAt := some 49000 } }; (let _x : Fin 2 := 1; decide (s.sys.powered = true ∧ s.cmd.coming = []) && (match s.loop.encAt with | some _ => true | _ => false))),
     (let s0 : State := bus 1 (fun c => { c with q := [tx0, { tx0 with w0 := 5 }] }); (let dt : Nat := 5; (let x : Fin 2 := 1; decide (s0.sys.powered = true) && (let s := s0.pass dt; decide (s.canOnBus x = true ∧ (s.can x).mode = 1 ∧ s.rf (Reg.CAN_CTL x) 0 3 = 1 ∧ (s.can x).tx = none ∧ ((List.range 4).all fun b => s.ttState x b != 2) = true ∧ s.canCands x ≠ []))))),
     (let s0 : State := bus 1 (fun c => { c with q := [tx0], tx := some (sending 0 0) }); (let dt : Nat := 9; (let x : Fin 2 := 1; decide (s0.sys.powered = true) && (let s := s0.pass dt; decide ((s.can x).reload = false) && (let _es : List Nat := [1, 2]; (match (s.can x).tx with | some u => decide (u.src = 0) && (match (s.can x).q with | _ :: _ => decide ((s.can x).mode = 1 ∧ s.canSsp x u.frame = false) | _ => false) | _ => false)))))),
     (let s0 : State := bus 1 (fun c => { c with q := [tx0], tx := some (sending 0 0) }); (let dt : Nat := 5; (let x : Fin 2 := 1; decide (s0.sys.powered = true) && (let s := s0.pass dt; decide ((s.can x).reload = false) && (match (s.can x).tx with | some u => decide (u.src = 0 ∧ u.abort = false) | _ => false))))),
     (let s0 : State := bus 1 (fun c => { c with q := [tx0], tx := some (sending 0 0) }); (let dt : Nat := 9; (let x : Fin 2 := 1; decide (s0.sys.powered = true) && (let s := s0.pass dt; decide ((s.can x).reload = false) && (let code : Nat := 5; (let _more : Nat := 9; (let _es : List Nat := [1, 2]; (match (s.can x).tx with | some u => decide (u.src = 0) && (match (s.can x).q with | _ :: _ => decide (code < 8) | _ => false) | _ => false))))))))].all id = true := by
  decide +kernel

/-- A state and operands for the hypotheses of each clause of CanTimedBuffersAndModes. -/
theorem witness_canTimedBuffersAndModes :
    [(let s : State := timed0 0 (bus 1 id); (let x : Fin 2 := 1; decide (s.sys.powered = true ∧ s.cmd.coming = []) && (let b : Fin 4 := 0; decide (s.ttState x b = 0 ∧ (s.reg (ttA x b + 4)).toNat ≤ 999999999 ∧ s.rf (ttA x b + 16) 0 16 ≠ 0)))),
     (let s : State := regs [(Reg.CAN_STAT 0, 4), (Reg.CAN_STAT 1, 4)] (bus 1 id); (let x : Fin 2 := 1; decide (s.sys.powered = true ∧ s.cmd.coming = []) && (let b : Fin 4 := 3; decide ((s.ttState x b ≠ 0 ∨ 999999999 < (s.reg (ttA x b + 4)).toNat ∨ s.rf (ttA x b + 16) 0 16 = 0))))),
     (let s : State := timed0 1 (bus 1 id); (let x : Fin 2 := 1; decide (s.sys.powered = true ∧ s.cmd.coming = []) && (let b : Fin 4 := 0; decide (s.ttState x b = 1)))),
     (let s : State := regs [(Reg.CAN_STAT 0, 4), (Reg.CAN_STAT 1, 4)] (bus 1 id); (let x : Fin 2 := 1; decide (s.sys.powered = true ∧ s.cmd.coming = []) && (let b : Fin 4 := 3; decide (s.ttState x b ≠ 3)))),
     (let s : State := timed0 3 (bus 1 fun c => { c with tx := some (sending 2 0) }); (let x : Fin 2 := 1; decide (s.sys.powered = true ∧ s.cmd.coming = []) && (let b : Fin 4 := 0; decide (s.ttState x b = 3) && (match (s.can x).tx with | some _ => true | _ => false)))),
     (let s : State := regs [(Reg.CAN_STAT 0, 4), (Reg.CAN_STAT 1, 4)] (bus 1 id); (let _x : Fin 2 := 1; decide (s.sys.powered = true ∧ s.cmd.coming = []) && (let w : Word := 5; decide (4 < fld w 0 3)))),
     (let s : State := armed; (let x : Fin 2 := 1; decide (s.sys.powered = true ∧ s.cmd.coming = []) && (let w : Word := 4; decide ((s.can x).mode = 0 ∧ 1 ≤ fld w 0 3 ∧ fld w 0 3 ≤ 4)))),
     (let s : State := regs [(Reg.CAN_STAT 0, 2), (Reg.CAN_STAT 1, 2)] (bus 1 fun c => { c with recov := true }); (let x : Fin 2 := 1; decide (s.sys.powered = true ∧ s.cmd.coming = [] ∧ s.rf (Reg.CAN_STAT x) 0 2 = 2))),
     (let s : State := regs [(Reg.CAN_STAT 0, 4), (Reg.CAN_STAT 1, 4)] (bus 1 id); (let _x : Fin 2 := 1; decide (s.sys.powered = true ∧ s.cmd.coming = []))),
     (let s0 : State := timed0 2 (bus 1 id); (let dt : Nat := 30000; (let x : Fin 2 := 1; decide (s0.sys.powered = true) && (let s := s0.pass dt; (let b : Fin 4 := 0; decide (s.canOnBus x = true ∧ (s.can x).mode = 1 ∧ s.rf (Reg.CAN_CTL x) 0 3 = 1 ∧ (s.can x).tx = none ∧ s.ttState x b = 2 ∧ (s.ttInst x b + 1000 * (s.rf (ttA x b + 16) 0 16 : Int) + 1) * 2 ^ 32 ≤ (s.clk.nt : Int))))))),
     (let s0 : State := bus 1 fun c => { c with mode := 2 }; (let dt : Nat := 30000; (let x : Fin 2 := 1; decide (s0.sys.powered = true) && (let s := s0.pass dt; decide (s.bit (Reg.CAN_STAT x) 2 = false ∧ (s.can x).tx = none ∧ s.rf (Reg.CAN_CTL x) 0 3 ≠ (s.can x).mode))))),
     (let s0 : State := regs [(Reg.CAN_STAT 0, 4), (Reg.CAN_STAT 1, 4)] (bus 1 id); (let dt : Nat := 30000; (let x : Fin 2 := 1; decide (s0.sys.powered = true) && (let s := s0.pass dt; decide (s.bit (Reg.CAN_STAT x) 2 = true ∧ s.rf (Reg.CAN_CTL x) 0 3 = (s.can x).mode))))),
     (let s0 : State := regs [(Reg.CAN_STAT 0, 2), (Reg.CAN_STAT 1, 2)] (bus 1 fun c => { c with recov := true }); (let dt : Nat := 30000; (let x : Fin 2 := 1; decide (s0.sys.powered = true) && (let s := s0.pass dt; decide (s.rf (Reg.CAN_STAT x) 0 2 = 2 ∧ (s.can x).recov = true))))),
     (let s0 : State := timed0 0 (bus 1 id); (let dt : Nat := 30000; (let x : Fin 2 := 1; decide (s0.sys.powered = true) && (let s := s0.pass dt; (let _code : Fin 8 := 7; (let _n : Nat := 30000; decide (s.canOnBus x = true ∧ (s.can x).mode = 1))))))),
     (let s0 : State := bus 1 fun c => { c with mode := 2 }; (let dt : Nat := 30000; (let x : Fin 2 := 1; decide (s0.sys.powered = true) && (let s := s0.pass dt; (let _code : Fin 8 := 7; (let _n : Nat := 30000; decide (s.canOnBus x = true ∧ (s.can x).mode = 2)))))))].all id = true := by
  decide +kernel

/-- A state and operands for the hypotheses of each clause of ImageIsVerifiedAndLoaded. -/
theorem witness_imageIsVerifiedAndLoaded :
    [(let s : State := rdy; (let _dt : Nat := 5; decide (s.sys.powered = true) && (let src : Fin 4 := 3; decide (s.mayVerify src = false)))),
     (let s : State := rdy; (let _dt : Nat := 5; decide (s.sys.powered = true) && (let src : Fin 4 := 1; decide (s.mayVerify src = true)))),
     (let s : State := rdy; (let _dt : Nat := 9; decide (s.sys.powered = true) && (let src : Fin 4 := 3; (let _k : Bool := true; decide (s.mayCommit src = false))))),
     (let s : State := rdy; (let _dt : Nat := 9; decide (s.sys.powered = true) && (let src : Fin 4 := 1; (let _k : Bool := true; decide (s.mayCommit src = true))))),
     (let s : State := imgIn (fun i => { i with job := .verify 0 }) armed; (let dt : Nat := 5; decide (s.sys.powered = true ∧ s.cmd.coming = []) && (match s.img.job with | .verify src => (let u := s.within dt (s.img.began + s.verifyTicks src); (let _v := u.checkSrc src (u.ueBetween u.img.began u.clk.now); true)) | _ => false))),
     (let s : State := dev .loading (imgIn (fun i => { i with job := .load 1 false false }) armed); (let dt : Nat := 5; decide (s.sys.powered = true ∧ s.cmd.coming = []) && (match s.img.job with | .load src false _ => decide (src < 3 ∧ s.sys.dev = .loading ∧ s.sys.ejLow = false) && (let u := s.within dt (s.loadDue src false); (let _v := u.firstRun src; (let _v3 := u.checkSrc 3 (u.ueLater src); true))) | _ => false))),
     (let s : State := dev .safe (imgIn (fun i => { i with job := .load 1 false false }) armed); (let _dt : Nat := 5; decide (s.sys.powered = true ∧ s.cmd.coming = []) && (match s.img.job with | .load _ _ _ => decide (s.sys.dev ≠ .loading) | _ => false)))].all id = true := by
  decide +kernel

set_option maxRecDepth 100000 in
/-- A state and operands for the hypotheses of each clause of NorSlotsAndKeyStore. -/
theorem witness_norSlotsAndKeyStore :
    [(let s : State := State.reset; (let _dt : Nat := 5; decide (s.sys.powered = true) && (let slot : Fin 4 := 3; decide (s.norReady slot = false)))),
     (let s : State := rdy; (let _dt : Nat := 5; decide (s.sys.powered = true) && (let slot : Fin 4 := 1; decide (s.norReady slot = true)))),
     (let s : State := State.reset; (let _dt : Nat := 5; decide (s.sys.powered = true) && (let slot : Fin 4 := 3; decide (s.slotDir.ok slot = false)))),
     (let s : State := bothValid rdy; (let _dt : Nat := 5; decide (s.sys.powered = true) && (let slot : Fin 4 := 1; decide (s.norReady slot = true ∧ s.slotDir.ok slot = true)))),
     (let s : State := rdy; (let _dt : Nat := 5; decide (s.sys.powered = true ∧ s.sys.dev = .ready ∧ s.bit Reg.IMG_KEY_CTL 1 = false ∧ s.img.keyProg = false))),
     (let s : State := State.reset; (let _dt : Nat := 5; decide (s.sys.powered = true ∧ (s.sys.dev ≠ .ready ∨ s.bit Reg.IMG_KEY_CTL 1 = true)))),
     (let s : State := imgIn (fun i => { i with erasing := [(1, 700), (2, 5)] }) rdy; (let _dt : Nat := 5; decide (s.sys.powered = true ∧ s.cmd.coming = []) && (match s.img.erasing with | (slot, _) :: _ => decide ((slot = 1 ∨ slot = 2)) | _ => false))),
     (let s : State := imgIn (fun i => { i with commits := [(1, 700), (2, 5)] }) rdy; (let dt : Nat := 5; decide (s.sys.powered = true ∧ s.cmd.coming = []) && (match s.img.commits with | (slot, due) :: _ => (let u := s.within dt due; (let _v := u.checkSrc slot (u.ueBetween (due - s.verifyTicks slot) u.clk.now); true)) | _ => false))),
     (let s : State := imgIn (fun i => { i with keyProg := true, keyDue := 500, key := some [1] }) rdy; (let _dt : Nat := 5; decide (s.sys.powered = true ∧ s.cmd.coming = [] ∧ s.img.keyProg = true))),
     (let s0 : State := imgIn (fun i => { i with norQueue := [(0x800100, 0x12345678), (0x800104, 0xFFFFFFFF)] }) rdy; (let dt : Nat := 5; decide (s0.sys.powered = true) && (let s := s0.pass dt; (match s.img.norQueue with | (_, _) :: _ => true | _ => false))))].all id = true := by
  decide +kernel

/-- A state and operands for the hypotheses of each clause of TimedSwapsExchangeParts. -/
theorem witness_timedSwapsExchangeParts :
    [(let s : State := swapAtInst 0 10 0x2B rdy; (let _dt : Nat := 10000000001; decide (s.sys.powered = true ∧ (s.sys.dev = .ready ∨ s.live = true) ∧ s.hasImage = true ∧ s.swapState = 0 ∧ s.bit Reg.IMG_STATUS 3 = true ∧ s.bit Reg.IMG_STATUS 2 = false ∧ (s.reg Reg.IMG_SWAP_AT_NS).toNat ≤ 999999999 ∧ (s.clk.nt : Int) < s.swapAt * 2 ^ 32 ∧ s.swapAt * 2 ^ 32 ≤ (s.clk.nt : Int) + 10000000000 * 2 ^ 32 ∧ s.bit Reg.IMG_STATUS 5 = true))),
     (let s : State := swapAtInst 1000000000 0 0x2B rdy; (let _dt : Nat := 10000000001; decide (s.sys.powered = true ∧ (s.sys.dev = .ready ∨ s.live = true) ∧ s.hasImage = true ∧ s.swapState = 0 ∧ s.bit Reg.IMG_STATUS 3 = true ∧ s.bit Reg.IMG_STATUS 2 = false ∧ (999999999 < (s.reg Reg.IMG_SWAP_AT_NS).toNat ∨ s.swapAt * 2 ^ 32 ≤ (s.clk.nt : Int) ∨ (s.clk.nt : Int) + 10000000000 * 2 ^ 32 < s.swapAt * 2 ^ 32)))),
     (let s : State := swapAtInst 5 9 0x0B rdy; (let _dt : Nat := 10000000001; decide (s.sys.powered = true ∧ (s.sys.dev = .ready ∨ s.live = true) ∧ s.hasImage = true ∧ s.swapState = 0 ∧ s.bit Reg.IMG_STATUS 3 = true ∧ s.bit Reg.IMG_STATUS 2 = false ∧ (s.reg Reg.IMG_SWAP_AT_NS).toNat ≤ 999999999 ∧ (s.clk.nt : Int) < s.swapAt * 2 ^ 32 ∧ s.swapAt * 2 ^ 32 ≤ (s.clk.nt : Int) + 10000000000 * 2 ^ 32 ∧ s.bit Reg.IMG_STATUS 5 = false) && (let _v := swapVerdict (s.imageOf 0) (s.imageOf 3); true))),
     (let s : State := imgIn (fun i => { i with prepDue := 700 }) (regs [(Reg.IMG_SWAP_CTL, 4)] (swapAtInst 5 0 0x2B rdy)); (let _dt : Nat := 5; decide (s.sys.powered = true ∧ (s.hasImage = false ∨ s.swapState ≠ 0 ∨ s.bit Reg.IMG_STATUS 3 = false ∨ s.bit Reg.IMG_STATUS 2 = true)))),
     (let s : State := imgIn (fun i => { i with prepDue := 700 }) (regs [(Reg.IMG_SWAP_CTL, 4)] (swapAtInst 5 0 0x2B rdy)); (let _dt : Nat := 33; decide (s.sys.powered = true ∧ s.swapState ≠ 0 ∧ s.img.swapDue = none ∧ (s.clk.nt : Int) < s.swapAt * 2 ^ 32))),
     (let s : State := imgIn (fun i => { i with swapDue := some 900 }) (regs [(Reg.IMG_SWAP_CTL, 8)] (swapAtInst 0 0 0x2B armed)); (let _dt : Nat := 33; decide (s.sys.powered = true ∧ s.swapAt * 2 ^ 32 ≤ (s.clk.nt : Int)))),
     (let s : State := imgIn (fun i => { i with prepDue := 700 }) (regs [(Reg.IMG_SWAP_CTL, 4)] (swapAtInst 5 0 0x2B rdy)); (let dt : Nat := 1; decide (s.sys.powered = true ∧ s.cmd.coming = [] ∧ s.swapState = 1) && (let u := s.within dt s.img.prepDue; decide ((u.clk.nt : Int) < s.swapAt * 2 ^ 32)))),
     (let s : State := imgIn (fun i => { i with prepDue := 700 }) (regs [(Reg.IMG_SWAP_CTL, 4)] (swapAtInst 5 0 0x2B rdy)); (let dt : Nat := 33; decide (s.sys.powered = true ∧ s.cmd.coming = [] ∧ s.swapState = 1) && (let u := s.within dt s.img.prepDue; decide (s.swapAt * 2 ^ 32 ≤ (u.clk.nt : Int))))),
     (let s : State := imgIn (fun i => { i with prepDue := 700 }) (regs [(Reg.IMG_SWAP_CTL, 4)] (swapAtInst 5 0 0x2B rdy)); (let _dt : Nat := 5; decide (s.sys.powered = true ∧ s.cmd.coming = [] ∧ s.swapState = 1 ∧ s.img.swapDue = none))),
     (let s : State := regs [(Reg.IMG_SWAP_CTL, 8), (Reg.IMG_SWAP_SECT, 5)] (swapAtInst 5 9 0x2B armed); (let _dt : Nat := 5; decide (s.sys.powered = true ∧ s.cmd.coming = [] ∧ 2 ≤ s.swapState ∧ s.img.swapDue = none))),
     (let s : State := imgIn (fun i => { i with swapDue := some 900 }) (regs [(Reg.IMG_SWAP_CTL, 8)] (swapAtInst 0 0 0x2B armed)); (let _dt : Nat := 5; decide (s.sys.powered = true ∧ s.cmd.coming = []) && (match s.img.swapDue with | some _ => true | _ => false)))].all id = true := by
  decide +kernel

/-- A state and operands for the hypotheses of each clause of ResetsLeadToBoot. -/
theorem witness_resetsLeadToBoot :
    [(let s : State := dark; (let _dt : Nat := 1000; (let v : Nat := 1000; (let _h : Nat := 1000; (let _st : Fin 64 := 63; decide (s.sys.powered = false ∧ 870 < v)))))),
     (let s : State := dark; (let _dt : Nat := 1000; (let v : Nat := 9; (let _h : Nat := 1000; (let _st : Fin 64 := 63; decide (s.sys.powered = false ∧ v ≤ 870)))))),
     (let s0 : State := sysIn (fun x => { x with gaspFail := true }) (regs [(Reg.PWR_PFCFG, 87)] armed); (let dt : Nat := 51; decide (s0.sys.powered = true) && (let s := s0.pass dt; (let v : Nat := 1000; decide (s.sys.gaspFail = true ∧ s.pfThr + 50 ≤ v))))),
     (let s0 : State := armed; (let dt : Nat := 51; decide (s0.sys.powered = true) && (let s := s0.pass dt; (let v : Nat := 51; decide ((s.sys.gaspFail = false ∨ v < s.pfThr + 50)))))),
     (let s : State := armed; decide (s.sys.powered = true) && (let k : Nat := 49375; decide (k ≠ 0xC0DE))),
     (let s : State := sysIn (fun x => { x with released := some 40 }) armed; decide (s.sys.powered = true) && (match s.sys.released with | some _ => decide (s.sys.ejLow = false ∧ s.cmd.coming = []) | _ => false)),
     (let s : State := armed; decide (s.sys.powered = true ∧ (s.sys.released = none ∨ s.sys.ejLow = true)))].all id = true := by
  decide +kernel

/-- A state and operands for the hypotheses of each clause of DeviceStatesFollowSoftware. -/
theorem witness_deviceStatesFollowSoftware :
    [(let s0 : State := State.reset; (let dt : Nat := 9; (let _bad : Bool := true; (let _vh : Nat := 9; decide (s0.sys.powered = true) && (let s := s0.pass (s0.bootWait dt); decide (s.sys.dev = .boot)))))),
     (let s0 : State := { dev .safe armed with clk := { armed.clk with now := 1 } }; (let dt : Nat := 9; (let _bad : Bool := true; (let _vh : Nat := 9; decide (s0.sys.powered = true) && (let s := s0.pass (s0.bootWait dt); decide (s.sys.dev ≠ .boot)))))),
     (let s : State := { dev .safe armed with clk := { armed.clk with now := 1 } }; decide (s.sys.powered = true) && (let _b : Bool := true; decide (s.bit Reg.NET_STAT 7 = false))),
     (let s : State := regs [(Reg.NET_STAT, 0x80)] rdy; decide (s.sys.powered = true) && (let _b : Bool := true; decide (s.bit Reg.NET_STAT 7 = true))),
     (let s : State := armable2 true; decide (s.sys.powered = true ∧ s.sys.dev = .ready ∧ s.hasImage = true ∧ s.tim.mode = .locked ∧ s.bit Reg.NET_STAT 7 = false ∧ s.sys.drvEnLow = false ∧ s.bit Reg.PRF_VFLT 1 = false ∧ s.rf Reg.BNK_DIEFLT 8 3 = 0 ∧ s.bit Reg.PWR_STAT 1 = true ∧ s.sys.ejLow = false ∧ s.bit Reg.SYS_STATUS 4 = false) && (match s.sys.armStep with | some (k, _) => decide (s.clk.now ≤ k + 2500000) | _ => false)),
     (let s : State := { dev .safe armed with clk := { armed.clk with now := 1 } }; decide (s.sys.powered = true) && (let b : Bool := true; decide (s.armRefusal b ≠ 0))),
     (let s : State := { dev .safe armed with clk := { armed.clk with now := 1 } }; decide (s.sys.powered = true) && (let _b : Bool := true; decide (s.sys.dev ≠ .ready ∧ s.sys.devTick ≠ s.clk.now))),
     (let s : State := dev .ready State.reset; decide (s.sys.powered = true) && (let _b : Bool := true; decide (s.sys.dev = .ready ∧ s.hasImage = false))),
     (let s : State := regs [(Reg.NET_STAT, 0x80)] rdy; decide (s.sys.powered = true) && (let _b : Bool := true; decide (s.sys.dev = .ready ∧ s.hasImage = true ∧ s.tim.mode ≠ .locked))),
     (let s : State := regs [(Reg.NET_STAT, 0x80)] rdy; decide (s.sys.powered = true) && (let _b : Bool := true; decide (s.sys.dev = .ready ∧ s.sys.armStep = none))),
     (let s : State := busy; decide (s.sys.powered = true ∧ s.live = true)),
     (let s : State := { dev .safe armed with clk := { armed.clk with now := 1 } }; decide (s.sys.powered = true ∧ s.live = false)),
     (let s : State := { dev .safe armed with clk := { armed.clk with now := 1 } }; decide (s.sys.powered = true ∧ s.maySafeclr = true ∧ s.sys.safeUe = false)),
     (let s : State := sysIn (fun x => { x with safeUe := true }) { dev .safe armed with clk := { armed.clk with now := 1 } }; decide (s.sys.powered = true ∧ s.maySafeclr = true ∧ s.sys.safeUe = true)),
     (let s : State := regs [(Reg.NET_STAT, 0x80)] rdy; decide (s.sys.powered = true ∧ s.maySafeclr = false)),
     (let s : State := { dev .safe armed with clk := { armed.clk with now := 1 } }; decide (s.sys.powered = true ∧ s.mayDrain = true)),
     (let s : State := State.reset; decide (s.sys.powered = true ∧ s.mayDrain = false))].all id = true := by
  decide +kernel

/-- A state and operands for the hypotheses of each clause of SuppliesWatchdogAndRemoval. -/
theorem witness_suppliesWatchdogAndRemoval :
    [(let s : State := busy; decide (s.sys.powered = true) && (let w : Word := 601; decide ((fld w 0 16 = 0 ∨ 600 < fld w 0 16)))),
     (let s : State := busy; decide (s.sys.powered = true) && (let w : Word := 600; decide (fld w 0 16 ≠ 0 ∧ fld w 0 16 ≤ 600))),
     (let s : State := sysIn (fun x => { x with wdogLast := some 1 }) busy; decide (s.sys.powered = true ∧ s.cmd.coming = []) && (match s.sys.wdogLast with | some _ => decide (s.bit Reg.SYS_WDOG 16 = true ∧ s.bit Reg.SYS_STATUS 1 = false) | _ => false)),
     (let s : State := sysIn (fun x => { x with drainTick := some 0, drainCode := 20 }) (dev .draining (shots [] busy)); decide (s.sys.powered = true ∧ s.cmd.coming = []) && (match s.sys.drainTick with | some _ => decide (s.sys.dev = .draining ∧ s.sys.drainCode ≠ 22) | _ => false)),
     (let s0 : State := busy; (let dt : Nat := 1000; decide (s0.sys.powered = true) && (let s := s0.pass dt; (let v : Nat := 9; (let _h : Nat := 1000; decide (v < s.pfThr ∧ s.sys.dev ≠ .boot ∧ s.sys.gaspUsed = false)))))),
     (let s0 : State := regs [(Reg.PWR_PFCFG, 87)] State.reset; (let dt : Nat := 1000; decide (s0.sys.powered = true) && (let s := s0.pass dt; (let v : Nat := 9; (let _h : Nat := 1000; decide (v < s.pfThr ∧ s.sys.dev = .boot)))))),
     (let s0 : State := busy; (let dt : Nat := 1000; decide (s0.sys.powered = true) && (let s := s0.pass dt; (let v : Nat := 1000; (let _h : Nat := 1000; decide (s.pfThr ≤ v)))))),
     (let s0 : State := busy; (let dt : Nat := 6201; decide (s0.sys.powered = true) && (let s := s0.pass dt; (let v : Nat := 6201; decide (6200 < v ∧ s.bit Reg.PWR_STAT 3 = false))))),
     (let s0 : State := busy; (let dt : Nat := 6201; decide (s0.sys.powered = true) && (let s := s0.pass dt; (let v : Nat := 6200; decide ((v ≤ 6200 ∨ s.bit Reg.PWR_STAT 3 = true)))))),
     (let s0 : State := regs [(Reg.PWR_STAT, 8)] busy; (let dt : Nat := 6001; decide (s0.sys.powered = true) && (let s := s0.pass dt; (let v : Nat := 5999; decide (v < 6000 ∧ s.bit Reg.PWR_STAT 3 = true))))),
     (let s0 : State := busy; (let dt : Nat := 6001; decide (s0.sys.powered = true) && (let s := s0.pass dt; (let v : Nat := 6001; decide (6000 ≤ v))))),
     (let s0 : State := sysIn (fun x => { x with vsup := 800 }) busy; (let dt : Nat := 1001; decide (s0.sys.powered = true) && (let s := s0.pass dt; (let h : Nat := 999; decide (h < 1000 ∧ s.sys.vsup < s.pfThr))))),
     (let s0 : State := busy; (let dt : Nat := 1001; decide (s0.sys.powered = true) && (let s := s0.pass dt; (let h : Nat := 1001; decide ((1000 ≤ h ∨ s.pfThr ≤ s.sys.vsup)))))),
     (let s0 : State := busy; (let dt : Nat := 1000; decide (s0.sys.powered = true) && (let s := s0.pass dt; decide (s.sys.ejServed = false ∧ (s.sys.dev = .ready ∨ s.sys.dev = .armed ∨ s.sys.dev = .dry ∨ s.sys.dev = .safe))))),
     (let s0 : State := regs [(Reg.PWR_PFCFG, 87)] State.reset; (let dt : Nat := 1000; decide (s0.sys.powered = true) && (let s := s0.pass dt; decide ((s.sys.dev = .boot ∨ s.sys.dev = .loading))))),
     (let s0 : State := sysIn (fun x => { x with drainTick := some 0, drainCode := 20 }) (dev .draining (shots [] busy)); (let dt : Nat := 1000; decide (s0.sys.powered = true) && (let s := s0.pass dt; (let _f : KenFault := ⟨[], 0, false⟩; (let _e : Nat := 1000; decide (s0.cmd.coming = [] ∧ ((s.sys.dev = .draining ∧ s.sys.gaspUsed = false ∧ s.drainDone = true ∧ s.sys.gaspRun = none) ∨ s.sys.gaspRun.isSome = true))))))),
     (let s0 : State := busy; (let dt : Nat := 1000; decide (s0.sys.powered = true) && (let s := s0.pass dt; (let _f : KenFault := ⟨[], 0, false⟩; (let _e : Nat := 1000; decide (s.sys.gaspRun = none ∧ (s.sys.dev ≠ .draining ∨ s.sys.gaspUsed = true)))))))].all id = true := by
  decide +kernel

/-- A state and operands for the hypotheses of each clause of SramErrorsActByRegion. -/
theorem witness_sramErrorsActByRegion :
    [(let s0 : State := netIn (fun n => { n with evq := [armed.mkEvent 0x0203 [1] false 0] }) (ringUp [[], [], [qf 5], []]); (let dt : Nat := 9; (let _u : Nat := 9; decide (s0.sys.powered = true) && (let s := s0.pass dt; (let r : Fin 14 := 13; decide (r.val ≠ 0)))))),
     (let s0 : State := netIn (fun n => { n with evq := [armed.mkEvent 0x0203 [1] false 0] }) (ringUp [[], [], [qf 5], []]); (let dt : Nat := 9; (let _u : Nat := 9; decide (s0.sys.powered = true) && (let s := s0.pass dt; (let r : Fin 14 := 1; decide (1 ≤ r.val ∧ r.val ≤ 3 ∧ (s.sys.dev = .ready ∨ s.sys.dev = .armed ∨ s.sys.dev = .dry))))))),
     (let s0 : State := busy; (let dt : Nat := 5; (let _u : Nat := 5; decide (s0.sys.powered = true) && (let s := s0.pass dt; decide (s0.cmd.coming = []) && (match s.cmd.queue with | _ :: _ => true | _ => false))))),
     (let s0 : State := netIn (fun n => { n with evq := [armed.mkEvent 0x0203 [1] false 0] }) (ringUp [[], [], [qf 5], []]); (let dt : Nat := 5; (let _u : Nat := 5; decide (s0.sys.powered = true) && (let s := s0.pass dt; decide (s.cmd.queue = []))))),
     (let s0 : State := netIn (fun n => { n with evq := [armed.mkEvent 0x0203 [1] false 0] }) (ringUp [[], [], [qf 5], []]); (let dt : Nat := 17; (let u : Nat := 15; decide (s0.sys.powered = true) && (let s := s0.pass dt; decide (u < 16))))),
     (let s0 : State := netIn (fun n => { n with evq := [armed.mkEvent 0x0203 [1] false 0] }) (ringUp [[], [], [qf 5], []]); (let dt : Nat := 33; (let u : Nat := 31; decide (s0.sys.powered = true) && (let s := s0.pass dt; decide (16 ≤ u ∧ u < 32))))),
     (let s0 : State := netIn (fun n => { n with evq := [armed.mkEvent 0x0203 [1] false 0] }) (ringUp [[], [], [qf 5], []]); (let dt : Nat := 49; (let u : Nat := 47; decide (s0.sys.powered = true) && (let s := s0.pass dt; decide (32 ≤ u ∧ u < 48))))),
     (let s0 : State := netIn (fun n => { n with evq := [armed.mkEvent 0x0203 [1] false 0] }) (ringUp [[], [], [qf 5], []]); (let dt : Nat := 49; (let u : Nat := 49; decide (s0.sys.powered = true) && (let s := s0.pass dt; decide (48 ≤ u))))),
     (let s0 : State := bus 1 (fun c => { c with fifo0 := [[1, 2], [3]] }); (let dt : Nat := 9; (let u : Nat := 8; decide (s0.sys.powered = true) && (let s := s0.pass dt; decide (u % 8 = 0) && (match s.can0.fifo0 with | _ :: _ => true | _ => false))))),
     (let s0 : State := netIn (fun n => { n with evq := [armed.mkEvent 0x0203 [1] false 0] }) (ringUp [[], [], [qf 5], []]); (let dt : Nat := 5; (let u : Nat := 4; decide (s0.sys.powered = true) && (let s := s0.pass dt; (match (s.port (u % 2)).queues.getD (u / 2 % 4) [] with | _ :: _ => true | _ => false))))),
     (let s0 : State := netIn (fun n => { n with evq := [armed.mkEvent 0x0203 [1] false 0] }) (ringUp [[], [], [qf 5], []]); (let dt : Nat := 5; (let u : Nat := 4; decide (s0.sys.powered = true) && (let s := s0.pass dt; decide (u % 2 = 0 ∧ s.bus = []) && (match s.net.evq with | _ :: _ => true | _ => false))))),
     (let s0 : State := shmIn (fun m => { m with waiting := [bareFrame] }) armed; (let dt : Nat := 5; (let u : Nat := 5; decide (s0.sys.powered = true) && (let s := s0.pass dt; decide (u % 2 = 1) && (match s.shm.waiting with | _ :: _ => true | _ => false))))),
     (let s0 : State := tuning; (let dt : Nat := 5; (let u : Nat := 85; decide (s0.sys.powered = true) && (let s := s0.pass dt; decide (u % 3 = 1) && (match s.eph.capq with | _ :: _ => true | _ => false))))),
     (let s0 : State := imgIn (fun i => { i with job := .verify 1 }) armed; (let dt : Nat := 5; (let _u : Nat := 5; decide (s0.sys.powered = true) && (let s := s0.pass dt; decide ((s.img.job ≠ .idle ∨ s.img.commits ≠ []))))))].all id = true := by
  decide +kernel

/-- A state and operands for the hypotheses of each clause of ShutterTakesSnapshots. -/
theorem witness_shutterTakesSnapshots :
    [(let s : State := armed; (let _dt : Nat := 1048600; decide (s.sys.powered = true ∧ s.bit Reg.SHT_STAT 0 = false ∧ s.atActs = false ∧ s.evActs = []))),
     (let s : State := shtIn (fun x => { x with snapTick := some 5 }) (regs [(Reg.SHT_STAT, 1)] armed); (let _dt : Nat := 1048600; decide (s.sys.powered = true ∧ s.bit Reg.SHT_STAT 0 = true ∧ s.sht.snapTick ≠ some s.clk.now))),
     (let s : State := shtIn (fun x => { x with snapTick := some 0 }) (regs [(Reg.SHT_STAT, 3)] armed); (let _dt : Nat := 1048600; decide (s.sys.powered = true ∧ s.bit Reg.SHT_STAT 0 = true ∧ s.sht.snapTick = some s.clk.now))),
     (let s : State := armed; (let _dt : Nat := 10000000001; decide (s.sys.powered = true) && (let inst := s.shtAtRegs * 2 ^ 32; (let nt := (s.clk.nt : Int); decide ((s.bit Reg.SHT_STAT 2 = true ∨ inst ≤ nt ∨ nt + 10000000000 * 2 ^ 32 < inst ∨ 999999999 < (s.reg Reg.SHT_AT_NS).toNat)))))),
     (let s : State := armed; (let _dt : Nat := 10000000001; decide (s.sys.powered = true) && (let inst := s.shtAtRegs * 2 ^ 32; (let nt := (s.clk.nt : Int); decide ((s.bit Reg.SHT_STAT 2 = true ∨ inst ≤ nt ∨ nt + 10000000000 * 2 ^ 32 < inst ∨ 999999999 < (s.reg Reg.SHT_AT_NS).toNat)) && (let w : Word := 1410065407; decide (bitOf w 1 = true)))))),
     (let s : State := regs [(Reg.SHT_AT_NS + 4, 10)] armed; (let _dt : Nat := 10000000001; decide (s.sys.powered = true) && (let inst := s.shtAtRegs * 2 ^ 32; (let nt := (s.clk.nt : Int); decide (s.bit Reg.SHT_STAT 2 = false ∧ nt < inst ∧ inst ≤ nt + 10000000000 * 2 ^ 32 ∧ (s.reg Reg.SHT_AT_NS).toNat ≤ 999999999))))),
     (let s : State := shtIn (fun x => { x with atInst := 700 }) (regs [(Reg.SHT_STAT, 4)] armed); (let _dt : Nat := 1048600; decide (s.sys.powered = true) && (let a : Nat := 1048600; (let _w : Word := 1048600; decide (s.bit Reg.SHT_STAT 2 = true ∧ a ∈ run Reg.SHT_AT_NS 3))))),
     (let s : State := shtIn (fun x => { x with atInst := 700 }) (regs [(Reg.SHT_STAT, 5)] armed); (let _dt : Nat := 1048600; decide (s.sys.powered = true ∧ s.cmd.coming = [] ∧ s.bit Reg.SHT_STAT 2 = true ∧ s.bit Reg.SHT_STAT 0 = true))),
     (let s : State := shtIn (fun x => { x with atInst := 700 }) (regs [(Reg.SHT_STAT, 4)] armed); (let _dt : Nat := 1048600; decide (s.sys.powered = true ∧ s.cmd.coming = [] ∧ s.bit Reg.SHT_STAT 2 = true ∧ s.bit Reg.SHT_STAT 0 = false))),
     (let s : State := armed; (let _dt : Nat := 1048600; decide (s.sys.powered = true ∧ s.bit Reg.SHT_STAT 2 = false))),
     (let s : State := shtIn (fun x => { x with evPend := [(3, 0x203), (4, 0x103)] }) armed; (let _dt : Nat := 1048600; decide (s.sys.powered = true ∧ s.cmd.coming = []) && (match s.sht.evPend with | _ :: _ => decide (s.bit Reg.SHT_STAT 0 = false) | _ => false))),
     (let s0 : State := regs [(Reg.SHT_IOCFG, 2)] armed; (let dt : Nat := 1048600; decide (s0.sys.powered = true) && (let s := s0.pass dt; (let _l : Bool := true; decide (s.ef Reg.SHT_IOCFG 0 2 = 2))))),
     (let s0 : State := regs [(Reg.SHT_IOCFG, 1)] armed; (let dt : Nat := 1048600; decide (s0.sys.powered = true) && (let s := s0.pass dt; (let l : Bool := true; decide (s.ef Reg.SHT_IOCFG 0 2 = 1 ∧ s.bit Reg.SHT_STAT 3 ≠ l ∧ bitOf (s.eff Reg.SHT_IOCFG) 2 ≠ l ∧ s.bit Reg.SHT_STAT 0 = false)))))].all id = true := by
  decide +kernel

/-- A state and operands for the hypotheses of each clause of WritesArePerformedThenTakeEffect. -/
theorem witness_writesArePerformedThenTakeEffect :
    [(let s : State := rdy; (let _dt : Nat := 1245180; decide (s.sys.powered = true) && (let a : Nat := 9; (let _w : Word := 1245180; decide ((a % 4 ≠ 0 ∨ 0x130000 ≤ a)))))),
     (let s : State := rdy; (let _dt : Nat := 1245180; decide (s.sys.powered = true) && (let a : Nat := 1245180; (let _w : Word := 1245180; decide (a % 4 = 0 ∧ a < 0x130000 ∧ regRow a = none))))),
     (let s : State := armed; (let _dt : Nat := 1245180; decide (s.sys.powered = true) && (let _w : Word := 1245180; decide (s.sys.dev ≠ .ready)))),
     (let s : State := rdy; (let _dt : Nat := 201; decide (s.sys.powered = true) && (let w : Word := 200; decide (s.sys.dev = .ready ∧ 20 ≤ fld w 0 8 ∧ fld w 0 8 ≤ 200 ∧ fld w 0 8 + 10 ≤ s.rf Reg.CMD_MIN_LEAD 0 10)))),
     (let s : State := { rdy with flights := [flight .time Reg.TRN_FREEZE 0, flight .aon Reg.PWR_RET2 0] }; (let _dt : Nat := 1245180; decide (s.sys.powered = true) && (let d : Dom := .time; decide (s.cmd.coming = []) && (match takeFlight d s.flights with | some (f, _) => decide (f.addr = Reg.TRN_FREEZE ∧ f.dom = .time) | _ => false)))),
     (let s : State := rdy; (let _dt : Nat := 1245180; decide (s.sys.powered = true) && (let d : Dom := .time; decide (s.cmd.coming = [] ∧ takeFlight d s.flights = none)))),
     (let s : State := { rdy with flights := [flight .time Reg.TRN_FREEZE 0, flight .aon Reg.PWR_RET2 0] }; (let _dt : Nat := 33; decide (s.sys.powered = true ∧ s.cmd.coming = []) && (match takeFlight .aon s.flights with | some (f, _) => decide (s.behindClear f = false ∧ f.dom = .aon ∧ f.addr = Reg.PWR_RET2 ∧ f.mask = BitVec.allOnes 32) | _ => false))),
     (let s : State := rdy; (let _dt : Nat := 1245180; decide (s.sys.powered = true) && (let _w : Word := 1245180; decide (s.sys.dev = .ready))))].all id = true := by
  decide +kernel

/-- A state and operands for the hypotheses of each clause of OpsReadWriteAndModify. -/
theorem witness_opsReadWriteAndModify :
    [(let s : State := armed; decide (s.sys.powered = true ∧ s.frontFree = true ∧ s.shm.waiting = [] ∧ s.flights = []) && (let a : Word := 32; decide (a.toNat % 4 = 0 ∧ a.toNat < 0x130000 ∧ a.toNat ≠ Reg.SYS_WIN_DATA ∧ (a.toNat < Reg.REC_DATA ∨ Reg.REC_DATA + 32 ≤ a.toNat) ∧ a.toNat ≠ Reg.SHT_RDDATA))),
     (let s : State := armed; decide (s.sys.powered = true ∧ s.frontFree = true ∧ s.shm.waiting = [] ∧ s.flights = []) && (let a : Word := 1048632; decide (pairLow.contains a.toNat = true))),
     (let s : State := armed; decide (s.sys.powered = true ∧ s.frontFree = true ∧ s.shm.waiting = [] ∧ s.flights = [])),
     (let s : State := armed; decide (s.sys.powered = true ∧ s.frontFree = true ∧ s.shm.waiting = [] ∧ s.flights = []) && (let a : Word := 9; (let _w : Word := 1245180; (let _k : Word := 1245180; decide ((a.toNat % 4 ≠ 0 ∨ 0x130000 ≤ a.toNat)))))),
     (let s : State := armed; decide (s.sys.powered = true ∧ s.frontFree = true ∧ s.shm.waiting = [] ∧ s.flights = []) && (let a : Word := 1245180; (let _w : Word := 1245180; (let _k : Word := 1245180; decide (a.toNat % 4 = 0 ∧ a.toNat < 0x130000 ∧ regRow a.toNat = none))))),
     (let s : State := armed; decide (s.sys.powered = true ∧ s.frontFree = true ∧ s.shm.waiting = [] ∧ s.flights = []) && (let _m : Fin 256 := 255; (let _w : Word := 1245180; true))),
     (let s : State := armed; decide (s.sys.powered = true ∧ s.frontFree = true ∧ s.shm.waiting = [] ∧ s.flights = []) && (let _m : Fin 256 := 255; (let _k : Word := 1245180; (let _v : Word := 1245180; true)))),
     (let s : State := regs [(Reg.SYS_WIN_ADDR, 0xFE800000)] armed; decide (s.sys.powered = true ∧ s.frontFree = true ∧ s.shm.waiting = [] ∧ s.flights = []) && (let _w : Word := 4278190081; decide (s.rf Reg.SYS_WIN_SEL 0 2 = 0 ∧ 0xFE800000 ≤ (s.reg Reg.SYS_WIN_ADDR).toNat ∧ (s.reg Reg.SYS_WIN_ADDR).toNat < 0xFF000000 ∧ s.stagingBusy = false))),
     (let s : State := regs [(Reg.SYS_WIN_ADDR, 0xFEFFFFFC)] (imgIn (fun i => { i with job := .verify 0 }) armed); decide (s.sys.powered = true ∧ s.frontFree = true ∧ s.shm.waiting = [] ∧ s.flights = []) && (let _w : Word := 4278190081; decide (s.rf Reg.SYS_WIN_SEL 0 2 = 0 ∧ 0xFE800000 ≤ (s.reg Reg.SYS_WIN_ADDR).toNat ∧ (s.reg Reg.SYS_WIN_ADDR).toNat < 0xFF000000 ∧ s.stagingBusy = true)))].all id = true := by
  decide +kernel

/-- A state and operands for the hypotheses of each clause of FramesFencesAndRetries. -/
theorem witness_framesFencesAndRetries :
    [(let s0 : State := asked; (let dt : Nat := 7; decide (s0.sys.powered = true) && (let s := s0.pass dt; (let _src : Peer := ⟨5, 6⟩; (let _pt : BitVec 16 := 7; (let p : List Byte := frame1; decide (¬ ShamelOk s p))))))),
     (let s0 : State := asked; (let dt : Nat := 7; decide (s0.sys.powered = true) && (let s := s0.pass dt; (let _src : Peer := ⟨5, 6⟩; (let _pt : BitVec 16 := 7; (let p : List Byte := shamel 0xFF 8 1 0x100 readOp; decide (ShamelOk s p ∧ (leAt p 10 2 &&& 0xFFDD ≠ 0 ∨ parseOps (leAt p 8 2) (p.drop 16) = none)))))))),
     (let s0 : State := shmIn (fun m => { m with cur := some { frame := bareFrame, wait := .fence 0 0 none } }) (regs [(Reg.NET_STAT, 0x100)] armed); (let dt : Nat := 7; decide (s0.sys.powered = true) && (let s := s0.pass dt; (let src : Peer := ⟨5, 6⟩; (let pt : BitVec 16 := 7; (let p : List Byte := readSlot; (let ops : List Op := [.read (Reg.LOOP_HVAL + 12) 1]; decide (ShamelOps s p ops) && (let resp (e : Op × OpResult) : Response := ⟨src.ip, src.mac, pt.toNat, s.respBytes (leAt p 4 4) (1 + 32 * b2n ((leAt p 10 2).testBit 5)) [e]⟩; decide ((∀ x, s.senderOf src.ip pt.toNat = some x → x.seq ≠ leAt p 4 4) ∧ s.frontFree = false))))))))),
     (let s0 : State := asked; (let dt : Nat := 7; decide (s0.sys.powered = true) && (let s := s0.pass dt; (let src : Peer := ⟨5, 6⟩; (let pt : BitVec 16 := 7; (let p : List Byte := readSlot; (let ops : List Op := [.read (Reg.LOOP_HVAL + 12) 1]; decide (ShamelOps s p ops) && (let resp (e : Op × OpResult) : Response := ⟨src.ip, src.mac, pt.toNat, s.respBytes (leAt p 4 4) (1 + 32 * b2n ((leAt p 10 2).testBit 5)) [e]⟩; decide ((∀ x, s.senderOf src.ip pt.toNat = some x → x.seq ≠ leAt p 4 4) ∧ s.frontFree = true ∧ s.shm.waiting = [] ∧ s.aonDone = true ∧ (leAt p 10 2).testBit 1 = false) && (let m : Fin 256 := 3; decide (ops = [.read (Reg.LOOP_HVAL + 4 * m) 1])))))))))),
     (let s0 : State := asked; (let dt : Nat := 7; decide (s0.sys.powered = true) && (let s := s0.pass dt; (let src : Peer := ⟨5, 6⟩; (let pt : BitVec 16 := 7; (let p : List Byte := writeSlot; (let ops : List Op := [.write (Reg.LOOP_HVAL + 12) [7]]; decide (ShamelOps s p ops) && (let resp (e : Op × OpResult) : Response := ⟨src.ip, src.mac, pt.toNat, s.respBytes (leAt p 4 4) (1 + 32 * b2n ((leAt p 10 2).testBit 5)) [e]⟩; decide ((∀ x, s.senderOf src.ip pt.toNat = some x → x.seq ≠ leAt p 4 4) ∧ s.frontFree = true ∧ s.shm.waiting = [] ∧ s.aonDone = true ∧ (leAt p 10 2).testBit 1 = false) && (let m : Fin 256 := 3; (let w : Word := 7; decide (ops = [.write (Reg.LOOP_HVAL + 4 * m) [w]]))))))))))),
     (let s0 : State := asked; (let dt : Nat := 7; decide (s0.sys.powered = true) && (let s := s0.pass dt; (let src : Peer := ⟨5, 6⟩; (let pt : BitVec 16 := 9; (let p : List Byte := shamel1; (let ops : List Op := [.read 0x10000 1]; decide (ShamelOps s p ops) && (let resp (e : Op × OpResult) : Response := ⟨src.ip, src.mac, pt.toNat, s.respBytes (leAt p 4 4) (1 + 32 * b2n ((leAt p 10 2).testBit 5)) [e]⟩; (match s.senderOf src.ip pt.toNat with | some x => decide (x.seq = leAt p 4 4) && (match x.resp with | some (_ :: _) => true | _ => false) | _ => false))))))))),
     (let s0 : State := asked; (let dt : Nat := 7; decide (s0.sys.powered = true) && (let s := s0.pass dt; (let src : Peer := ⟨6, 6⟩; (let pt : BitVec 16 := 9; (let p : List Byte := shamel1; (let ops : List Op := [.read 0x10000 1]; decide (ShamelOps s p ops) && (let resp (e : Op × OpResult) : Response := ⟨src.ip, src.mac, pt.toNat, s.respBytes (leAt p 4 4) (1 + 32 * b2n ((leAt p 10 2).testBit 5)) [e]⟩; (match s.senderOf src.ip pt.toNat with | some x => decide (x.seq = leAt p 4 4 ∧ x.resp = none) | _ => false))))))))),
     (let s : State := shmIn (fun m => { m with ready := [(bareFrame, ⟨5, 6, 9, [1, 2]⟩)] }) armed; decide (s.sys.powered = true) && (match s.shm.ready with | (_, _) :: _ => true | _ => false)),
     (let s : State := asked; decide (s.sys.powered = true ∧ s.frontFree = true ∧ s.shm.waiting = []) && (let m : Word := 7; decide (s.fenceOpen m.toNat s.clk.now = true))),
     (let s : State := { armed with flights := [flight .time Reg.TRN_FREEZE 0] }; decide (s.sys.powered = true ∧ s.frontFree = true ∧ s.shm.waiting = []) && (let m : Word := 0; decide (s.fenceOpen m.toNat s.clk.now = false))),
     (let s : State := asked; decide (s.sys.powered = true ∧ s.frontFree = true ∧ s.shm.waiting = []) && (let _sec : BitVec 64 := 1000000000; (let ns : Word := 1000000000; decide (999999999 < ns.toNat)))),
     (let s : State := asked; decide (s.sys.powered = true ∧ s.frontFree = true ∧ s.shm.waiting = []) && (let sec : BitVec 64 := 0; (let ns : Word := 0; decide (ns.toNat ≤ 999999999 ∧ fenceInst sec.toNat ns.toNat * 2 ^ 32 ≤ (s.clk.nt : Int))))),
     (let s : State := asked; decide (s.sys.powered = true ∧ s.frontFree = true ∧ s.shm.waiting = []) && (let sec : BitVec 64 := 10000000001; (let ns : Word := 999999999; decide (ns.toNat ≤ 999999999 ∧ (s.clk.nt : Int) + 10000000000 * 2 ^ 32 < fenceInst sec.toNat ns.toNat * 2 ^ 32)))),
     (let s : State := shmIn (fun m => { m with held := List.replicate 16 { frame := bareFrame, wait := .instant 700 } }) armed; decide (s.sys.powered = true ∧ s.frontFree = true ∧ s.shm.waiting = []) && (let sec : BitVec 64 := 7; (let ns : Word := 999999999; decide (ns.toNat ≤ 999999999 ∧ (s.clk.nt : Int) < fenceInst sec.toNat ns.toNat * 2 ^ 32 ∧ fenceInst sec.toNat ns.toNat * 2 ^ 32 ≤ (s.clk.nt : Int) + 10000000000 * 2 ^ 32 ∧ 16 ≤ s.heldCount)))),
     (let s : State := asked; decide (s.sys.powered = true ∧ s.frontFree = true ∧ s.shm.waiting = []) && (let sec : BitVec 64 := 7; (let ns : Word := 999999999; decide (ns.toNat ≤ 999999999 ∧ (s.clk.nt : Int) < fenceInst sec.toNat ns.toNat * 2 ^ 32 ∧ fenceInst sec.toNat ns.toNat * 2 ^ 32 ≤ (s.clk.nt : Int) + 10000000000 * 2 ^ 32 ∧ s.heldCount < 16 ∧ s.fenceOpen 0 s.clk.now = true)))),
     (let s : State := { armed with flights := [flight .time Reg.TRN_FREEZE 0] }; decide (s.sys.powered = true ∧ s.frontFree = true ∧ s.shm.waiting = []) && (let sec : BitVec 64 := 7; (let ns : Word := 999999999; decide (ns.toNat ≤ 999999999 ∧ (s.clk.nt : Int) < fenceInst sec.toNat ns.toNat * 2 ^ 32 ∧ fenceInst sec.toNat ns.toNat * 2 ^ 32 ≤ (s.clk.nt : Int) + 10000000000 * 2 ^ 32 ∧ s.heldCount < 16 ∧ s.fenceOpen 0 s.clk.now = false)))),
     (let s : State := shmIn (fun m => { m with cur := some { frame := bareFrame, wait := .fence 0 0 none } }) (regs [(Reg.NET_STAT, 0x100)] armed); decide (s.sys.powered = true) && (let m : Nat := 65537; decide (s.shm.held.any Held.blocks = false) && (match s.shm.cur with | some h => (match h.wait with | .fence m k none => decide (h.frame.ops = [] ∧ h.frame.port = 65536 ∧ s.shm.waiting = [] ∧ s.fenceOpen m k = true) | _ => false) | _ => false))),
     (let s : State := { shmIn (fun m => { m with cur := some { frame := bareFrame, wait := .fence 0 9 none } }) armed with flights := [flight .time Reg.TRN_FREEZE 5] }; decide (s.sys.powered = true) && (let m : Nat := 7; decide (s.shm.held.any Held.blocks = false) && (match s.shm.cur with | some h => (match h.wait with | .fence m k _ => decide (s.fenceOpen m k = false) | _ => false) | _ => false))),
     (let s : State := shmIn (fun m => { m with held := [{ frame := bareFrame, wait := .instant 700 }] }) armed; decide (s.sys.powered = true ∧ s.cmd.coming = []) && (match s.shm.held with | [h] => (match h.wait with | .instant _ => decide (h.frame.ops = [] ∧ h.frame.port = 65536) | _ => false) | _ => false))].all id = true := by
  decide +kernel

/-- A state and operands for the hypotheses of each clause of TestPortTakesInstructions. -/
theorem witness_testPortTakesInstructions :
    [(let s : State := armed; (let _i : TestInstr := .highz; decide (s.sys.powered = true)))].all id = true := by
  decide +kernel

/-! ### Witnesses that speak of the module's address or of a hash, which no evaluation reaches -/

theorem shaBlocks_length (k : Nat) (hs : List Word) (bs : List Byte) (h : hs.length = 8) : (shaBlocks k hs bs).length = 8 := by
  induction k generalizing hs bs with
  | zero => exact h
  | succ k ih => exact ih _ _ (by simp [shaBlock])

theorem leBytes_length (k n : Nat) : (leBytes k n).length = k := by
  induction k generalizing n with
  | zero => rfl
  | succ k ih => simp [leBytes, ih]

theorem sha256_length (m : List Byte) : (sha256 m).length = 32 := by
  have h8 := shaBlocks_length ((shaPad m).length / 64) shaH0 (shaPad m) (by decide +kernel)
  have hc : ∀ l : List Word, (l.flatMap fun w => (leBytes 4 w.toNat).reverse).length = 4 * l.length := by
    intro l
    induction l with
    | nil => rfl
    | cons w l ih => simp only [List.flatMap_cons, List.length_append, List.length_reverse, leBytes_length, ih, List.length_cons]; omega
  simp only [sha256, hc, h8]

theorem response_length (s : State) (n : List Byte) : (s.response n).length = 16 := by
  simp [State.response, hmacSha256, sha256_length]

theorem leBytes_of_four (b0 b1 b2 b3 : Byte) : leBytes 4 (w32 (leNat [b0, b1, b2, b3])).toNat = [b0, b1, b2, b3] := by
  have e : (w32 (leNat [b0, b1, b2, b3])).toNat = b0.toNat + 256 * (b1.toNat + 256 * (b2.toNat + 256 * b3.toNat)) := by
    simp only [w32, leNat, BitVec.toNat_ofNat]; omega
  rw [e]
  simp only [leBytes, List.cons.injEq, and_true]
  refine ⟨?_, ?_, ?_, ?_⟩ <;> apply BitVec.eq_of_toNat_eq <;> simp only [BitVec.toNat_ofNat] <;> omega

/-- REC_AUTH set to 16 bytes reads back as them. -/
theorem regBytes_auth (r : List Byte) (h : r.length = 16) (s : State) :
    (regs ((List.range 4).map fun k => (Reg.REC_AUTH + 4 * k, leAt r (4 * k) 4)) s).regBytes Reg.REC_AUTH 4 = r := by
  have hne : Reg.REC_AUTH ≠ Reg.REC_AUTH + 4 ∧ Reg.REC_AUTH ≠ Reg.REC_AUTH + 8 ∧ Reg.REC_AUTH ≠ Reg.REC_AUTH + 12 := by decide
  match r, h with
  | [b0, b1, b2, b3, b4, b5, b6, b7, b8, b9, b10, b11, b12, b13, b14, b15], _ =>
    simp [State.regBytes, regs, List.range, List.range.loop, State.reg, State.setReg, storeGet_set, leAt, leBytes_of_four]

/-- The answer in REC_AUTH is not the right one, whichever that is. -/
def chalWrong : State := if chal.regBytes Reg.REC_AUTH 4 = chal.response (List.replicate 16 7) then regs [(Reg.REC_AUTH, 1)] chal else chal

theorem regs_rcd (l : List (Nat × Nat)) (s : State) : (regs l s).rcd = s.rcd := by
  induction l generalizing s with
  | nil => rfl
  | cons p l ih => exact ih _

theorem witness_recorderClearRight :
    chalRight.sys.powered = true ∧ chalRight.rcd.challenge = some (List.replicate 16 7) ∧ chalRight.sys.dev = .ready ∧ chalRight.bit Reg.REC_CKEY_CTL 1 = true ∧
      chalRight.rcd.clrPend = false ∧ chalRight.rcd.frozenAt = none ∧ chalRight.bit Reg.REC_STAT 2 = false ∧
      chalRight.regBytes Reg.REC_AUTH 4 = chalRight.response (List.replicate 16 7) := by
  have e : chalRight.response (List.replicate 16 7) = chal.response (List.replicate 16 7) := by
    have hk : chalRight.rcd = chal.rcd := regs_rcd _ _
    have hw : chalRight.reg Reg.REC_WRAP = chal.reg Reg.REC_WRAP := by
      simp [chalRight, regs, List.range, List.range.loop, State.reg, State.setReg, storeGet_set, Reg.REC_WRAP, Reg.REC_AUTH]
    simp only [State.response, hk, hw]
  refine ⟨rfl, rfl, rfl, ?_, rfl, rfl, ?_, ?_⟩
  · have : chalRight.reg Reg.REC_CKEY_CTL = chal.reg Reg.REC_CKEY_CTL := by
      simp [chalRight, regs, List.range, List.range.loop, State.reg, State.setReg, storeGet_set, Reg.REC_CKEY_CTL, Reg.REC_AUTH]
    show bitOf (chalRight.reg _) 1 = true
    rw [this]; decide +kernel
  · have : chalRight.reg Reg.REC_STAT = chal.reg Reg.REC_STAT := by
      simp [chalRight, regs, List.range, List.range.loop, State.reg, State.setReg, storeGet_set, Reg.REC_STAT, Reg.REC_AUTH]
    show bitOf (chalRight.reg _) 2 = false
    rw [this]; decide +kernel
  · rw [e]; exact regBytes_auth _ (response_length _ _) _

theorem witness_recorderClearWrong :
    chalWrong.sys.powered = true ∧ chalWrong.rcd.challenge = some (List.replicate 16 7) ∧ chalWrong.sys.dev = .ready ∧ chalWrong.bit Reg.REC_CKEY_CTL 1 = true ∧
      chalWrong.rcd.clrPend = false ∧ chalWrong.rcd.frozenAt = none ∧ chalWrong.bit Reg.REC_STAT 2 = false ∧
      chalWrong.regBytes Reg.REC_AUTH 4 ≠ chalWrong.response (List.replicate 16 7) := by
  unfold chalWrong
  by_cases h : chal.regBytes Reg.REC_AUTH 4 = chal.response (List.replicate 16 7)
  · rw [if_pos h]
    have e : (regs [(Reg.REC_AUTH, 1)] chal).response (List.replicate 16 7) = chal.response (List.replicate 16 7) := by
      have hw : (regs [(Reg.REC_AUTH, 1)] chal).reg Reg.REC_WRAP = chal.reg Reg.REC_WRAP := by decide +kernel
      simp only [State.response, hw]; rfl
    refine ⟨rfl, rfl, rfl, by decide +kernel, rfl, rfl, by decide +kernel, ?_⟩
    rw [e, ← h]; decide +kernel
  · rw [if_neg h]
    exact ⟨rfl, rfl, rfl, by decide +kernel, rfl, rfl, by decide +kernel, h⟩

/-- A frame from another station, whatever the module's address, with sequence number 9. -/
def rxFrom (d : Nat) : RxFrame := { rx d with src := macNum + 1 }
/-- A unicast address that is not the module's. -/
def elsewhere : Nat := if macNum = 2 then 4 else 2
/-- The ring with a frame of that station sent on both ports and delivered. -/
def ringSeen : State :=
  netIn (fun n => { n with sentOn := [(0, macNum + 1, 9), (1, macNum + 1, 9)], nodes := [{ mac := macNum + 1, used := 40, high := 9, seen := [9, 8] }] }) (ringUp [[], [], [], []])

theorem witness_hsrForwards :
    let s0 := ringUp [[], [], [], []]
    let s := s0.pass 0
    let f := rxFrom elsewhere
    s0.sys.powered = true ∧ s.portOn 1 = true ∧ f.fcsOk = true ∧ f.hsr = some 9 ∧ f.lsduOk = true ∧ isPtpFrame f = false ∧ f.len ≤ 1518 ∧ f.src ≠ macNum ∧ f.dst ≠ macNum ∧
      f.dst / 2 ^ 40 % 2 = 0 ∧ s.sentAlready 0 f.src 9 = false ∧ (s.port 0).queues.length = 4 ∧
      s.hasRoom 0 (s.pcpQueue (f.pcp.getD (s.netc 9 1 0))) (rxOnward f .forwarded false f.payload none).len = true := by
  have hd : elsewhere ≠ macNum ∧ elsewhere / 2 ^ 40 % 2 = 0 := by
    unfold elsewhere; split <;> constructor <;> omega
  exact ⟨rfl, by decide +kernel, rfl, rfl, rfl, by decide, by decide, by simp [rxFrom], hd.1, hd.2, rfl, by decide +kernel, by decide +kernel⟩

theorem witness_hsrSentAlready :
    let s := ringSeen.pass 0
    let f := rxFrom macNum
    ringSeen.sys.powered = true ∧ s.portOn 1 = true ∧ f.fcsOk = true ∧ f.hsr = some 9 ∧ f.lsduOk = true ∧ isPtpFrame f = false ∧ f.len ≤ 1518 ∧ f.src ≠ macNum ∧
      f.dst = macNum ∧ s.sentAlready (1 - 1) f.src 9 = true ∧ s.isDup f.src 9 = true := by
  have e : ringSeen.pass 0 = ringSeen := rfl
  refine ⟨rfl, by decide +kernel, rfl, rfl, rfl, by decide, by decide, by simp [rxFrom], rfl, ?_, ?_⟩
  · rw [e]; simp [State.sentAlready, ringSeen, netIn, rxFrom]
  · rw [e]; simp [State.isDup, State.node, ringSeen, netIn, rxFrom, inWindow]

theorem witness_syncForwarded :
    let s0 := locked
    let s := s0.pass 0
    let f := { rxFrom elsewhere with payload := List.replicate 44 0 }
    let x := rxOnward f .ptp false (addCorr f.payload (s.linkDelay 1)) (some (s.inStamp 1 9))
    s0.sys.powered = true ∧ s.portOn 1 = true ∧ f.hsr.isSome = true ∧ f.lsduOk = true ∧ s.ptpDom 0 = some 0 ∧ s.forwards 1 f = true ∧ (s.port (1 - 1)).queues.length = 4 ∧
      s.hasRoom (1 - 1) 3 x.len = true := by
  have hd : elsewhere ≠ macNum ∧ elsewhere / 2 ^ 40 % 2 = 0 := by
    unfold elsewhere; split <;> constructor <;> omega
  refine ⟨rfl, by decide +kernel, rfl, rfl, by decide +kernel, ?_, by decide +kernel, by decide +kernel⟩
  have e : locked.pass 0 = locked := rfl
  rw [e]; simp [State.forwards, State.sentAlready, locked, sect, ringUp, rxFrom, rx, hd.1, armed, regs, State.setReg, dev, State.reset]

/-- The ring that has delivered nothing yet. -/
def ringNew : State := netIn (fun n => { n with nodes := [] }) (ringUp [[], [], [], []])

theorem witness_hsrDelivered :
    let s := ringNew.pass 0
    let f := { rxFrom macNum with etype := 0x0806 }
    ringNew.sys.powered = true ∧ s.portOn 1 = true ∧ f.fcsOk = true ∧ f.hsr = some 9 ∧ f.lsduOk = true ∧ isPtpFrame f = false ∧ f.len ≤ 1518 ∧ f.src ≠ macNum ∧
      f.dst = macNum ∧ s.isDup f.src 9 = false ∧ f.etype = 0x0806 := by
  exact ⟨rfl, by decide +kernel, rfl, rfl, rfl, by decide, by decide, by simp [rxFrom], rfl, rfl, rfl⟩

theorem witness_addressClaimed :
    (ringUp [[], [], [], []]).sys.powered = true ∧ macNum + 1 ≠ macNum ∧ ((ringUp [[], [], [], []]).pass 0).reg Reg.NET_IPV4 ≠ 0 ∧
      (9 : Word) ≠ ((ringUp [[], [], [], []]).pass 0).reg Reg.NET_IPV4 := by
  exact ⟨rfl, by omega, by decide +kernel, by decide +kernel⟩

/-! ### Witnesses of the statements about every command -/

theorem witness_stepRunsFrontCommand : ({ armed with pending := [.disarm, .drain] } : State).pending = Instr.disarm :: [.drain] := rfl

theorem witness_everyCommandCompletes : armed.sys.powered = true := rfl

theorem witness_countersAndMarksClear : counterClears.length = 14 ∧ (counterClears.all fun x => (x.1 = Instr.cmdLclr) ∨ x.2.length ≤ 96) = true ∧ armed.sys.powered = true ∧ armed.bus = [] := by
  decide +kernel

theorem witness_stepsKeepSwitchesApart : Sound State.reset ∧ Sound { armed with pending := [.disarm] } ∧ ∃ t, step { armed with pending := [.disarm] } = .next t := by
  exact ⟨⟨rfl, by decide +kernel⟩, ⟨rfl, by decide +kernel⟩, _, rfl⟩

theorem witness_unpoweredStaysUnpowered : dark.sys.powered = false ∧ ∀ c ∈ ({ dark with pending := [Instr.swapArm] } : State).pending, ∀ dt v h st, c ≠ .powerOn dt v h st := by
  refine ⟨rfl, ?_⟩
  intro c hc dt v h st e
  simp only [List.mem_singleton] at hc
  subst hc; cases e

/-! ### Well-formedness: for each check a command it refuses -/

/-- A received frame shorter than a ring frame can be. -/
def runt : RxFrame := { rx 2 with len := 63 }
/-- A remote frame in FD format. -/
def canBad : CanRx := { rx0 with rtr := true, fdf := true }
/-- A slot beyond the Kennel. -/
def kenBad : KenFault := ⟨[67584], 0, false⟩

/-- A frame of the default domain number that carries a Sync of zeros. -/
def syncRx : RxFrame := { rx 0x011B19000000 with etype := 0x88F7, payload := [0x10, 0x12] ++ List.replicate 42 0 }

theorem smoke_wf_accepts :
    ([.registerWrite 0x12FFFC 0, .read 0x10000 255, .write 0 [1], .frameReceive 1 0 (rx 2), .canRxFrame 0 1 rx0, .recordWrite 0 ⟨[67583], 3, true⟩, .pdelayReq 1 0 65535 ⟨7, 15⟩,
      .linkUp 0 0 2500, .dieTempWarning 0 0 140, .beat, .resetAll, .sync 0 0 0 0 0 0 false true 0 0 0 syncRx, .ov1 0 ⟨1023, 9⟩] : List Instr).all Instr.wf = true := by decide +kernel

theorem smoke_wf_refuses_addresses_and_counts :
    ([.registerWrite 0x130000 0, .registerWrite 0x10002 0, .faultClear 0x50001 1, .read 0 0, .read 0 256, .write 0 [], .readWin 0, .readWin 256, .writeWin [],
      .delayWrite true 3 0, .delayWrite false 2976 0, .savedWrite true 3 0, .savedWrite false 2976 0] : List Instr).all (fun c => !c.wf) = true := by decide +kernel

theorem smoke_wf_refuses_measurements :
    ([.overcurrent 0 0 0 4096, .stuckon 0 0 4096, .absorb 0 ⟨1024, 0⟩, .absorbEnd 0 ⟨1024, 0⟩, .ov1 0 ⟨1024, 0⟩, .ov1End 0 ⟨1024, 0⟩, .ov2 0 ⟨1024, 0⟩,
      .vbstUv 0 ⟨1024, 0⟩ true, .vbstUvEnd 0 ⟨1024, 0⟩, .faultClearEffect 0 ⟨2 ^ 32, 0⟩, .faultClearEffect 0 ⟨0, 4096⟩, .dieTempWarning 0 0 256, .dieTempWarningEnd 0 0 (-129),
      .dieTempShutdown 0 0 256, .zoneUpdate (List.replicate 9 0), .rangeSample 0 (List.replicate 17 ([], true))] : List Instr).all (fun c => !c.wf) = true := by decide +kernel

theorem smoke_wf_refuses_messages :
    ([.shamelFrame 0 ⟨0, 0⟩ 0 (List.replicate 8973 0), .shamelFrame 0 ⟨0, 2 ^ 48⟩ 0 [], .commandFrame 0 (List.replicate 8973 0), .icmpEcho 0 0 0 (List.replicate 8973 0),
      .icmpEcho 0 (2 ^ 48) 0 [], .arpRequest 0 ⟨2 ^ 48, 0⟩ 0 0 true, .arpRequest 0 ⟨0, 2 ^ 48⟩ 0 0 true, .sync 0 0 0 5 0 0 false true 0 0 0 (rx 2),
      .sync 0 0 0 0 0 0 false true 0 0 16 syncRx, .sync 0 0 1 0 0 0 false true 0 0 0 syncRx, .sync 0 0 0 0 1 0 false true 0 0 0 syncRx, .sync 0 0 0 0 0 0 false true 0 1 0 syncRx,
      .announce 0 256 0 0 [] 0 0 0, .announce 0 0 (2 ^ 80) 0 [] 0 0 0, .announce 0 0 0 (2 ^ 64) [] 0 0 0, .announce 0 0 0 0 [] 0 65536 0, .pdelayReq 0 0 65536 ⟨0, 0⟩,
      .pdelayReq 0 0 0 ⟨2 ^ 80, 0⟩, .pdelayReq 0 0 0 ⟨0, 16⟩, .pdelayResp 0 0 65536 0 none 0, .pdelayResp 0 0 0 0 none 16, .frameReceive 0 0 runt,
      .frameReceive 0 0 { rx 2 with dst := 2 ^ 48 }, .frameReceive 0 0 { rx 2 with src := 2 ^ 48 }, .frameReceive 0 0 { rx 2 with path := 16 }, .frameReceive 0 0 { rx 2 with vid := 4096 },
      .frameReceive 0 0 { rx 2 with q := 16 }, .frameReceive 0 0 { rx 2 with payload := List.replicate 83 0 },
      .frameReceive 0 0 { rx 2 with etype := 65536 }, .frameReceive 0 0 { rx 2 with hsr := some 65536 }, .frameReceive 0 0 { rx 2 with pcp := some 8 },
      .linkUp 0 0 42] : List Instr).all (fun c => !c.wf) = true := by decide +kernel

theorem smoke_wf_refuses_can_and_kennel :
    ([.canRxFrame 0 0 canBad, .canRxFrame 0 0 { rx0 with id := 2 ^ 11 }, .canRxFrame 0 0 { rx0 with ide := true, id := 2 ^ 29 }, .canRxFrame 0 0 { rx0 with dlc := 16 },
      .canRxFrame 0 0 { rx0 with data := List.replicate 65 0 }, .canRxFrame 0 0 { rx0 with brs := true }, .recordWrite 0 kenBad, .recCleared 0 kenBad, .lastGasp 0 kenBad 0]
      : List Instr).all (fun c => !c.wf) = true := by decide +kernel

/-! ### Small tests: the spec's own worked examples, and single steps whose result the spec's tables give -/

/-- The state a step answers. -/
def after (c : Instr) (s : State) : State :=
  match step { s with pending := [c] } with
  | .next t => t
  | _ => s

/-- 00, worked example: TIME 78,125 is sent as 0x2D, 0x31, 0x01, 0x00. -/
theorem test_word_byte_order : leBytes 4 (1250000 / 16) = [0x2D, 0x31, 0x01, 0x00] := by decide

/-- 01, worked example: VLV37 lies in bank 1. -/
theorem test_valve_37_in_bank_1 : bankOf 37 = 1 ∧ banksOf 0 = [0, 1, 2, 3] := by decide

/-- 05, worked example: map 2, class 96, lane 37 with CORR −25 and AIR 3,600. -/
def bean : State :=
  sect 3 (List.replicate 298 0 ++ [0x10, 0x0E])
    (sect 6 (List.replicate (2560 + 384) 0 ++ [0xE0, 0x93, 0x04, 0x00] ++ List.replicate (2560 + 1024 + 74 - 2948) 0 ++ [0xE7, 0xFF]) State.reset)
/-- Its command: KIND 1, lane 37, DUR 400, class 96, map 2, profile 4, stamp in ns of its second. -/
def beanCmd : Cmd := { stamp := 123473003, w1 := w32 (1 * 2 ^ 30 + 37 * 2 ^ 23 + 400 * 2 ^ 8 + 96), w2 := w32 (4 * 2 ^ 9 + 2 * 2 ^ 4), source := 0 }

theorem test_bean_exit_interval : bean.interval { req0 with cmd := beanCmd, lane := 37 } = (196666753, 198666753) := by decide +kernel

/-- The grid instant at or before 196,356,753 ns. -/
theorem test_bean_open_instant : openOf 196666753 620 = 196356752 := by decide +kernel

/-- 10, worked example: node 5 answers a READ of four words at TIM_NT_FRAC. -/
def node5 : State := regs [(Reg.NET_STAT, 0x500)] (ringUp [[], [], [], []])
/-- What it answered. -/
def node5Answer : List Byte :=
  ((after (.shamelFrame 0 ⟨7, 8⟩ 9 (shamel 5 0x1234 1 0 [0x01, 0x04, 0x00, 0x00, 0x10, 0x00, 0x07, 0x00])) node5).shm.ready.map (·.2.bytes)).getD 0 []

theorem test_read_nt_response : node5Answer.length = 40 ∧ node5Answer.take 4 = [0x4D, 0x53, 0x01, 0x05] ∧ (node5Answer.drop 8).take 4 = [0x01, 0x00, 0x01, 0x00] ∧
    (node5Answer.drop 16).take 8 = [0x01, 0x04, 0x00, 0x04, 0x10, 0x00, 0x07, 0x00] := by decide +kernel

/-- 18 R362: a disarm leads from ARMED to READY. -/
theorem test_disarm_leaves_armed : (after .disarm armed).sys.dev = .ready := by decide +kernel

/-- 06 R133: clearing an enable whose channel is idle turns it OFF. -/
theorem test_channel_off : ((after (.channelEnableWrite 0 0xFFFFFFFE) armed).reg Reg.BNK_CHEN).toNat % 2 = 0 ∧ ((after (.channelEnableWrite 0 0xFFFFFFFE) armed).reg Reg.BNK_CHST).toNat % 4 = 0 := by
  decide +kernel

/-- 00 R5: a write of a read-only register changes nothing. -/
theorem test_read_only_register : (after (.registerWrite Reg.SYS_STATE 7) armed).reg Reg.SYS_STATE = armed.reg Reg.SYS_STATE := by decide +kernel

/-- 11 R234: a host slot takes its written value with COND 0, and COND 3 when invalidated. -/
theorem test_host_slot : (after (.hostSlotWrite 3 77) rdy).slot (768 + 3) = ⟨0, 77⟩ := by decide +kernel

/-- 04 R71, R78: a frame with a wrong check sum enters nothing. -/
theorem test_bad_command_frame : (after (.commandFrame 0 badCrc) armed).cmd.queue = [] ∧ (after (.commandFrame 0 frame1) armed).cmd.queue.length = 1 := by decide +kernel

/-- 18 R360: a reset empties the intake queue and leads to BOOT. -/
theorem test_reset_pin : (after (.resetPin 0 0) (queue [cmd0] armed)).cmd.queue = [] ∧ (after (.resetPin 0 0) armed).sys.dev = .boot := by decide +kernel

/-- A state in which one finished shot's record is due. -/
def shotDue (h : Shot) : State := { journal with vsn := { journal.vsn with jq := [.shot { h with phase := .done }] } }

/-- 02 R45, 07 R151: on a dry bank IMAX and VBST, bytes 56 … 58 of the record, and TBST, bytes 60 and 61, read 0. -/
theorem test_dry_record : [56, 57, 58, 60, 61].map (fun a => ((after (.journalWrite 0 ⟨false, some 77⟩) (shotDue { shot0 with dry := true })).dramByte a).toNat) = [0, 0, 0, 0, 0] := by
  decide +kernel

end Sys2Proof.Tests
end

section
/-! Registers, Shamel ops: what a READ of an address without a register answers (00 R4; 20 R403). -/

namespace Sys2Proof.Machine

/-- The state after reset, but with a nonzero word listed in the register store at 0x12FFFC, an aligned address of the register space that holds no register. -/
def strayWord : State := State.reset.setReg 0x12FFFC 1

/-- No register of R403 stands at 0x12FFFC. -/
theorem regRow_strayAddress : regRow 0x12FFFC = none := by decide +kernel

/-- A READ finds what the register store lists, also where the register map has no row: the answer is the stray word, not the 0 of R4. -/
theorem read_strayWord : Answers (.read 0x12FFFC 1) strayWord fun t => t.shm.last = ⟨0, 1, [1]⟩ :=
  ⟨_, rfl, by decide +kernel⟩

/-- Refutes O58: its clause on an address without a register asks every state for the answer 0, and nothing in its hypotheses says that the register store lists no word there. The state `strayWord` meets them all and answers 1. -/
theorem not_opsReadWriteAndModify : ¬ Obligations.OpsReadWriteAndModify := by
  unfold Obligations.OpsReadWriteAndModify
  intro h
  obtain ⟨-, -, -, -, noRegister, -⟩ := h strayWord rfl rfl rfl rfl
  obtain ⟨readsZero, -, -⟩ := noRegister 0x12FFFC 0 0 (by decide) (by decide) regRow_strayAddress
  obtain ⟨t, ht, hzero, -⟩ := readsZero
  obtain ⟨u, hu, hone⟩ := read_strayWord
  obtain rfl : t = u := Host.Outcome.next.inj (ht.symm.trans hu)
  exact absurd (hzero.symm.trans hone) (by decide)

end Sys2Proof.Machine
end

section
/-! SUPPORT. What a command answers when its effect leaves the clock where it is, and what the answer keeps of the effect. -/

namespace Sys2Proof.Machine

/-- An effect that leaves the clock where it is acts once, whatever has still to enter the queue. -/
theorem State.during_of_still (s : State) (f : State → State) (h : (f s).clk.now = s.clk.now) : s.during f = f s := by
  simp [State.during, h]

/-- A command whose effect leaves the clock where it is answers that effect, after its ticks. -/
theorem answers_still {c : Sys2Proof.Instr} {s : State} {P : State → Prop} (dt : Nat) (f : State → State) (he : exec c s = act dt f s)
    (hp : s.sys.powered = true) (hclk : (f (s.pass dt)).clk.now = (s.pass dt).clk.now) (h : P (s.noteSwitches (f (s.pass dt)).flush)) : Answers c s P :=
  ⟨_, by rw [he, act_powered dt f s hp, State.during_of_still _ f hclk], h⟩

@[simp] theorem State.slot_flush (s : State) (n : Nat) : s.flush.slot n = s.slot n := by simp [State.slot]
@[simp] theorem State.slot_noteSwitches (s t : State) (n : Nat) : (s.noteSwitches t).slot n = t.slot n := by simp [State.slot]
@[simp] theorem State.inp_flush (s : State) (n : Nat) : s.flush.inp n = s.inp n := by simp [State.inp]
@[simp] theorem State.inp_noteSwitches (s t : State) (n : Nat) : (s.noteSwitches t).inp n = t.inp n := by simp [State.inp]
@[simp] theorem State.lc_flush (s : State) (n : Nat) : s.flush.lc n = s.lc n := by simp [State.lc]
@[simp] theorem State.lc_noteSwitches (s t : State) (n : Nat) : (s.noteSwitches t).lc n = t.lc n := by simp [State.lc]
@[simp] theorem State.bit_noteSwitches (s t : State) (a i : Nat) : (s.noteSwitches t).bit a i = t.bit a i := by simp [State.bit]
@[simp] theorem State.rf_noteSwitches (s t : State) (a l n : Nat) : (s.noteSwitches t).rf a l n = t.rf a l n := by simp [State.rf]

/-- The answer changes no register outside `busRegs` that the effect did not. -/
theorem KeepsRegs.answer {s t : State} {as : List Nat} (h : KeepsRegs s t as) (u : State) : KeepsRegs s (u.noteSwitches t.flush) as :=
  fun a ha hb => (State.noteSwitches_reg _ _ a).trans ((t.reg_flush hb).trans (h a ha hb))

/-- The answer keeps the memories and the fabric that the effect kept. -/
theorem SameMem.answer {s t : State} (h : SameMem s t) (u : State) : SameMem s (u.noteSwitches t.flush) := by
  obtain ⟨hd, hn, hk, hs, hi⟩ := h
  refine ⟨fun a => ?_, fun a => ?_, fun a => ?_, fun n => ?_, fun n => ?_⟩
  · simpa [State.dramByte] using hd a
  · simpa [State.norByte] using hn a
  · simpa [State.kenByte] using hk a
  · simpa using hs n
  · simpa using hi n

theorem SameMem.trans {s t u : State} (h : SameMem s t) (k : SameMem t u) : SameMem s u := by
  obtain ⟨hd, hn, hk, hs, hi⟩ := h
  obtain ⟨kd, kn, kk, ks, ki⟩ := k
  exact ⟨fun a => (kd a).trans (hd a), fun a => (kn a).trans (hn a), fun a => (kk a).trans (hk a), fun n => (ks n).trans (hs n), fun n => (ki n).trans (hi n)⟩

/-- An effect that keeps to registers answers itself, flushed. -/
theorem OnlyRegs.answer {s t : State} (h : OnlyRegs s t) : OnlyRegs s (s.noteSwitches t.flush) := by
  rw [h.flush.note]; exact h.flush

/-- What every step of a fold keeps, the fold keeps. -/
theorem foldl_keeps {α β : Type} (g : State → β) (f : State → α → State) (l : List α) (s : State) (h : ∀ x, ∀ a ∈ l, g (f x a) = g x) :
    g (l.foldl f s) = g s := by
  induction l generalizing s with
  | nil => rfl
  | cons a l ih => exact (ih (f s a) fun x b hb => h x b (List.mem_cons_of_mem a hb)).trans (h s a List.mem_cons_self)

/-! ### Events of the present tick -/

/-- Every event that stands on the bus of `s` stands on the bus of `t`. -/
def KeepsBus (s t : State) : Prop := ∀ e ∈ s.bus, e ∈ t.bus

theorem KeepsBus.refl (s : State) : KeepsBus s s := fun _ h => h

theorem KeepsBus.trans {s t u : State} (h : KeepsBus s t) (k : KeepsBus t u) : KeepsBus s u := fun e he => k e (h e he)

theorem keepsBus_of_eq {s t : State} (h : t.bus = s.bus) : KeepsBus s t := fun _ he => h ▸ he

theorem mem_busInsert (l : List Event) (e x : Event) : x ∈ busInsert l e ↔ x = e ∨ x ∈ l := by
  induction l with
  | nil => simp [busInsert]
  | cons y l ih =>
    unfold busInsert
    split
    · simp
    · simp only [List.mem_cons, ih]
      exact or_left_comm

theorem State.episode_keepsBus (s : State) (c k : Nat) (as : List Byte) (l : Nat) : KeepsBus s (s.episode c k as l) := by
  intro x hx
  unfold State.episode
  extract_lets e s1
  split
  · exact (mem_busInsert _ _ _).mpr (.inr hx)
  · exact hx

theorem State.toFrames_keepsBus (s : State) (e : Event) : KeepsBus s (s.toFrames e) := by
  unfold State.toFrames
  split
  · exact .refl s
  · exact State.episode_keepsBus { s.count (Reg.NET_DUP_CNT + 0x34) with net := { (s.count (Reg.NET_DUP_CNT + 0x34)).net with evOmit := true } } _ _ _ _

theorem State.carry_keepsBus (s : State) (e : Event) : KeepsBus s (s.carry e) := by
  have h1 : KeepsBus s (({ s with net := { s.net with eseq := (s.net.eseq + 1) % 2 ^ 32 } } : State).toFrames e) :=
    State.toFrames_keepsBus { s with net := { s.net with eseq := (s.net.eseq + 1) % 2 ^ 32 } } e
  refine h1.trans (keepsBus_of_eq ?_)
  unfold State.carry
  dsimp only
  split <;> split <;> rfl

theorem State.toRecorder_keepsBus (s : State) (e : Event) : KeepsBus s (s.toRecorder e) := by
  unfold State.toRecorder
  split <;> exact .refl s

theorem State.queueLost_keepsBus (s : State) : KeepsBus s s.queueLost := by
  unfold State.queueLost
  split
  · exact State.carry_keepsBus s _
  · exact .refl s

theorem State.deliver_keepsBus (s : State) (e : Event) : KeepsBus s (s.deliver e) :=
  (s.queueLost_keepsBus.trans (State.toRecorder_keepsBus _ _)).trans (State.carry_keepsBus _ _)

theorem State.deliverAll_keepsBus (es : List Event) (s : State) : KeepsBus s (es.foldl State.deliver s) := by
  induction es generalizing s with
  | nil => exact .refl s
  | cons e es ih => exact (s.deliver_keepsBus e).trans (ih _)

/-- An event of the present tick is still on the bus when the command has answered. -/
theorem Raised.answer {t : State} {code : Nat} (h : Raised t code) (u : State) : Raised (u.noteSwitches t.flush) code := by
  obtain ⟨e, he, hcode, htick⟩ := h
  refine ⟨e, ?_, hcode, by simpa using htick⟩
  rw [State.noteSwitches_bus]
  exact State.deliverAll_keepsBus _ _ e (by simp [he, htick])

/-- Raising an event raises it. -/
theorem State.raised_raise (s : State) (code : Nat) (args : List Byte) : Raised (s.raise code args) code :=
  ⟨s.mkEvent code args false 0, (mem_busInsert _ _ _).mpr (.inl rfl), rfl, rfl⟩

end Sys2Proof.Machine
end

section
/-! SUPPORT. Modes and shadow sets of the control engine (11 R220, R227, R229): what LOOP_MODE_WRITE and LOOP_APPLY change and what they leave. -/

namespace Sys2Proof.Machine

/-! ### Registers of the LOOP block -/

/-- No register that event delivery writes lies in the LOOP block. -/
theorem loopBlock_not_busRegs {a : Nat} (h : 0x90000 ≤ a) (h2 : a < 0xF0000) : a ∉ busRegs := by
  simp only [busRegs, Reg.REC_LOST_CNT, Reg.REC_STAT, Reg.NET_DUP_CNT, Reg.SYS_STATUS, List.mem_cons, List.not_mem_nil, or_false, not_or]
  omega

/-- No per-loop register of the 64 loops is written by event delivery. -/
theorem loopReg_not_busRegs (base n : Nat) (hn : n < 64) (h : 0x91000 ≤ base) (h2 : base < 0x91080) : loopReg base n ∉ busRegs :=
  loopBlock_not_busRegs (by unfold loopReg; omega) (by unfold loopReg; omega)

/-- A field of a word masked with ones over it is that of the word. -/
theorem fld_and_of_ones (w m : Word) (l n : Nat) (h : ∀ i < n, m.toNat.testBit (l + i) = true) : fld (w &&& m) l n = fld w l n := by
  refine fld_eq_of_bits _ _ _ _ fun i h1 h2 => ?_
  have hm : m.toNat.testBit i = true := Nat.add_sub_of_le h1 ▸ h (i - l) (by omega)
  simp [hm]

/-! ### What a loop holds -/

@[simp] theorem State.lc_setLc_same (s : State) (n : Nat) (c : LoopCtx) : (s.setLc n c).lc n = c := storeGet_set_same _ _ _ _

theorem State.lc_setLc_ne (s : State) {n m : Nat} (c : LoopCtx) (h : n ≠ m) : (s.setLc n c).lc m = s.lc m := storeGet_set_ne _ _ _ h

@[simp] theorem State.reg_setLc (s : State) (n : Nat) (c : LoopCtx) (a : Nat) : (s.setLc n c).reg a = s.reg a := rfl

theorem State.setLc_sameMem (s : State) (n : Nat) (c : LoopCtx) : SameMem s (s.setLc n c) :=
  ⟨fun _ => rfl, fun _ => rfl, fun _ => rfl, fun _ => rfl, fun _ => rfl⟩

@[simp] theorem State.lc_setReg (s : State) (a : Nat) (w : Word) (n : Nat) : (s.setReg a w).lc n = s.lc n := rfl

@[simp] theorem State.lc_setBit (s : State) (a i : Nat) (b : Bool) (n : Nat) : (s.setBit a i b).lc n = s.lc n := rfl

/-! ### Showing a loop -/

/-- The registers that show what follows from those of a loop. -/
def shownRegs (n : Nat) : List Nat := [loopReg Reg.LOOP_STAT n, loopReg Reg.LOOP_OFS n, Reg.LOOP_ADMIT]

theorem State.showLoop_onlyRegs (s : State) (n : Nat) : OnlyRegs s (s.showLoop n) := by
  unfold State.showLoop
  exact (((onlyRegs_setRf _ _ _ _ _).trans (onlyRegs_setRf _ _ _ _ _)).trans (onlyRegs_setRf _ _ _ _ _)).trans (onlyRegs_setReg _ _ _)

@[simp] theorem State.showLoop_clk (s : State) (n : Nat) : (s.showLoop n).clk = s.clk := (congrArg State.clk (s.showLoop_onlyRegs n) :)

@[simp] theorem State.showLoop_loop (s : State) (n : Nat) : (s.showLoop n).loop = s.loop := (congrArg State.loop (s.showLoop_onlyRegs n) :)

@[simp] theorem State.showLoop_fabric (s : State) (n : Nat) : (s.showLoop n).fabric = s.fabric := (congrArg State.fabric (s.showLoop_onlyRegs n) :)

@[simp] theorem State.lc_showLoop (s : State) (n m : Nat) : (s.showLoop n).lc m = s.lc m := by simp [State.lc]

/-- Showing a loop writes its LOOP_STAT and LOOP_OFS, and LOOP_ADMIT. -/
theorem State.reg_showLoop (s : State) (n a : Nat) (h : a ∉ shownRegs n) : (s.showLoop n).reg a = s.reg a := by
  simp only [shownRegs, List.mem_cons, List.not_mem_nil, or_false, not_or] at h
  obtain ⟨hstat, hofs, hadmit⟩ := h
  unfold State.showLoop
  rw [State.reg_setReg_ne _ _ (Ne.symm hadmit), State.reg_setRf_ne _ _ _ _ (Ne.symm hofs), State.reg_setBit_ne _ _ _ (Ne.symm hstat),
    State.reg_setBit_ne _ _ _ (Ne.symm hstat)]

/-- LOOP_CTL of a loop is no register that shows a loop. -/
theorem loopCtl_not_shown (n m : Nat) : loopReg Reg.LOOP_CTL n ∉ shownRegs m := by
  simp only [shownRegs, loopReg, Reg.LOOP_CTL, Reg.LOOP_STAT, Reg.LOOP_OFS, Reg.LOOP_ADMIT, List.mem_cons, List.not_mem_nil, or_false, not_or]
  omega

/-- No coefficient register is one that shows a loop. -/
theorem loopCoef_not_shown (n m i : Nat) (hi : i < 11) : loopReg Reg.LOOP_KP n + 4 * i ∉ shownRegs m := by
  simp only [shownRegs, loopReg, Reg.LOOP_KP, Reg.LOOP_STAT, Reg.LOOP_OFS, Reg.LOOP_ADMIT, List.mem_cons, List.not_mem_nil, or_false, not_or]
  omega

/-- LOOP_STAT of another loop is not written. -/
theorem loopStat_not_shown {n m : Nat} (h : n ≠ m) : loopReg Reg.LOOP_STAT n ∉ shownRegs m := by
  simp only [shownRegs, loopReg, Reg.LOOP_STAT, Reg.LOOP_OFS, Reg.LOOP_ADMIT, List.mem_cons, List.not_mem_nil, or_false, not_or]
  omega

/-! ### A refused mode -/

theorem onlyRegs_raise (s : State) (code : Nat) (args : List Byte) : OnlyRegs s (s.raise code args) := rfl

/-- A refused admission keeps to registers and the bus. -/
theorem State.admitRefuse_onlyRegs (s : State) (n : Nat) (x : Nat × Nat) : OnlyRegs s (s.admitRefuse n x) := by
  unfold State.admitRefuse
  exact (onlyRegs_setRf _ _ _ _ _).trans (onlyRegs_raise _ _ _)

theorem State.admitRefuse_keepsRegs (s : State) (n : Nat) (x : Nat × Nat) : KeepsRegs s (s.admitRefuse n x) [loopReg Reg.LOOP_STAT n] := by
  intro a ha _
  unfold State.admitRefuse
  rw [State.reg_raise, State.reg_setBit_ne _ _ _ (Ne.symm (List.ne_of_not_mem_cons ha))]

/-- A refused admission sets ADMREF. -/
theorem State.admitRefuse_admref (s : State) (n : Nat) (x : Nat × Nat) : (s.admitRefuse n x).bit (loopReg Reg.LOOP_STAT n) 8 = true := by
  unfold State.admitRefuse
  rw [State.bit, State.reg_raise]
  exact State.bit_setBit_same _ _ _ _ (by decide)

/-- A refused admission raises LOOP_ADMIT_REF. -/
theorem State.admitRefuse_raised (s : State) (n : Nat) (x : Nat × Nat) : Raised (s.admitRefuse n x) 0x0901 := State.raised_raise _ _ _

/-! ### A mode that is taken -/

/-- LOOP_CTLn takes a value that is performed: the register, and the loop is no longer in MANUAL by fallback. -/
def State.takeMode (s : State) (n : Nat) (w : Word) : State :=
  ((s.setReg (loopReg Reg.LOOP_CTL n) (w &&& 0xFFFF7F37#32)).setLc n { s.lc n with viaFb := false }).showLoop n

/-- LOOP_CTLn after a mode is taken: the value without its reserved bits. -/
theorem State.takeMode_ctl (s : State) (n : Nat) (w : Word) : (s.takeMode n w).reg (loopReg Reg.LOOP_CTL n) = w &&& 0xFFFF7F37#32 := by
  unfold State.takeMode
  rw [State.reg_showLoop _ _ _ (loopCtl_not_shown n n), State.reg_setLc, State.reg_setReg_same]

theorem State.takeMode_rf (s : State) (n : Nat) (w : Word) (l k : Nat) (h : ∀ i < k, (0xFFFF7F37#32).toNat.testBit (l + i) = true) :
    (s.takeMode n w).rf (loopReg Reg.LOOP_CTL n) l k = fld w l k := by
  rw [State.rf, State.takeMode_ctl, fld_and_of_ones _ _ _ _ h]

theorem State.takeMode_keepsRegs (s : State) (n : Nat) (w : Word) :
    KeepsRegs s (s.takeMode n w) [loopReg Reg.LOOP_CTL n, loopReg Reg.LOOP_STAT n, loopReg Reg.LOOP_OFS n, Reg.LOOP_ADMIT] := by
  intro a ha _
  obtain ⟨hctl, hshown⟩ := not_or.mp (mt List.mem_cons.mpr ha)
  unfold State.takeMode
  rw [State.reg_showLoop _ _ _ hshown, State.reg_setLc, State.reg_setReg_ne _ _ (Ne.symm hctl)]

@[simp] theorem State.takeMode_lc_same (s : State) (n : Nat) (w : Word) : (s.takeMode n w).lc n = { s.lc n with viaFb := false } := by
  simp [State.takeMode]

theorem State.takeMode_lc_ne (s : State) {n m : Nat} (w : Word) (h : n ≠ m) : (s.takeMode n w).lc m = s.lc m := by
  simp [State.takeMode, State.lc_setLc_ne _ _ h]

theorem State.takeMode_sameMem (s : State) (n : Nat) (w : Word) : SameMem s (s.takeMode n w) :=
  ((onlyRegs_setReg s _ _).sameMem.trans (State.setLc_sameMem _ _ _)).trans (State.showLoop_onlyRegs _ _).sameMem

/-! ### The three outcomes of LOOP_MODE_WRITE -/

/-- A reserved mode or FBMODE is not performed. -/
theorem State.writeLoopCtl_reserved (s : State) (n : Nat) (w : Word) (h : 5 < fld w 0 3 ∨ fld w 4 2 = 3) : (s.writeLoopCtl n w).2 = s := by
  simp [State.writeLoopCtl, h]

/-- Leaving OFF is refused where the test of R229 fails. -/
theorem State.writeLoopCtl_refused (s : State) (n : Nat) (w : Word) (x : Nat × Nat) (hm : fld w 0 3 ≤ 5) (hf : fld w 4 2 ≠ 3) (hoff : s.loopMode n = 0)
    (hon : fld w 0 3 ≠ 0) (hper : s.loopPer n ≠ 0) (hx : s.admitTest n (s.loopCost n) = some x) : (s.writeLoopCtl n w).2 = s.admitRefuse n x := by
  have hres : ¬(5 < fld w 0 3 ∨ fld w 4 2 = 3) := by omega
  simp [State.writeLoopCtl, hres, hoff, hon, hper, hx]

/-- Outside OFF, toward OFF and where the test of R229 holds the register takes the value. -/
theorem State.writeLoopCtl_taken (s : State) (n : Nat) (w : Word) (hm : fld w 0 3 ≤ 5) (hf : fld w 4 2 ≠ 3)
    (h : s.loopMode n ≠ 0 ∨ fld w 0 3 = 0 ∨ (s.loopPer n ≠ 0 ∧ s.admitTest n (s.loopCost n) = none)) : (s.writeLoopCtl n w).2 = s.takeMode n w := by
  have hres : ¬(5 < fld w 0 3 ∨ fld w 4 2 = 3) := by omega
  by_cases hleave : s.loopMode n = 0 ∧ fld w 0 3 ≠ 0
  · obtain ⟨hoff, hon⟩ := hleave
    obtain ⟨hper, hadm⟩ := (h.resolve_left (not_not_intro hoff)).resolve_left hon
    simp [State.writeLoopCtl, State.takeMode, hres, hoff, hon, hper, hadm]
  · simp only [State.writeLoopCtl, hres, if_false, hleave]
    rfl

/-! ### LOOP_APPLY -/

/-- What LOOP_APPLY does to one loop it names: in OFF, MANUAL and TRACK the shadow set comes into force, elsewhere APPLY_REF is set (R227). -/
def State.applyOne (s : State) (n : Nat) : State :=
  if s.loopMode n = 0 ∨ s.loopMode n = 1 ∨ s.loopMode n = 5 then
    (s.setLc n { s.lc n with coef := s.shadow n, sel := s.shadowSel n }).showLoop n
  else s.setBit (loopReg Reg.LOOP_STAT n) 5 true

theorem State.applyOne_reg (s : State) (n a : Nat) (h : a ∉ shownRegs n) : (s.applyOne n).reg a = s.reg a := by
  unfold State.applyOne
  split
  · exact State.reg_showLoop _ _ _ h
  · exact State.reg_setBit_ne _ _ _ (Ne.symm (List.ne_of_not_mem_cons h))

theorem State.applyOne_lc_ne (s : State) {n m : Nat} (h : n ≠ m) : (s.applyOne n).lc m = s.lc m := by
  unfold State.applyOne
  split
  · rw [State.lc_showLoop, State.lc_setLc_ne _ _ h]
  · rfl

theorem State.applyOne_sameMem (s : State) (n : Nat) : SameMem s (s.applyOne n) := by
  unfold State.applyOne
  split
  · exact (State.setLc_sameMem _ _ _).trans (State.showLoop_onlyRegs _ _).sameMem
  · exact (onlyRegs_setRf _ _ _ _ _).sameMem

theorem State.applyOne_clk (s : State) (n : Nat) : (s.applyOne n).clk = s.clk := by
  unfold State.applyOne
  split
  · exact State.showLoop_clk _ _
  · rfl

theorem State.applyOne_inForce (s : State) (n : Nat) (h : s.loopMode n = 0 ∨ s.loopMode n = 1 ∨ s.loopMode n = 5) :
    (s.applyOne n).lc n = { s.lc n with coef := s.shadow n, sel := s.shadowSel n } := by
  simp [State.applyOne, h]

theorem State.applyOne_refused (s : State) (n : Nat) (h : ¬(s.loopMode n = 0 ∨ s.loopMode n = 1 ∨ s.loopMode n = 5)) :
    s.applyOne n = s.setBit (loopReg Reg.LOOP_STAT n) 5 true := if_neg h

/-- The loops that the first `m` bits of LOOP_APPLYk name, applied in ascending order. -/
def State.applyUpTo (s : State) (k : Nat) (w : Word) (m : Nat) : State :=
  (List.range m).foldl (fun x j => if bitOf w j then x.applyOne (32 * k + j) else x) s

theorem State.applyUpTo_succ (s : State) (k : Nat) (w : Word) (m : Nat) :
    s.applyUpTo k w (m + 1) = if bitOf w m then (s.applyUpTo k w m).applyOne (32 * k + m) else s.applyUpTo k w m := by
  simp [State.applyUpTo, List.range_succ]

/-- LOOP_APPLY applies every loop it names. -/
theorem State.loopApply_eq (s : State) (k : Nat) (w : Word) : (s.loopApply k w).2 = s.applyUpTo k w 32 := by
  refine (List.foldl_hom Prod.snd fun p j => ?_).symm
  unfold State.applyOne
  split
  · dsimp only
    split <;> rfl
  · rfl

/-- What has come about once the first `m` bits of LOOP_APPLYk have acted on `s`. -/
structure Applied (s : State) (k : Nat) (w : Word) (m : Nat) (t : State) : Prop where
  /-- No register changes but those that show a loop; the mode and the shadow set of every loop are among the others. -/
  regs : ∀ a, (∀ j < m, a ∉ shownRegs (32 * k + j)) → t.reg a = s.reg a
  mem : SameMem s t
  clk : t.clk = s.clk
  /-- In OFF, MANUAL and TRACK the shadow set is in force. -/
  inForce : ∀ j < m, bitOf w j = true → (s.loopMode (32 * k + j) = 0 ∨ s.loopMode (32 * k + j) = 1 ∨ s.loopMode (32 * k + j) = 5) →
    (t.lc (32 * k + j)).coef = s.shadow (32 * k + j) ∧ (t.lc (32 * k + j)).sel = s.shadowSel (32 * k + j)
  /-- Elsewhere the loop holds what it held, and APPLY_REF is set. -/
  refused : ∀ j < m, bitOf w j = true → ¬(s.loopMode (32 * k + j) = 0 ∨ s.loopMode (32 * k + j) = 1 ∨ s.loopMode (32 * k + j) = 5) →
    t.lc (32 * k + j) = s.lc (32 * k + j) ∧ t.bit (loopReg Reg.LOOP_STAT (32 * k + j)) 5 = true
  /-- A loop that is not named holds what it held. -/
  others : ∀ n, (∀ j < m, bitOf w j = true → n ≠ 32 * k + j) → t.lc n = s.lc n

section
variable {s t : State} {k m : Nat} {w : Word}

theorem Applied.loopMode (h : Applied s k w m t) (n : Nat) : t.loopMode n = s.loopMode n := by
  simp only [State.loopMode, State.rf, h.regs _ fun j _ => loopCtl_not_shown n (32 * k + j)]

theorem Applied.shadow (h : Applied s k w m t) (n : Nat) : t.shadow n = s.shadow n := by
  refine List.map_congr_left fun i hi => h.regs _ fun j _ => loopCoef_not_shown n (32 * k + j) i (List.mem_range.mp hi)

theorem Applied.shadowSel (h : Applied s k w m t) (n : Nat) : t.shadowSel n = s.shadowSel n := by
  simp only [State.shadowSel, State.rf, h.regs _ fun j _ => loopCtl_not_shown n (32 * k + j)]

theorem Applied.zero (s : State) (k : Nat) (w : Word) : Applied s k w 0 s where
  regs _ _ := rfl
  mem := (OnlyRegs.refl s).sameMem
  clk := rfl
  inForce j hj := absurd hj (Nat.not_lt_zero j)
  refused j hj := absurd hj (Nat.not_lt_zero j)
  others _ _ := rfl

/-- A bit that is not set names no loop. -/
theorem Applied.skip (h : Applied s k w m t) (hb : ¬bitOf w m = true) : Applied s k w (m + 1) t where
  regs a ha := h.regs a fun j hj => ha j (by omega)
  mem := h.mem
  clk := h.clk
  inForce j hj hbit := h.inForce j (by have : j ≠ m := fun e => hb (e ▸ hbit); omega) hbit
  refused j hj hbit := h.refused j (by have : j ≠ m := fun e => hb (e ▸ hbit); omega) hbit
  others n hn := h.others n fun j hj => hn j (by omega)

/-- A bit that is set acts on the loop it names, which no earlier bit has named. -/
theorem Applied.step (h : Applied s k w m t) (hb : bitOf w m = true) : Applied s k w (m + 1) (t.applyOne (32 * k + m)) where
  regs a ha := (State.applyOne_reg _ _ _ (ha m (by omega))).trans (h.regs a fun j hj => ha j (by omega))
  mem := h.mem.trans (State.applyOne_sameMem _ _)
  clk := (State.applyOne_clk _ _).trans h.clk
  inForce j hj hbit hmode := by
    rcases Nat.lt_succ_iff_lt_or_eq.mp hj with hlt | rfl
    · rw [State.applyOne_lc_ne _ (by omega)]
      exact h.inForce j hlt hbit hmode
    · rw [← h.loopMode] at hmode
      rw [State.applyOne_inForce _ _ hmode]
      exact ⟨h.shadow _, h.shadowSel _⟩
  refused j hj hbit hmode := by
    rcases Nat.lt_succ_iff_lt_or_eq.mp hj with hlt | rfl
    · rw [State.applyOne_lc_ne _ (by omega), State.bit, State.applyOne_reg _ _ _ (loopStat_not_shown (by omega))]
      exact h.refused j hlt hbit hmode
    · rw [← h.loopMode] at hmode
      rw [State.applyOne_refused _ _ hmode]
      refine ⟨?_, State.bit_setBit_same _ _ _ _ (by decide)⟩
      rw [State.lc_setBit]
      exact h.others _ fun i hi _ => by omega
  others n hn := (State.applyOne_lc_ne _ (Ne.symm (hn m (by omega) hb))).trans (h.others n fun j hj => hn j (by omega))

end

theorem State.applied_applyUpTo (s : State) (k : Nat) (w : Word) (m : Nat) : Applied s k w m (s.applyUpTo k w m) := by
  induction m with
  | zero => exact .zero s k w
  | succ m ih =>
    rw [State.applyUpTo_succ]
    split
    · exact ih.step ‹_›
    · exact ih.skip ‹_›

/-- What LOOP_APPLY brings about. -/
theorem State.applied_loopApply (s : State) (k : Nat) (w : Word) : Applied s k w 32 (s.loopApply k w).2 :=
  s.loopApply_eq k w ▸ s.applied_applyUpTo k w 32

end Sys2Proof.Machine
end

section
/-! SUPPORT. Host slots (11 R234): writes and invalidation, the latch of a beat, resets and loads. -/

namespace Sys2Proof.Machine

/-! ### Writes of LOOP_HVAL and LOOP_HINV -/

theorem State.slot_putSlot (s : State) (n m : Nat) (v : Word) (t : Byte) : (s.putSlot n v t).slot m = if n = m then ⟨t, v⟩ else s.slot m :=
  storeGet_set _ _ _ _ _

/-- A slot with another condition, its other tag bits and its value kept. -/
def Slot.withCond (t : Slot) (c : Nat) : Slot := ⟨BitVec.ofNat 8 (t.tag.toNat % 64 + 64 * c), t.val⟩

theorem Slot.cond_withCond (t : Slot) (c : Nat) (h : c < 4) : (t.withCond c).cond = c := by
  simp only [Slot.withCond, Slot.cond, BitVec.toNat_ofNat]
  omega

theorem State.slot_setCond (s : State) (n m c : Nat) : (s.setCond n c).slot m = if n = m then (s.slot n).withCond c else s.slot m :=
  s.slot_putSlot n m _ _

/-- A HINV register is none of HVAL. -/
theorem hinv_ne_hval (m : Nat) (h : m < 256) (k : Nat) : Reg.LOOP_HINV + 4 * (m / 32) ≠ Reg.LOOP_HVAL + 4 * k := by
  simp only [Reg.LOOP_HINV, Reg.LOOP_HVAL]
  omega

theorem State.hostSlot_hval (s : State) (m : Nat) (w : Word) (h : m < 256) : (s.hostSlot m w).reg (Reg.LOOP_HVAL + 4 * m) = w := by
  unfold State.hostSlot
  rw [State.reg_putSlot, State.reg_setBit_ne _ _ _ (hinv_ne_hval m h m), State.reg_setReg_same]

theorem State.hostSlot_hinv (s : State) (m : Nat) (w : Word) : (s.hostSlot m w).bit (Reg.LOOP_HINV + 4 * (m / 32)) (m % 32) = false :=
  State.bit_setBit_same (s.setReg (Reg.LOOP_HVAL + 4 * m) w) (Reg.LOOP_HINV + 4 * (m / 32)) (m % 32) false (Nat.mod_lt m (by decide))

theorem State.hostSlot_keepsRegs (s : State) (m : Nat) (w : Word) :
    KeepsRegs s (s.hostSlot m w) [Reg.LOOP_HVAL + 4 * m, Reg.LOOP_HINV + 4 * (m / 32)] := by
  intro a ha _
  simp only [List.mem_cons, List.not_mem_nil, or_false, not_or] at ha
  obtain ⟨hval, hinv⟩ := ha
  unfold State.hostSlot
  rw [State.reg_putSlot, State.reg_setBit_ne _ _ _ (Ne.symm hinv), State.reg_setReg_ne _ _ (Ne.symm hval)]

/-- The step of HOST_SLOT_INVALIDATE for one bit: its slot changes where the bit does. -/
def State.hinvBit (old w : Word) (k : Nat) (s : State) (j : Nat) : State :=
  if bitOf w j == bitOf old j then s else s.setCond (768 + 32 * k + j) (if bitOf w j then 3 else 0)

theorem State.hinvBit_inputs (old w : Word) (k : Nat) (s : State) (j : Nat) : (s.hinvBit old w k j).inputs = s.inputs := by
  unfold State.hinvBit
  split <;> rfl

theorem State.hinvBit_regs (old w : Word) (k : Nat) (s : State) (j : Nat) : (s.hinvBit old w k j).regs = s.regs := by
  unfold State.hinvBit
  split <;> rfl

theorem State.hinvBit_clk (old w : Word) (k : Nat) (s : State) (j : Nat) : (s.hinvBit old w k j).clk = s.clk := by
  unfold State.hinvBit
  split <;> rfl

theorem State.slot_hinvBit_ne (old w : Word) (k : Nat) (s : State) (j n : Nat) (h : n ≠ 768 + 32 * k + j) : (s.hinvBit old w k j).slot n = s.slot n := by
  unfold State.hinvBit
  split
  · rfl
  · rw [State.slot_setCond, if_neg (Ne.symm h)]

theorem State.slot_hinvBit_same (old w : Word) (k : Nat) (s : State) (j : Nat) :
    (s.hinvBit old w k j).slot (768 + 32 * k + j) =
      if bitOf w j = bitOf old j then s.slot (768 + 32 * k + j) else (s.slot (768 + 32 * k + j)).withCond (if bitOf w j then 3 else 0) := by
  unfold State.hinvBit
  by_cases h : bitOf w j = bitOf old j
  · simp [h]
  · simp [h, State.slot_setCond]

theorem State.hostInv_eq (s : State) (k : Nat) (w : Word) :
    s.hostInv k w = (List.range 32).foldl (State.hinvBit (s.reg (Reg.LOOP_HINV + 4 * k)) w k) (s.setReg (Reg.LOOP_HINV + 4 * k) w) := rfl

/-- A slot that none of the first `m` bits names keeps what it holds. -/
theorem State.slot_hinvBits_out (old w : Word) (k m : Nat) (s : State) (n : Nat) (h : ∀ j < m, n ≠ 768 + 32 * k + j) :
    ((List.range m).foldl (State.hinvBit old w k) s).slot n = s.slot n :=
  foldl_keeps (State.slot · n) _ _ _ fun x j hj => State.slot_hinvBit_ne _ _ _ x j n (h j (List.mem_range.mp hj))

/-- A slot named by a bit takes the condition of that bit where it changes. -/
theorem State.slot_hinvBits (old w : Word) (k m : Nat) (s : State) (j : Nat) (hj : j < m) :
    ((List.range m).foldl (State.hinvBit old w k) s).slot (768 + 32 * k + j) =
      if bitOf w j = bitOf old j then s.slot (768 + 32 * k + j) else (s.slot (768 + 32 * k + j)).withCond (if bitOf w j then 3 else 0) := by
  induction m with
  | zero => exact absurd hj (Nat.not_lt_zero j)
  | succ m ih =>
    rw [List.range_succ, List.foldl_concat]
    rcases Nat.lt_succ_iff_lt_or_eq.mp hj with hlt | rfl
    · rw [State.slot_hinvBit_ne _ _ _ _ _ _ (by omega), ih hlt]
    · rw [State.slot_hinvBit_same, State.slot_hinvBits_out _ _ _ _ _ _ fun i hi => by omega]

theorem State.hostInv_reg (s : State) (k : Nat) (w : Word) (a : Nat) : (s.hostInv k w).reg a = (s.setReg (Reg.LOOP_HINV + 4 * k) w).reg a := by
  rw [State.hostInv_eq, State.reg, foldl_keeps State.regs _ _ _ fun x j _ => State.hinvBit_regs _ _ _ x j]
  rfl

theorem State.hostInv_clk (s : State) (k : Nat) (w : Word) : (s.hostInv k w).clk = s.clk :=
  foldl_keeps State.clk _ _ _ fun x j _ => State.hinvBit_clk _ _ _ x j

theorem State.hostInv_inp (s : State) (k : Nat) (w : Word) (n : Nat) : (s.hostInv k w).inp n = s.inp n := by
  rw [State.hostInv_eq, State.inp, foldl_keeps State.inputs _ _ _ fun x j _ => State.hinvBit_inputs _ _ _ x j]
  rfl

theorem State.hostInv_slot_out (s : State) (k : Nat) (w : Word) (n : Nat) (h : n < 768 + 32 * k ∨ 800 + 32 * k ≤ n) :
    (s.hostInv k w).slot n = s.slot n :=
  State.slot_hinvBits_out _ _ _ _ _ _ fun j hj => by omega

/-- A slot of LOOP_HINVk takes COND 3 where its bit comes to be set, COND 0 where it comes to be clear, and keeps what it holds where the bit stays. -/
theorem State.hostInv_slot (s : State) (k : Nat) (w : Word) (j : Nat) (hj : j < 32) :
    (s.hostInv k w).slot (768 + 32 * k + j) =
      if bitOf w j = s.bit (Reg.LOOP_HINV + 4 * k) j then s.slot (768 + 32 * k + j) else (s.slot (768 + 32 * k + j)).withCond (if bitOf w j then 3 else 0) :=
  State.slot_hinvBits _ _ _ _ _ _ hj

/-! ### Host slots that stay as they are, and host slots that read 0 with COND 3 -/

/-- Every host slot holds in `t` what it holds in `s`. -/
def KeepsHostSlots (s t : State) : Prop := ∀ m < 256, t.slot (768 + m) = s.slot (768 + m)

/-- Every host slot reads 0 with COND 3. -/
def HostSlotsInvalid (s : State) : Prop := ∀ m < 256, s.slot (768 + m) = ⟨0xC0, 0⟩

theorem KeepsHostSlots.refl (s : State) : KeepsHostSlots s s := fun _ _ => rfl

theorem KeepsHostSlots.trans {s t u : State} (h : KeepsHostSlots s t) (k : KeepsHostSlots t u) : KeepsHostSlots s u :=
  fun m hm => (k m hm).trans (h m hm)

/-- What leaves the fabric alone keeps the host slots. -/
theorem keepsHostSlots_of_fabric {s t : State} (h : t.fabric = s.fabric) : KeepsHostSlots s t := fun m _ => by rw [State.slot, h]; rfl

/-- A producer whose slot lies below the host slots keeps them. -/
theorem KeepsHostSlots.putSlot {s t : State} (h : KeepsHostSlots s t) {n : Nat} (hn : n < 768) (v : Word) (b : Byte) : KeepsHostSlots s (t.putSlot n v b) :=
  fun m hm => (t.slot_putSlot_ne v b (by omega)).trans (h m hm)

theorem KeepsHostSlots.putVal {s t : State} (h : KeepsHostSlots s t) {n : Nat} (hn : n < 768) (v : Int) : KeepsHostSlots s (t.putVal n v) :=
  h.putSlot hn _ _

theorem KeepsHostSlots.foldl {α : Type} (f : State → α → State) (l : List α) (s : State) (h : ∀ x, ∀ a ∈ l, KeepsHostSlots x (f x a)) :
    KeepsHostSlots s (l.foldl f s) := by
  induction l generalizing s with
  | nil => exact .refl s
  | cons a l ih => exact (h s a List.mem_cons_self).trans (ih _ fun x b hb => h x b (List.mem_cons_of_mem a hb))

theorem HostSlotsInvalid.keep {s t : State} (h : HostSlotsInvalid s) (k : KeepsHostSlots s t) : HostSlotsInvalid t :=
  fun m hm => (k m hm).trans (h m hm)

/-- The answer shows the host slots that the effect left. -/
theorem HostSlotsInvalid.answer {t : State} (h : HostSlotsInvalid t) (u : State) : HostSlotsInvalid (u.noteSwitches t.flush) :=
  fun m hm => by simpa using h m hm

/-! ### The beat and the host watchdog -/

theorem State.nextBeat_fabric (s : State) : s.nextBeat.2.fabric = s.fabric := by
  unfold State.nextBeat
  extract_lets s1 i j
  split
  · exact State.reachNt_fabric _ _
  · exact State.reachNt_fabric _ _

/-- The monitors' slots lie below the host slots. -/
theorem State.monitors_keepsHostSlots (s : State) : KeepsHostSlots s s.monitors := by
  refine KeepsHostSlots.foldl _ _ _ fun x n hn => ?_
  have hlt : n < 768 := by
    simp only [List.mem_cons, List.mem_filter, List.mem_append, List.mem_map, List.mem_range, List.not_mem_nil, or_false] at hn
    obtain rfl | ⟨⟨b, hb, rfl⟩ | hdie, -⟩ := hn
    · decide
    · omega
    · omega
  exact (keepsHostSlots_of_fabric rfl : KeepsHostSlots x x.draw.2).putSlot hlt _ _

theorem State.encLatch_inputs (s : State) (k : Nat) : (s.encLatch k).inputs = s.inputs := by
  unfold State.encLatch
  split <;> rfl

/-- The input copy of a beat is the fabric once the monitors have written. -/
theorem State.beat_inputs (s : State) : s.beat.inputs = s.nextBeat.2.monitors.fabric := by
  unfold State.beat
  extract_lets i x clk s1 s2 gio s3 s4
  have h2 : s2.inputs = s1.inputs := foldl_keeps State.inputs _ _ _ fun y n _ => y.encLatch_inputs n
  have h3 : s3.inputs = s2.inputs := by dsimp only [s3]
  have h4 : s4.inputs = s3.inputs := foldl_keeps State.inputs _ _ _ fun y n _ => by split <;> simp
  dsimp only
  rw [h4, h3, h2]

/-- A beat latches every host slot into the input copy. -/
theorem State.beat_latchesHostSlots (s : State) (m : Nat) (hm : m < 256) : s.beat.inp (768 + m) = s.slot (768 + m) := by
  rw [State.inp, State.beat_inputs]
  exact ((keepsHostSlots_of_fabric s.nextBeat_fabric).trans s.nextBeat.2.monitors_keepsHostSlots) m hm

theorem State.fanWdog_fabric (s : State) (b : Bool) : (s.fanWdog b).fabric = s.fabric := by
  unfold State.fanWdog
  extract_lets s1 s2
  have h2 : s2.fabric = s.fabric := by simp [s2, s1]
  split
  · exact (foldl_keeps State.fabric _ _ _ fun x k _ => (rfl : (x.setFc k _).fabric = x.fabric)).trans h2
  · exact h2

/-- The host watchdog writes no slot. -/
theorem State.wdogExpire_fabric (s : State) : s.wdogExpire.fabric = s.fabric := by
  unfold State.wdogExpire
  split
  · split
    · rw [State.fanWdog_fabric, State.raise_fabric, State.setBit_fabric, State.reachTick_fabric]
    · rfl
  · rfl

/-! ### Resets -/

/-- No slot has a value after a reset. -/
theorem State.resetBy_fabric (s : State) (cause : Nat) : (s.resetBy cause).fabric = [] := rfl

theorem State.resetBy_now (s : State) (cause : Nat) : (s.resetBy cause).clk.now = s.clk.now := rfl

theorem State.resetBy_hostSlots (s : State) (cause : Nat) : HostSlotsInvalid (s.resetBy cause) := fun _ _ => by
  rw [State.slot, State.resetBy_fabric]
  rfl

/-- A write of SYS_CTL with SWRST alone and the right KEY resets the module. -/
theorem State.writeSysCtl_swrst (s : State) : (s.writeSysCtl (w32 (8 + 65536 * 0xC0DE))).2 = s.resetBy 3 := by
  have hbits : bitOf (w32 (8 + 65536 * 0xC0DE)) 0 = false ∧ bitOf (w32 (8 + 65536 * 0xC0DE)) 1 = false ∧ bitOf (w32 (8 + 65536 * 0xC0DE)) 2 = false
      ∧ bitOf (w32 (8 + 65536 * 0xC0DE)) 3 = true ∧ fld (w32 (8 + 65536 * 0xC0DE)) 16 16 = 0xC0DE := by decide
  obtain ⟨h0, h1, h2, h3, hkey⟩ := hbits
  simp [State.writeSysCtl, h0, h1, h2, h3, hkey, b2n]

end Sys2Proof.Machine
end

section
/-! SUPPORT. After a load every host slot reads 0 with COND 3 (11 R234): the reset of the host slots, and that nothing which follows it in a load writes one. -/

namespace Sys2Proof.Machine

/-! ### The reset of the host slots -/

/-- The first `m` host slots put to 0 with COND 3. -/
theorem State.slot_resetHostSlots (s : State) (m i : Nat) (hi : i < m) :
    ((List.range m).foldl (fun x m => (x.setReg (Reg.LOOP_HVAL + 4 * m) 0).putSlot (768 + m) 0 0xC0) s).slot (768 + i) = ⟨0xC0, 0⟩ := by
  induction m with
  | zero => exact absurd hi (Nat.not_lt_zero i)
  | succ m ih =>
    rw [List.range_succ, List.foldl_concat]
    rcases Nat.lt_succ_iff_lt_or_eq.mp hi with hlt | rfl
    · rw [State.slot_putSlot_ne _ _ _ (by omega)]
      exact ih hlt
    · exact State.slot_putSlot_same _ _ _ _

theorem State.hostSlotsReset_invalid (s : State) : HostSlotsInvalid s.hostSlotsReset := by
  intro m hm
  unfold State.hostSlotsReset
  rw [State.slot, foldl_keeps State.fabric _ _ _ fun x k _ => State.setReg_fabric x _ _]
  exact State.slot_resetHostSlots s 256 m hm

/-! ### Admission at the end of a load -/

theorem State.loopAdmitLoad_fabric (s : State) (n : Nat) : (s.loopAdmitLoad n).fabric = s.fabric := by
  unfold State.loopAdmitLoad
  extract_lets m
  split
  · rw [State.showLoop_fabric]
  · split
    · rw [State.showLoop_fabric]
      exact (congrArg State.fabric (s.admitRefuse_onlyRegs n _) :)
    · rw [State.showLoop_fabric, State.setRf_fabric]

/-- After the load of the control engine every host slot reads 0 with COND 3. -/
theorem State.loopLoad_invalid (s : State) : HostSlotsInvalid s.loopLoad := by
  unfold State.loopLoad
  extract_lets loop s1 s2
  have h2 : HostSlotsInvalid s2 := State.hostSlotsReset_invalid ((List.range 64).foldl State.loopLoadOne s1)
  exact h2.keep (keepsHostSlots_of_fabric (foldl_keeps State.fabric _ _ _ fun x n _ => x.loopAdmitLoad_fabric n))

/-! ### The sensor front end -/

theorem State.putAfe_keepsHostSlots (s : State) {k : Nat} (hk : k < 768) (v : Word) (t : Byte) : KeepsHostSlots s (s.putAfe k v t) :=
  ((KeepsHostSlots.refl s).putSlot hk v t).trans (keepsHostSlots_of_fabric (State.setRf_fabric (s.putSlot k v t) (chstA k) 0 8 t.toNat))

theorem State.afeInvalid_keepsHostSlots (s : State) {k : Nat} (hk : k < 768) : KeepsHostSlots s (s.afeInvalid k) := s.putAfe_keepsHostSlots hk _ _

@[simp] theorem State.showSupp_fabric (s : State) (k : Nat) : (s.showSupp k).fabric = s.fabric := by
  unfold State.showSupp
  rw [State.setBit_fabric, State.setBit_fabric]

@[simp] theorem State.setAc_fabric (s : State) (k : Nat) (c : AfeCh) : (s.setAc k c).fabric = s.fabric := by simp [State.setAc]

@[simp] theorem State.afeFlush_fabric (s : State) (k : Nat) : (s.afeFlush k).fabric = s.fabric := by simp [State.afeFlush]

theorem State.afeRestart_keepsHostSlots (s : State) {k : Nat} (hk : k < 768) : KeepsHostSlots s (s.afeRestart k) := by
  unfold State.afeRestart
  extract_lets c s1
  have h1 : s1.fabric = s.fabric := (State.showSupp_fabric _ _).trans (State.setAc_fabric _ _ _)
  exact (keepsHostSlots_of_fabric h1).trans (s1.afeInvalid_keepsHostSlots hk)

theorem State.suppress_keepsHostSlots (s : State) {k : Nat} (hk : k < 768) : KeepsHostSlots s (s.suppress k) := by
  unfold State.suppress
  extract_lets j t s1 c s2
  have h2 : s2.fabric = s.fabric := ((State.showSupp_fabric _ _).trans (State.setAc_fabric _ _ _)).trans (s.afeFlush_fabric k)
  split
  · exact (keepsHostSlots_of_fabric h2).trans (s2.putAfe_keepsHostSlots hk _ _)
  · exact .refl s

theorem State.draw_fabric (s : State) : s.draw.2.fabric = s.fabric := rfl

theorem State.measureExc_fabric (s : State) (j : Nat) : (s.measureExc j).fabric = s.fabric := by
  unfold State.measureExc
  split
  · exact (State.setRf_fabric _ _ _ _ _).trans s.draw_fabric
  · exact State.setRf_fabric _ _ _ _ _

/-- A change of an excitation output writes the slots of its two channels only. -/
theorem State.excChange_keepsHostSlots (s : State) {j : Nat} (hj : j < 8) : KeepsHostSlots s (s.excChange j) := by
  unfold State.excChange
  extract_lets one
  have hone (x : State) (k : Nat) (hk : k < 768) : KeepsHostSlots x (one x k) := by
    have hs := x.suppress_keepsHostSlots hk
    dsimp only [one]
    split
    · exact hs.trans (State.afeInvalid_keepsHostSlots _ hk)
    · exact hs
  exact ((keepsHostSlots_of_fabric (s.measureExc_fabric j)).trans (hone _ _ (by omega))).trans (hone _ _ (by omega))

theorem State.afeLoad_keepsHostSlots (s : State) : KeepsHostSlots s s.afeLoad := by
  unfold State.afeLoad
  extract_lets one s1
  have hone (x : State) (k : Nat) (hk : k < 768) : KeepsHostSlots x (one x k) := by
    dsimp only [one]
    exact (keepsHostSlots_of_fabric (by simp)).trans (State.afeRestart_keepsHostSlots _ hk)
  have h1 : KeepsHostSlots s s1 := KeepsHostSlots.foldl _ _ _ fun x k hk => hone x k ((List.mem_range.mp hk).trans (by decide))
  refine h1.trans (KeepsHostSlots.foldl _ _ _ fun x j hj => ?_)
  extract_lets l x1
  have hx : x1.fabric = x.fabric := by simp [x1]
  split
  · exact keepsHostSlots_of_fabric hx
  · exact (keepsHostSlots_of_fabric ((x1.setRf_fabric _ _ _ _).trans hx)).trans (State.excChange_keepsHostSlots _ (List.mem_range.mp hj))

/-! ### The CAN controllers -/

@[simp] theorem State.setCan_fabric (s : State) (x : Nat) (c : Can) : (s.setCan x c).fabric = s.fabric := by
  unfold State.setCan
  split <;> rfl

@[simp] theorem State.showCan_fabric (s : State) (x : Nat) : (s.showCan x).fabric = s.fabric := by simp [State.showCan]

@[simp] theorem State.canStop_fabric (s : State) (x : Nat) : (s.canStop x).fabric = s.fabric := by
  unfold State.canStop
  extract_lets c s1 s2 s3
  have h2 : s2.fabric = s1.fabric := foldl_keeps State.fabric _ _ _ fun y b _ => by simp [State.setTt]
  rw [State.showCan_fabric, State.setRf_fabric, State.setRf_fabric, State.setBit_fabric, State.setRf_fabric, h2, State.setCan_fabric]

@[simp] theorem State.writeTsdiv_fabric (s : State) (x : Nat) (w : Word) : (s.writeTsdiv x w).fabric = s.fabric := by simp [State.writeTsdiv]

@[simp] theorem State.canReqMode_fabric (s : State) (x m : Nat) : (s.canReqMode x m).fabric = s.fabric := by
  unfold State.canReqMode
  extract_lets s1
  split <;> simp [s1]

theorem State.canReload_fabric (s : State) (x : Nat) : (s.canReload x).fabric = s.fabric := by
  unfold State.canReload
  extract_lets s1 f s3 s4 s5 words ctls s6
  split
  · exact s.canStop_fabric x
  · rw [State.canReqMode_fabric, State.putRegs_fabric, State.putRegs_fabric, State.writeTsdiv_fabric, State.setReg_fabric, State.setReg_fabric,
      State.setReg_fabric, State.setBit_fabric, State.setBit_fabric, State.canStop_fabric]

/-- The decode slots of both controllers lie below the host slots. -/
theorem State.canSlots_keepsHostSlots (s : State) {x : Nat} (hx : x < 2) : KeepsHostSlots s (s.canSlots x) := by
  refine (keepsHostSlots_of_fabric (s.setCan_fabric x _)).trans (KeepsHostSlots.foldl _ _ _ fun y e he => ?_)
  have he : e < 256 := List.mem_range.mp he
  exact (KeepsHostSlots.refl y).putSlot (by omega) _ _

theorem State.canLoadOne_keepsHostSlots (s : State) {x : Nat} (hx : x < 2) : KeepsHostSlots s (s.canLoadOne x) := by
  refine (s.canSlots_keepsHostSlots hx).trans (keepsHostSlots_of_fabric ?_)
  unfold State.canLoadOne
  extract_lets s1
  split
  · exact State.setCan_fabric _ _ _
  · exact State.canReload_fabric _ _

/-! ### General I/O -/

theorem State.showDi_keepsHostSlots (s : State) {k : Nat} (hk : k < 32) : KeepsHostSlots s (s.showDi k) :=
  (keepsHostSlots_of_fabric (State.setBit_fabric s _ _ _)).putVal (by omega) _

theorem State.showEnc_keepsHostSlots (s : State) {k : Nat} (hk : k < 4) (c : Int) : KeepsHostSlots s (s.showEnc k c) :=
  (keepsHostSlots_of_fabric (State.setReg_fabric s _ _)).putVal (by omega) _

theorem State.aoUpdate_fabric (s : State) (k : Nat) : (s.aoUpdate k).fabric = s.fabric := by simp [State.aoUpdate]

theorem State.doUpdate_fabric (s : State) (k : Nat) : (s.doUpdate k).fabric = s.fabric := by simp [State.doUpdate, State.showDo]

theorem State.gioLoad_keepsHostSlots (s : State) : KeepsHostSlots s s.gioLoad := by
  unfold State.gioLoad
  extract_lets s1 s2
  have h1 : KeepsHostSlots s s1 := KeepsHostSlots.foldl _ _ _ fun x k hk => x.showDi_keepsHostSlots (List.mem_range.mp hk)
  have h2 : KeepsHostSlots s1 s2 := KeepsHostSlots.foldl _ _ _ fun x k hk => by
    have hk : k < 4 := List.mem_range.mp hk
    split
    · exact ((KeepsHostSlots.refl x).putSlot (by omega) _ _).putSlot (by omega) _ _
    · exact (x.showEnc_keepsHostSlots hk _).putVal (by omega) _
  refine (h1.trans h2).trans (keepsHostSlots_of_fabric ?_)
  exact (foldl_keeps State.fabric _ _ _ fun x k _ => x.doUpdate_fabric k).trans (foldl_keeps State.fabric _ _ _ fun x k _ => x.aoUpdate_fabric k)

/-- Every block has taken its working copy: the host slots read 0 with COND 3. -/
theorem State.blocksLoad_invalid (s : State) (old : List Byte) (keep : Bool) : HostSlotsInvalid (s.blocksLoad old keep) :=
  (((State.loopLoad_invalid _).keep (State.afeLoad_keepsHostSlots _)).keep
    ((State.canLoadOne_keepsHostSlots _ (by decide)).trans (State.canLoadOne_keepsHostSlots _ (by decide)))).keep (State.gioLoad_keepsHostSlots _)

/-! ### The load as a whole -/

theorem State.takeImage_invalid (s : State) (src inf : Nat) (keep : Bool) : HostSlotsInvalid (s.takeImage src inf keep) := State.blocksLoad_invalid _ _ _

theorem State.noImage_invalid (s : State) : HostSlotsInvalid s.noImage := State.blocksLoad_invalid _ _ _

theorem HostSlotsInvalid.raise {s : State} (h : HostSlotsInvalid s) (code : Nat) (args : List Byte) : HostSlotsInvalid (s.raise code args) := h

theorem HostSlotsInvalid.setBit {s : State} (h : HostSlotsInvalid s) (a i : Nat) (b : Bool) : HostSlotsInvalid (s.setBit a i b) := h

theorem HostSlotsInvalid.setVerdict {s : State} (h : HostSlotsInvalid s) (v : Verdict) : HostSlotsInvalid (s.setVerdict v) :=
  h.keep (keepsHostSlots_of_fabric (by rw [State.setVerdict, State.setReg_fabric, State.setRf_fabric, State.setRf_fabric]))

/-- The load of BOOT, whatever slot it finds valid. -/
theorem State.bootLoad_invalid (s : State) : HostSlotsInvalid s.bootLoad := by
  unfold State.bootLoad
  extract_lets d a b va s1 vb
  split
  · exact ((State.takeImage_invalid _ _ _ _).setVerdict _).raise _ _
  · split
    · exact ((((State.takeImage_invalid _ _ _ _).setVerdict _).setBit _ _ _).raise _ _).raise _ _
    · exact (State.noImage_invalid _).raise _ _

theorem State.reload_invalid (s : State) (keep hit : Bool) : HostSlotsInvalid (s.reload keep hit) := by
  unfold State.reload
  split
  · extract_lets inf v
    split
    · exact (State.takeImage_invalid _ _ _ _).raise _ _
    · exact (State.noImage_invalid _).raise _ _
  · exact State.noImage_invalid _

/-- The load of a COMMIT or of SAFECLR, also where it fails. -/
theorem State.finishLoad_invalid (s : State) (src : Nat) (keep : Bool) : HostSlotsInvalid (s.finishLoad src keep) := by
  unfold State.finishLoad
  extract_lets evSrc v
  split
  · exact ((State.takeImage_invalid _ _ _ _).setVerdict _).raise _ _
  · exact State.reload_invalid _ _ _

/-! ### Leaving LOADING -/

@[simp] theorem State.endJob_fabric (s : State) : s.endJob.fabric = s.fabric := by
  simp only [State.endJob, State.ueEnd, State.showImgBusy, State.setBit_fabric]
  split <;> rfl

@[simp] theorem State.setShed_fabric (s : State) (n : Nat) : (s.setShed n).fabric = s.fabric := by
  unfold State.setShed
  extract_lets old s1 s2 s2' s3
  have h2 : s2.fabric = s.fabric := by
    dsimp only [s2]
    split <;> simp [s1, State.episodeLevel]
  split
  · rfl
  · rw [State.raise_fabric]
    exact h2

@[simp] theorem State.shedDown_fabric (s : State) : s.shedDown.fabric = s.fabric := by
  unfold State.shedDown
  extract_lets l
  split <;> simp

@[simp] theorem State.setQueue_fabric (s : State) (q : List Cmd) : (s.setQueue q).fabric = s.fabric := by
  unfold State.setQueue
  extract_lets old new cmd s1 s2 s3
  have h2 : s2.fabric = s.fabric := s1.setRf_fabric _ _ _ _
  have h3 : s3.fabric = s.fabric := by
    dsimp only [s3]
    split
    · rw [State.setBit_fabric, h2]
    · exact h2
  split
  · simpa [State.shedUp] using h3
  · split
    · simpa using h3
    · exact h3

@[simp] theorem State.discardAll_fabric (s : State) (entered : Nat) : (s.discardAll entered).fabric = s.fabric := by
  unfold State.discardAll
  extract_lets n s1 trn s2
  split
  · rfl
  · simp [s2, s1]

@[simp] theorem State.rplEnd_fabric (s : State) (cause : Nat) : (s.rplEnd cause).fabric = s.fabric := by
  unfold State.rplEnd
  split <;> simp

@[simp] theorem State.leaveLive_fabric (s : State) (d : DevState) : (s.leaveLive d).fabric = s.fabric := by simp [State.leaveLive]

@[simp] theorem State.closeAllEps_fabric (s : State) : s.closeAllEps.fabric = s.fabric :=
  foldl_keeps State.fabric _ _ _ fun x e _ => by simp [State.closeEp]

@[simp] theorem State.setDev_fabric (s : State) (d : DevState) (code : Nat) : (s.setDev d code).fabric = s.fabric := by simp [State.setDev]

@[simp] theorem State.refreshHs_fabric (s : State) : s.refreshHs.fabric = s.fabric := by simp [State.refreshHs]

/-- A way into DRAINING on which no shot is withheld writes no slot. -/
theorem State.toDraining_fabric (s : State) (code : Nat) (h : code ≠ 22) : (s.toDraining code).fabric = s.fabric := by
  simp [State.toDraining, h]

@[simp] theorem State.serveEject_fabric (s : State) : s.serveEject.fabric = s.fabric := by
  unfold State.serveEject
  extract_lets s1
  split
  · rw [State.toDraining_fabric _ 20 (by decide)]
    simp [s1]
  · rfl

@[simp] theorem State.boostStartUp_fabric (s : State) : s.boostStartUp.fabric = s.fabric := by
  unfold State.boostStartUp
  split <;> rfl

/-- From LOADING to READY no slot is written. -/
theorem State.loaded_fabric (s : State) : s.loaded.fabric = s.fabric := by
  simp only [State.loaded, State.serveEject_fabric, State.refreshHs_fabric, State.boostStartUp_fabric]
  split <;> simp [State.unverify]

/-- The end of a load that is under way: every host slot reads 0 with COND 3. -/
theorem State.loadEnd_invalid (s : State) (dt src : Nat) (boot keep : Bool) (hjob : s.img.job = .load src boot keep) (hdev : s.sys.dev = .loading) :
    HostSlotsInvalid (State.loadEnd dt s) := by
  unfold State.loadEnd
  rw [hjob]
  dsimp only
  generalize hs1 : s.within dt (s.loadDue src boot) = s1
  have h1 : s1.sys.dev = .loading := hs1 ▸ hdev
  rw [if_neg (not_not_intro h1)]
  refine HostSlotsInvalid.keep ?_ (keepsHostSlots_of_fabric (State.loaded_fabric _))
  split
  · exact State.bootLoad_invalid _
  · exact State.finishLoad_invalid _ _ _

end Sys2Proof.Machine
end

section
/-! Loops (11): modes and shadow sets (R220, R227, R229), host slots (R234). -/

namespace Sys2Proof.Machine

/-! ### LOOP_MODE_WRITE -/

section
variable {s : State} (hp : s.sys.powered = true) (n : Fin 64) (w : Word)
include hp

theorem loopModeWrite_reserved (h : 5 < fld w 0 3 ∨ fld w 4 2 = 3) :
    Answers (.loopModeWrite n w) s fun t => t.loop = s.loop ∧ OnlyRegs s t ∧ KeepsRegs s t [] := by
  have he := s.writeLoopCtl_reserved n w h
  refine answers_still 0 _ rfl hp (by rw [State.pass_zero, he]) ?_
  rw [State.pass_zero, he]
  exact ⟨by simp, (OnlyRegs.refl s).answer, KeepsRegs.answer (fun _ _ _ => rfl) s⟩

theorem loopModeWrite_refused (x : Nat × Nat) (hm : fld w 0 3 ≤ 5) (hf : fld w 4 2 ≠ 3) (hoff : s.loopMode n = 0) (hon : fld w 0 3 ≠ 0)
    (hper : s.loopPer n ≠ 0) (hx : s.admitTest n (s.loopCost n) = some x) :
    Answers (.loopModeWrite n w) s fun t => t.bit (loopReg Reg.LOOP_STAT n) 8 = true ∧ Raised t 0x0901 ∧ t.loop = s.loop ∧ OnlyRegs s t ∧
      KeepsRegs s t [loopReg Reg.LOOP_STAT n] := by
  have he := s.writeLoopCtl_refused n w x hm hf hoff hon hper hx
  have hstat : loopReg Reg.LOOP_STAT n ∉ busRegs := loopReg_not_busRegs _ _ n.isLt (by decide) (by decide)
  have honly := s.admitRefuse_onlyRegs n x
  refine answers_still 0 _ rfl hp (by rw [State.pass_zero, he, honly]) ?_
  rw [State.pass_zero, he]
  refine ⟨?_, (s.admitRefuse_raised n x).answer s, (congrArg State.loop honly.answer :), honly.answer, (s.admitRefuse_keepsRegs n x).answer s⟩
  rw [State.bit_noteSwitches, State.bit_flush _ _ hstat, State.admitRefuse_admref]

theorem loopModeWrite_taken (hm : fld w 0 3 ≤ 5) (hf : fld w 4 2 ≠ 3)
    (h : s.loopMode n ≠ 0 ∨ fld w 0 3 = 0 ∨ (s.loopPer n ≠ 0 ∧ s.admitTest n (s.loopCost n) = none)) :
    Answers (.loopModeWrite n w) s fun t => t.loopMode n = fld w 0 3 ∧ t.rf (loopReg Reg.LOOP_CTL n) 4 2 = fld w 4 2 ∧
      t.rf (loopReg Reg.LOOP_CTL n) 16 16 = fld w 16 16 ∧ (t.lc n).y = (s.lc n).y ∧ (t.lc n).fall = (s.lc n).fall ∧ (∀ k, k ≠ n.val → t.lc k = s.lc k) ∧
      KeepsRegs s t [loopReg Reg.LOOP_CTL n, loopReg Reg.LOOP_STAT n, loopReg Reg.LOOP_OFS n, Reg.LOOP_ADMIT] ∧ SameMem s t := by
  have he := s.writeLoopCtl_taken n w hm hf h
  have hctl : loopReg Reg.LOOP_CTL n ∉ busRegs := loopReg_not_busRegs _ _ n.isLt (by decide) (by decide)
  have hrf (l k : Nat) (hones : ∀ i < k, (0xFFFF7F37#32).toNat.testBit (l + i) = true) :
      (s.noteSwitches (s.takeMode n w).flush).rf (loopReg Reg.LOOP_CTL n) l k = fld w l k := by
    rw [State.rf_noteSwitches, State.rf_flush _ _ _ hctl, State.takeMode_rf _ _ _ _ _ hones]
  refine answers_still 0 _ rfl hp (by rw [State.pass_zero, he]; exact congrArg Clock.now (State.showLoop_clk _ _)) ?_
  rw [State.pass_zero, he]
  refine ⟨hrf 0 3 (by decide), hrf 4 2 (by decide), hrf 16 16 (by decide), by simp, by simp, fun k hk => ?_, (s.takeMode_keepsRegs n w).answer s,
    (s.takeMode_sameMem n w).answer s⟩
  rw [State.lc_noteSwitches, State.lc_flush, State.takeMode_lc_ne _ _ (Ne.symm hk)]

end

/-! ### LOOP_APPLY -/

theorem loopApply_answers {s : State} (hp : s.sys.powered = true) (k : Fin 2) (w : Word) :
    Answers (.loopApply k w) s fun t =>
      (∀ j < 32, bitOf w j = true → (s.loopMode (32 * k + j) = 0 ∨ s.loopMode (32 * k + j) = 1 ∨ s.loopMode (32 * k + j) = 5) →
        (t.lc (32 * k + j)).coef = s.shadow (32 * k + j) ∧ (t.lc (32 * k + j)).sel = s.shadowSel (32 * k + j)) ∧
      (∀ j < 32, bitOf w j = true → s.loopMode (32 * k + j) ≠ 0 → s.loopMode (32 * k + j) ≠ 1 → s.loopMode (32 * k + j) ≠ 5 →
        t.lc (32 * k + j) = s.lc (32 * k + j) ∧ t.bit (loopReg Reg.LOOP_STAT (32 * k + j)) 5 = true) ∧
      (∀ n, (∀ j < 32, bitOf w j = true → n ≠ 32 * k.val + j) → t.lc n = s.lc n) ∧ SameMem s t := by
  have h := s.applied_loopApply k w
  refine answers_still 0 _ rfl hp (congrArg Clock.now h.clk) ⟨fun j hj hbit hmode => ?_, fun j hj hbit h0 h1 h5 => ?_, fun n hn => ?_, h.mem.answer s⟩
  · rw [State.lc_noteSwitches, State.lc_flush]
    exact h.inForce j hj hbit hmode
  · have hstat : loopReg Reg.LOOP_STAT (32 * k + j) ∉ busRegs := loopReg_not_busRegs _ _ (by omega) (by decide) (by decide)
    rw [State.lc_noteSwitches, State.lc_flush, State.bit_noteSwitches, State.bit_flush _ _ hstat]
    exact h.refused j hj hbit (by simp [h0, h1, h5])
  · rw [State.lc_noteSwitches, State.lc_flush]
    exact h.others n hn

/-! ### Writes of host slots -/

theorem hostSlotWrite_answers {s : State} (hp : s.sys.powered = true) (m : Fin 256) (w : Word) :
    Answers (.hostSlotWrite m w) s fun t => t.slot (768 + m) = ⟨0, w⟩ ∧ t.reg (Reg.LOOP_HVAL + 4 * m) = w ∧
      t.bit (Reg.LOOP_HINV + 4 * (m / 32)) (m % 32) = false ∧ (∀ n, n ≠ 768 + m.val → t.slot n = s.slot n) ∧ (∀ n, t.inp n = s.inp n) ∧
      KeepsRegs s t [Reg.LOOP_HVAL + 4 * m, Reg.LOOP_HINV + 4 * (m / 32)] := by
  have hval : Reg.LOOP_HVAL + 4 * m.val ∉ busRegs := loopBlock_not_busRegs (by simp only [Reg.LOOP_HVAL]; omega) (by simp only [Reg.LOOP_HVAL]; omega)
  have hinv : Reg.LOOP_HINV + 4 * (m.val / 32) ∉ busRegs := loopBlock_not_busRegs (by simp only [Reg.LOOP_HINV]; omega) (by simp only [Reg.LOOP_HINV]; omega)
  refine answers_still 0 (fun s => s.hostSlot m w) rfl hp rfl ⟨?_, ?_, ?_, fun n hn => ?_, fun n => ?_, (s.hostSlot_keepsRegs m w).answer s⟩
  · rw [State.slot_noteSwitches, State.slot_flush]
    exact State.slot_putSlot_same _ _ _ _
  · rw [State.noteSwitches_reg, State.reg_flush _ hval]
    exact s.hostSlot_hval m w m.isLt
  · rw [State.bit_noteSwitches, State.bit_flush _ _ hinv]
    exact s.hostSlot_hinv m w
  · rw [State.slot_noteSwitches, State.slot_flush]
    exact State.slot_putSlot_ne _ _ _ (Ne.symm hn)
  · rw [State.inp_noteSwitches, State.inp_flush]
    rfl

theorem hostSlotInvalidate_answers {s : State} (hp : s.sys.powered = true) (k : Fin 8) (w : Word) :
    Answers (.hostSlotInvalidate k w) s fun t => t.reg (Reg.LOOP_HINV + 4 * k) = w ∧ KeepsRegs s t [Reg.LOOP_HINV + 4 * k] ∧
      (∀ j < 32, bitOf w j ≠ s.bit (Reg.LOOP_HINV + 4 * k) j → (t.slot (768 + 32 * k + j)).cond = (if bitOf w j = true then 3 else 0) ∧
        (t.slot (768 + 32 * k + j)).val = (s.slot (768 + 32 * k + j)).val) ∧
      (∀ j < 32, bitOf w j = s.bit (Reg.LOOP_HINV + 4 * k) j → t.slot (768 + 32 * k + j) = s.slot (768 + 32 * k + j)) ∧
      (∀ n, n < 768 + 32 * k.val ∨ 800 + 32 * k.val ≤ n → t.slot n = s.slot n) ∧ (∀ n, t.inp n = s.inp n) := by
  have hinv : Reg.LOOP_HINV + 4 * k.val ∉ busRegs := loopBlock_not_busRegs (by simp only [Reg.LOOP_HINV]; omega) (by simp only [Reg.LOOP_HINV]; omega)
  have hkeep : KeepsRegs s (s.hostInv k w) [Reg.LOOP_HINV + 4 * k] := fun a ha _ => by
    rw [State.hostInv_reg, State.reg_setReg_ne _ _ (Ne.symm (List.ne_of_not_mem_cons ha))]
  refine answers_still 0 (fun s => s.hostInv k w) rfl hp (congrArg Clock.now (s.hostInv_clk k w))
    ⟨?_, hkeep.answer s, fun j hj hbit => ?_, fun j hj hbit => ?_, fun n hn => ?_, fun n => ?_⟩
  · rw [State.noteSwitches_reg, State.reg_flush _ hinv, State.pass_zero, State.hostInv_reg, State.reg_setReg_same]
  · rw [State.slot_noteSwitches, State.slot_flush, State.pass_zero, State.hostInv_slot _ _ _ _ hj, if_neg hbit]
    exact ⟨Slot.cond_withCond _ _ (by split <;> decide), rfl⟩
  · rw [State.slot_noteSwitches, State.slot_flush, State.pass_zero, State.hostInv_slot _ _ _ _ hj, if_pos hbit]
  · rw [State.slot_noteSwitches, State.slot_flush, State.pass_zero, State.hostInv_slot_out _ _ _ _ hn]
  · rw [State.inp_noteSwitches, State.inp_flush, State.pass_zero, State.hostInv_inp]

/-! ### Beat, host watchdog, end of a load, reinsertion -/

section
variable {s : State} (hp : s.sys.powered = true) (hc : s.cmd.coming = [])
include hp hc

theorem beat_answers : Answers .beat s fun t => ∀ m < 256, t.inp (768 + m) = s.slot (768 + m) := by
  refine answers_now State.beat rfl hp hc fun m hm => ?_
  rw [State.inp_noteSwitches, State.inp_flush]
  exact s.beat_latchesHostSlots m hm

theorem wdogExpire_answers : Answers .wdogExpire s fun t => ∀ m < 256, t.slot (768 + m) = s.slot (768 + m) := by
  refine answers_now State.wdogExpire rfl hp hc fun m hm => ?_
  rw [State.slot_noteSwitches, State.slot_flush]
  exact keepsHostSlots_of_fabric s.wdogExpire_fabric m hm

theorem loadEnd_answers (dt src : Nat) (boot keep : Bool) (hjob : s.img.job = .load src boot keep) (hdev : s.sys.dev = .loading) :
    Answers (.loadEnd dt) s HostSlotsInvalid :=
  answers_now (State.loadEnd dt) rfl hp hc ((s.loadEnd_invalid dt src boot keep hjob hdev).answer s)

theorem reinsertion_answers (hr : s.sys.released.isSome = true) (he : s.sys.ejLow = false) : Answers .reinsertion s HostSlotsInvalid := by
  obtain ⟨t, ht⟩ := Option.isSome_iff_exists.mp hr
  refine answers_now State.reinsertion rfl hp hc (HostSlotsInvalid.answer ?_ s)
  simp only [State.reinsertion, ht, he]
  exact State.resetBy_hostSlots _ 6

end

/-! ### Resets -/

theorem powerOn_answers {s : State} (dt v h : Nat) (st : Fin 64) (hp : s.sys.powered = false) (hv : 870 < v) :
    Answers (.powerOn dt v h st) s HostSlotsInvalid := by
  refine ⟨_, rfl, fun m hm => ?_⟩
  rw [State.slot_flush]
  simp only [State.powerOn, hp, if_neg (Nat.not_le_of_lt hv)]
  exact State.resetBy_hostSlots _ 1 m hm

section
variable {s : State} (hp : s.sys.powered = true) (dt : Nat)
include hp

/-- A command whose effect is a reset leaves no host slot a value. -/
theorem reset_answers {c : Sys2Proof.Instr} (f : State → State) (he : exec c s = act dt f s) (u : State) (cause : Nat)
    (hf : f (s.pass dt) = u.resetBy cause) (hclk : u.clk.now = (s.pass dt).clk.now) : Answers c s HostSlotsInvalid :=
  answers_still dt f he hp (by rw [hf, State.resetBy_now, hclk]) (hf ▸ (u.resetBy_hostSlots cause).answer s)

theorem resetPin_answers (st : Fin 64) : Answers (.resetPin dt st) s HostSlotsInvalid :=
  reset_answers hp dt (fun x => x.resetPin st) rfl { s.pass dt with sys := { (s.pass dt).sys with strap := st } } 2 rfl rfl

theorem swrst_answers : Answers (.swrst 0xC0DE) s HostSlotsInvalid :=
  reset_answers hp 0 (fun x => (x.writeSysCtl (w32 (8 + 65536 * 0xC0DE))).2) rfl s 3 s.writeSysCtl_swrst rfl

theorem clockLoss_answers : Answers (.clockLoss dt) s HostSlotsInvalid := reset_answers hp dt (fun x => x.resetBy 4) rfl (s.pass dt) 4 rfl rfl

theorem brownOut_answers (v : Nat) (hg : (s.pass dt).sys.gaspFail = true) (hv : (s.pass dt).pfThr + 50 ≤ v) : Answers (.brownOut dt v) s HostSlotsInvalid :=
  reset_answers hp dt (fun x => x.brownOut v) rfl ((s.pass dt).setSupply v (s.pass dt).sys.vhld) 5 (if_pos ⟨hg, hv⟩) rfl

end

/-- Settles O38: each clause is what its command answers. LOOP_APPLY goes by induction on the loops it has come to; a load puts the host slots to 0 with COND 3, and what follows in it writes none. -/
theorem loopModesShadowSetsAndHostSlots : Obligations.LoopModesShadowSetsAndHostSlots := by
  unfold Obligations.LoopModesShadowSetsAndHostSlots
  refine ⟨fun s hp => ⟨?_, ?_, ?_, ?_⟩, fun s hp => ⟨?_, ?_, fun hc => ⟨?_, ?_, ?_, ?_⟩⟩, fun s dt => ⟨?_, fun hp => ⟨?_, ?_, ?_, ?_⟩⟩⟩
  · exact loopModeWrite_reserved hp
  · exact loopModeWrite_refused hp
  · exact loopModeWrite_taken hp
  · exact loopApply_answers hp
  · exact hostSlotWrite_answers hp
  · exact hostSlotInvalidate_answers hp
  · exact beat_answers hp hc
  · exact wdogExpire_answers hp hc
  · exact loadEnd_answers hp hc
  · exact reinsertion_answers hp hc
  · exact powerOn_answers dt
  · exact resetPin_answers hp dt
  · exact swrst_answers hp
  · exact clockLoss_answers hp dt
  · exact brownOut_answers hp dt

end Sys2Proof.Machine
end

section
/-! The Shutter (17): what a write that is not performed leaves of it (R347). -/

namespace Sys2Proof.Machine

/-- An AT trigger is pending and every severity triggers the Shutter; an event raised on the tick before the present one still stands on the bus. -/
def eventLeftOnBus : State := (((State.reset.setReg Reg.SHT_STAT 4).setReg Reg.SHT_TRIG 1).raise 0x0011).advance 1

/-- The write itself is ignored, but the command ends with the flush of the bus (01 R19), which hands the matching event of tick 0 to the Shutter. -/
theorem registerWrite_eventLeftOnBus :
    Answers (.registerWrite Reg.SHT_AT_NS 0) eventLeftOnBus fun t => t.sht.evPend = [(0, 0x0011)] :=
  ⟨_, rfl, by decide +kernel⟩

/-- Refutes O56: its clause on the SHT_AT registers asks that a write ignored while an AT trigger is pending leaves the whole Shutter as it was, its waiting events included. No hypothesis keeps events of earlier ticks off the bus, and every command delivers those. The state `eventLeftOnBus` meets the hypotheses and has no waiting event; after the write it has one. -/
theorem not_shutterTakesSnapshots : ¬ Obligations.ShutterTakesSnapshots := by
  unfold Obligations.ShutterTakesSnapshots
  rintro ⟨h, -⟩
  obtain ⟨-, -, -, -, -, ignoresWrites, -⟩ := h eventLeftOnBus 0 rfl
  obtain ⟨t, ht, -, hsame, -⟩ := ignoresWrites Reg.SHT_AT_NS 0 (by decide +kernel) (by decide)
  obtain ⟨u, hu, hwaits⟩ := registerWrite_eventLeftOnBus
  obtain rfl : t = u := Host.Outcome.next.inj (ht.symm.trans hu)
  have hnone : t.sht.evPend = [] := congrArg Sht.evPend hsame
  exact absurd (hnone.symm.trans hwaits) (by decide)

end Sys2Proof.Machine
end

section
/-! SUPPORT. Frames for power and removal (18 R364 to R370): what intake and the passing of ticks leave alone, and which registers a block writes. -/

namespace Sys2Proof.Machine

/-! ### Folds -/

/-- What a reflexive and transitive relation says of each step of a fold it says of the whole. -/
theorem foldl_related {α : Type} (R : State → State → Prop) (hrefl : ∀ x, R x x) (htrans : ∀ {x y z}, R x y → R y z → R x z) (f : State → α → State)
    (l : List α) (s : State) (h : ∀ x, ∀ a ∈ l, R x (f x a)) : R s (l.foldl f s) := by
  induction l generalizing s with
  | nil => exact hrefl s
  | cons a l ih => exact htrans (h s a List.mem_cons_self) (ih _ fun x b hb => h x b (List.mem_cons_of_mem a hb))

/-! ### Registers of one block -/

/-- No register outside the addresses `lo` to `hi - 1` changes. -/
def RegsWithin (lo hi : Nat) (s t : State) : Prop := ∀ a, a < lo ∨ hi ≤ a → t.reg a = s.reg a

theorem RegsWithin.trans {lo hi : Nat} {s t u : State} (h : RegsWithin lo hi s t) (k : RegsWithin lo hi t u) : RegsWithin lo hi s u :=
  fun a ha => (k a ha).trans (h a ha)

theorem RegsWithin.refl (lo hi : Nat) (s : State) : RegsWithin lo hi s s := fun _ _ => rfl

section
variable {lo hi : Nat} {s t : State} (h : RegsWithin lo hi s t)
include h

theorem RegsWithin.setReg {a : Nat} (w : Word) (hb : lo ≤ a ∧ a < hi) : RegsWithin lo hi s (t.setReg a w) :=
  fun b hout => (t.reg_setReg_ne w (by omega)).trans (h b hout)

theorem RegsWithin.setRf {a : Nat} (l n v : Nat) (hb : lo ≤ a ∧ a < hi) : RegsWithin lo hi s (t.setRf a l n v) := h.setReg _ hb

theorem RegsWithin.setBit {a : Nat} (i : Nat) (b : Bool) (hb : lo ≤ a ∧ a < hi) : RegsWithin lo hi s (t.setBit a i b) := h.setReg _ hb

theorem RegsWithin.raise (code : Nat) (args : List Byte) : RegsWithin lo hi s (t.raise code args) := h

end

theorem RegsWithin.foldl {α : Type} {lo hi : Nat} (f : State → α → State) (l : List α) (s : State) (h : ∀ x, ∀ a ∈ l, RegsWithin lo hi x (f x a)) :
    RegsWithin lo hi s (l.foldl f s) :=
  fun a ha => foldl_keeps (State.reg · a) f l s fun x b hb => h x b hb a ha

/-! ### Device state and switches -/

/-- `t` holds the device state, the supplies and the switches of `s`. -/
structure KeepsPower (s t : State) : Prop where
  sys : t.sys = s.sys
  drv : t.drv = s.drv

theorem KeepsPower.refl (s : State) : KeepsPower s s := ⟨rfl, rfl⟩

theorem KeepsPower.trans {s t u : State} (h : KeepsPower s t) (k : KeepsPower t u) : KeepsPower s u := ⟨k.sys.trans h.sys, k.drv.trans h.drv⟩

theorem KeepsPower.foldl {α : Type} (f : State → α → State) (l : List α) (s : State) (h : ∀ x a, KeepsPower x (f x a)) : KeepsPower s (l.foldl f s) :=
  foldl_related KeepsPower .refl .trans f l s fun x a _ => h x a

theorem OnlyRegs.keepsPower {s t : State} (h : OnlyRegs s t) : KeepsPower s t := ⟨(congrArg State.sys h :), (congrArg State.drv h :)⟩

/-! ### Events and episodes -/

theorem State.raise_keepsBus (s : State) (code : Nat) (args : List Byte) : KeepsBus s (s.raise code args) :=
  fun _ he => (mem_busInsert _ _ _).mpr (.inr he)

theorem State.closeEp_keepsBus (s : State) (e : Episode) : KeepsBus s (s.closeEp e) := fun _ he => (mem_busInsert _ _ _).mpr (.inr he)

theorem KeepsBus.foldl {α : Type} (f : State → α → State) (l : List α) (s : State) (h : ∀ x a, KeepsBus x (f x a)) : KeepsBus s (l.foldl f s) :=
  foldl_related KeepsBus .refl .trans f l s fun x a _ => h x a

/-- An event that has been raised stays raised while the bus keeps it and the clock stands. -/
theorem Raised.keep {s t : State} {code : Nat} (h : Raised s code) (hb : KeepsBus s t) (hc : t.clk = s.clk) : Raised t code := by
  obtain ⟨e, he, hcode, htick⟩ := h
  exact ⟨e, hb e he, hcode, by rw [hc, htick]⟩

theorem OnlyRegs.foldl {α : Type} (f : State → α → State) (l : List α) (s : State) (h : ∀ x a, OnlyRegs x (f x a)) : OnlyRegs s (l.foldl f s) :=
  foldl_related OnlyRegs .refl .trans f l s fun x a _ => h x a

theorem State.closeAllEps_onlyRegs (s : State) : OnlyRegs s s.closeAllEps := OnlyRegs.foldl _ _ _ fun _ _ => rfl

theorem State.closeAllEps_keepsBus (s : State) : KeepsBus s s.closeAllEps := KeepsBus.foldl _ _ _ State.closeEp_keepsBus

@[simp] theorem State.closeAllEps_reg (s : State) (a : Nat) : s.closeAllEps.reg a = s.reg a := foldl_keeps (State.reg · a) _ _ _ fun _ _ _ => rfl

@[simp] theorem State.closeAllEps_clk (s : State) : s.closeAllEps.clk = s.clk := (congrArg State.clk s.closeAllEps_onlyRegs :)

@[simp] theorem State.closeAllEps_sys (s : State) : s.closeAllEps.sys = s.sys := s.closeAllEps_onlyRegs.keepsPower.sys

@[simp] theorem State.closeAllEps_drv (s : State) : s.closeAllEps.drv = s.drv := s.closeAllEps_onlyRegs.keepsPower.drv

/-! ### Intake -/

/-- `t` is `s` but for registers, the queue, the calendar, the events raised and the episodes; every event that stood on the bus still does. -/
structure IntakeOnly (s t : State) : Prop where
  rest : t = { s with regs := t.regs, cmd := t.cmd, trn := { s.trn with cal := t.trn.cal }, bus := t.bus, episodes := t.episodes }
  bus : KeepsBus s t

theorem IntakeOnly.refl (s : State) : IntakeOnly s s := ⟨rfl, .refl s⟩

theorem IntakeOnly.trans {s t u : State} (h : IntakeOnly s t) (k : IntakeOnly t u) : IntakeOnly s u :=
  ⟨k.rest.trans (by rw [h.rest]), h.bus.trans k.bus⟩

theorem IntakeOnly.keepsPower {s t : State} (h : IntakeOnly s t) : KeepsPower s t := ⟨(congrArg State.sys h.rest :), (congrArg State.drv h.rest :)⟩

theorem IntakeOnly.foldl {α : Type} (f : State → α → State) (l : List α) (s : State) (h : ∀ x a, IntakeOnly x (f x a)) : IntakeOnly s (l.foldl f s) :=
  foldl_related IntakeOnly .refl .trans f l s fun x a _ => h x a

theorem State.setReg_intakeOnly (s : State) (a : Nat) (w : Word) : IntakeOnly s (s.setReg a w) := ⟨rfl, .refl s⟩

theorem State.raise_intakeOnly (s : State) (code : Nat) (args : List Byte) : IntakeOnly s (s.raise code args) := ⟨rfl, s.raise_keepsBus code args⟩

theorem State.episode_intakeOnly (s : State) (c k : Nat) (as : List Byte) (l : Nat) : IntakeOnly s (s.episode c k as l) :=
  ⟨by rw [s.episode_eq], s.episode_keepsBus c k as l⟩

theorem State.setShed_intakeOnly (s : State) (n : Nat) : IntakeOnly s (s.setShed n) := by
  unfold State.setShed
  extract_lets old s1 s2 c s3
  have h1 : IntakeOnly s s1 := (s.setReg_intakeOnly _ _).trans ⟨rfl, .refl _⟩
  have h2 : IntakeOnly s s2 := by
    dsimp only [s2]
    split
    · exact h1.trans (s1.setReg_intakeOnly _ _)
    · exact h1
  split
  · exact .refl s
  · exact (h2.trans (⟨rfl, .refl s2⟩ : IntakeOnly s2 s3)).trans (s3.raise_intakeOnly _ _)

theorem State.shedDown_intakeOnly (s : State) : IntakeOnly s s.shedDown := by
  unfold State.shedDown
  extract_lets l
  split
  · exact .refl s
  · exact s.setShed_intakeOnly _

theorem State.setQueue_intakeOnly (s : State) (q : List Cmd) : IntakeOnly s (s.setQueue q) := by
  unfold State.setQueue
  extract_lets old new c s1 s2 s3
  have h2 : IntakeOnly s s2 := (⟨rfl, .refl s⟩ : IntakeOnly s s1).trans (s1.setReg_intakeOnly _ _)
  have h3 : IntakeOnly s s3 := by
    dsimp only [s3]
    split
    · exact h2.trans (s2.setReg_intakeOnly _ _)
    · exact h2
  split
  · exact h3.trans (s3.setShed_intakeOnly _)
  · split
    · exact h3.trans s3.shedDown_intakeOnly
    · exact h3

theorem State.laneDrops_intakeOnly (s : State) (lane span : Nat) : IntakeOnly s (s.laneDrops lane span) :=
  IntakeOnly.foldl _ _ _ fun x _ => x.setReg_intakeOnly _ _

theorem State.refuse_intakeOnly (s : State) (cause source lane prio span : Nat) : IntakeOnly s (s.refuse cause source lane prio span) := by
  unfold State.refuse
  extract_lets s1 s2
  have h2 : IntakeOnly s s2 := (s.setReg_intakeOnly _ _).trans (s1.setReg_intakeOnly _ _)
  split
  · exact ((h2.trans (s2.setReg_intakeOnly _ _)).trans (State.laneDrops_intakeOnly _ lane span)).trans (State.episode_intakeOnly _ _ _ _ _)
  · exact h2.trans (s2.episode_intakeOnly _ _ _ _)

theorem State.admitCmd_intakeOnly (s : State) (ring : Bool) (c : Cmd) : IntakeOnly s (s.admitCmd ring c) := by
  unfold State.admitCmd
  extract_lets k
  split
  · exact ((s.setQueue_intakeOnly _).trans (State.setReg_intakeOnly _ _ _)).trans (State.setReg_intakeOnly _ _ _)
  · exact s.refuse_intakeOnly _ _ _ _ _

/-! ### The passing of ticks -/

theorem State.enterList_keepsPower (s : State) (n : Nat) (es : List (Nat × Bool × Cmd)) : KeepsPower s (s.enterList n es) := by
  induction es generalizing s with
  | nil => exact ⟨rfl, rfl⟩
  | cons e es ih =>
    unfold State.enterList
    split
    · have htick : KeepsPower s (s.reachTick e.1) := ⟨rfl, rfl⟩
      exact (htick.trans (State.admitCmd_intakeOnly _ _ _).keepsPower).trans (ih _)
    · exact ⟨rfl, rfl⟩

/-- While ticks pass the device state and the switches stay. -/
theorem State.pass_keepsPower (s : State) (k : Nat) : KeepsPower s (s.pass k) := by
  unfold State.pass
  split
  · exact .refl s
  · have htick : KeepsPower (s.enterTo (s.clk.now + k)) ((s.enterTo (s.clk.now + k)).reachTick (s.clk.now + k)) := ⟨rfl, rfl⟩
    exact ((s.enterList_keepsPower _ _).trans htick).trans (onlyRegs_flush _).keepsPower

@[simp] theorem State.pass_sys (s : State) (k : Nat) : (s.pass k).sys = s.sys := (s.pass_keepsPower k).sys

@[simp] theorem State.pass_drv (s : State) (k : Nat) : (s.pass k).drv = s.drv := (s.pass_keepsPower k).drv

/-- Where no command has still to enter the queue, none has later. -/
theorem State.pass_coming (s : State) (k : Nat) (h : s.cmd.coming = []) : (s.pass k).cmd.coming = [] := by
  unfold State.pass
  split
  · exact h
  · rw [s.enterTo_of_none _ h, State.flush_cmd]
    exact h

theorem State.settle_keepsPower (s : State) : KeepsPower s s.settle := by
  unfold State.settle
  split
  · exact .refl s
  · exact s.pass_keepsPower 1

/-- With no command to enter the queue, a command answers its effect after its ticks, also where the effect takes the clock on. -/
theorem answers_after {c : Sys2Proof.Instr} {s : State} {P : State → Prop} (dt : Nat) (f : State → State) (he : exec c s = act dt f s)
    (hp : s.sys.powered = true) (hc : s.cmd.coming = []) (h : P (s.noteSwitches (f (s.pass dt)).flush)) : Answers c s P :=
  ⟨_, by rw [he, act_powered dt f s hp, State.during_of_none _ f (s.pass_coming dt hc)], h⟩

/-- An effect that moves no switch leaves no mark. -/
theorem State.noteSwitches_flush_of_drv {s t : State} (h : t.drv = s.drv) : s.noteSwitches t.flush = t.flush :=
  s.noteSwitches_of_same _ (by rw [State.flush_drv, h]) (by rw [State.flush_drv, h]) (by rw [State.flush_drv, h])

end Sys2Proof.Machine
end

section
/-! SUPPORT. The recorder's part of the last gasp (16 R341) leaves the device state and the switches alone. -/

namespace Sys2Proof.Machine

/-! ### Single updates -/

section
variable {s t : State} (h : KeepsPower s t)
include h

theorem KeepsPower.setReg (a : Nat) (w : Word) : KeepsPower s (t.setReg a w) := ⟨h.sys, h.drv⟩

theorem KeepsPower.setRf (a l n v : Nat) : KeepsPower s (t.setRf a l n v) := ⟨h.sys, h.drv⟩

theorem KeepsPower.setBit (a i : Nat) (b : Bool) : KeepsPower s (t.setBit a i b) := ⟨h.sys, h.drv⟩

theorem KeepsPower.count (a : Nat) : KeepsPower s (t.count a) := ⟨h.sys, h.drv⟩

theorem KeepsPower.kenPut (a : Nat) (bs : List Byte) : KeepsPower s (t.kenPut a bs) := ⟨h.sys, h.drv⟩

theorem KeepsPower.dramPut (a : Nat) (bs : List Byte) : KeepsPower s (t.dramPut a bs) := ⟨h.sys, h.drv⟩

theorem KeepsPower.raise (code : Nat) (args : List Byte) : KeepsPower s (t.raise code args) := ⟨h.sys, h.drv⟩

theorem KeepsPower.withRec (r : Rec) : KeepsPower s { t with rcd := r } := ⟨h.sys, h.drv⟩

end

/-! ### Bad slots and position copies -/

theorem State.drawBytes_keepsPower (s : State) (n : Nat) : KeepsPower s (s.drawBytes n).2 := by
  induction n generalizing s with
  | zero => exact .refl s
  | succ n ih => exact (⟨rfl, rfl⟩ : KeepsPower s s.draw.2).trans (ih _)

theorem State.markCopy_keepsPower (s : State) (f : KenFault) (i c : Nat) : KeepsPower s (s.markCopy f i c) := by
  unfold State.markCopy
  split
  · exact .refl s
  · split
    · exact ((KeepsPower.refl s).setBit _ _ _).raise _ _
    · exact (KeepsPower.refl s).kenPut _ _

theorem State.markBad_keepsPower (s : State) (f : KenFault) (i : Nat) : KeepsPower s (s.markBad f i) := by
  unfold State.markBad
  extract_lets was d s1 s2
  have h1 : KeepsPower s s1 :=
    (((s.drawBytes_keepsPower 4).kenPut _ _).trans (State.markCopy_keepsPower _ f i 0)).trans (State.markCopy_keepsPower _ f i 1)
  have h2 : KeepsPower s s2 := by
    dsimp only [s2]
    split
    · exact h1.setReg _ _
    · exact h1
  exact h2.withRec _

theorem State.persist_keepsPower (s : State) (fail : Bool) : KeepsPower s (s.persist fail) := by
  unfold State.persist
  extract_lets r s1 d s2 r2 s3
  have h1 : KeepsPower s s1 := (KeepsPower.refl s).withRec _
  split
  · have h2 : KeepsPower s s2 := (h1.trans (s1.drawBytes_keepsPower 8)).kenPut _ _
    exact (h2.withRec _).kenPut _ _
  · exact h1.kenPut _ _

/-! ### Records -/

theorem State.carry_keepsPower (s : State) (e : Event) : KeepsPower s (s.carry e) := OnlyRegs.keepsPower (s.carry_carried e).1

theorem State.ownEvent_keepsPower (s : State) (code : Nat) (args : List Byte) : KeepsPower s (s.ownEvent code args).2 := s.carry_keepsPower _

theorem State.toRecorder_keepsPower (s : State) (e : Event) : KeepsPower s (s.toRecorder e) := OnlyRegs.keepsPower (s.toRecorder_carried e).1

theorem State.queueOwn_keepsPower (s : State) (code : Nat) (args : List Byte) : KeepsPower s (s.queueOwn code args) :=
  (s.ownEvent_keepsPower code args).trans (State.toRecorder_keepsPower _ _)

theorem State.mirrorPut_keepsPower (s : State) (e : Event) : KeepsPower s (s.mirrorPut e) := by
  unfold State.mirrorPut
  extract_lets e1 i s1 s2 s3 r
  have h1 : KeepsPower s s1 := (KeepsPower.refl s).dramPut _ _
  have h2 : KeepsPower s s2 := by
    dsimp only [s2]
    split
    · exact (h1.setRf _ _ _ _).setRf _ _ _ _
    · exact h1.setRf _ _ _ _
  exact (h2.count _).withRec _

theorem State.mediumFail_keepsPower (s : State) (cause : Nat) (pend : Option Event) : KeepsPower s (s.mediumFail cause pend) := by
  unfold State.mediumFail
  extract_lets word s1 s2 s3 r
  have h1 : KeepsPower s s1 := (((KeepsPower.refl s).setBit _ _ _).setBit _ _ _).setReg _ _
  have h2 : KeepsPower s s2 := (h1.setReg _ _).setReg _ _
  have h3 : KeepsPower s s3 := by
    dsimp only [s3]
    split
    · exact h2.trans (s2.mirrorPut_keepsPower _)
    · exact h2
  exact (h3.trans (s3.ownEvent_keepsPower _ _)).trans (State.mirrorPut_keepsPower _ _)

theorem State.posAfter_keepsPower (s : State) (k : Nat) : KeepsPower s (s.posAfter k) := by
  unfold State.posAfter
  extract_lets s1
  have h1 : KeepsPower s s1 := by
    dsimp only [s1]
    split
    · exact (KeepsPower.refl s).setReg _ _
    · exact .refl s
  split
  · exact (h1.setReg _ _).setReg _ _
  · exact h1.setReg _ _

theorem State.circWrite_keepsPower (s : State) (f : KenFault) (e : Event) (fuel : Nat) (run : Nat × Nat) : KeepsPower s (s.circWrite f e fuel run).1 := by
  induction fuel generalizing s run with
  | zero => exact .refl s
  | succ fuel ih =>
    unfold State.circWrite
    extract_lets k s1 run1
    have h1 : KeepsPower s s1 := (s.markBad_keepsPower f _).trans (State.posAfter_keepsPower _ k)
    split
    · split
      · exact h1
      · exact h1.trans (ih s1 run1)
    · exact ((KeepsPower.refl s).kenPut _ _).trans (State.posAfter_keepsPower _ k)

theorem State.slotBadEvent_keepsPower (s : State) (area first len : Nat) : KeepsPower s (s.slotBadEvent area first len) := by
  unfold State.slotBadEvent
  extract_lets r
  split
  · exact .refl s
  · exact (s.ownEvent_keepsPower _ _).withRec _

theorem State.circRecord_keepsPower (s : State) (f : KenFault) (e : Event) (fd : Option Nat) (fresh : Bool) : KeepsPower s (s.circRecord f e fd fresh) := by
  have h := s.circWrite_keepsPower f e (f.slots.length + 1) (0, 0)
  unfold State.circRecord
  split
  next s1 k run heq =>
    rw [heq] at h
    extract_lets r s2 s3 s4
    have h2 : KeepsPower s s2 := KeepsPower.withRec h _
    have h3 : KeepsPower s s3 := by
      refine KeepsPower.trans ?_ (State.persist_keepsPower _ _)
      split
      · exact h2.count _
      · exact h2
    have h4 : KeepsPower s s4 := by
      dsimp only [s4]
      split
      · exact h3.trans (s3.slotBadEvent_keepsPower _ _ _)
      · exact h3
    exact h4.trans (s4.slotBadEvent_keepsPower _ _ _)
  next s1 run heq =>
    rw [heq] at h
    exact h.trans (s1.mediumFail_keepsPower _ _)

theorem State.foundWrite_keepsPower (s : State) (f : KenFault) (e : Event) : KeepsPower s (s.foundWrite f e).1 := by
  unfold State.foundWrite
  extract_lets i0 i
  split
  · exact .refl s
  · cases i with
    | none => exact ((KeepsPower.refl s).setReg _ _).setBit _ _ _
    | some j =>
      dsimp only
      have hr : KeepsPower s (if f.slots.contains j then (s.markBad f j, some j) else (s.kenPut (slotAddr j) (recBytes e), none)).1 := by
        split
        · exact s.markBad_keepsPower f j
        · exact (KeepsPower.refl s).kenPut _ _
      split
      · exact (hr.setReg _ _).setBit _ _ _
      · exact hr.setReg _ _

theorem State.append_keepsPower (s : State) (f : KenFault) (e : Event) : KeepsPower s (s.append f e) := by
  unfold State.append
  extract_lets r e1
  have hr : KeepsPower s r.1 := s.foundWrite_keepsPower f e
  split
  · exact (s.mirrorPut_keepsPower e).trans (State.persist_keepsPower _ _)
  · split
    · exact hr.trans (r.1.mediumFail_keepsPower _ _)
    · exact hr.trans (r.1.circRecord_keepsPower _ _ _ _)

theorem State.mergeWrite_keepsPower (s : State) (f : KenFault) (p : Event) : KeepsPower s (s.mergeWrite f p) := by
  unfold State.mergeWrite
  extract_lets s1 d r k s2 s3 r3
  have h1 : KeepsPower s s1 := (KeepsPower.refl s).count _
  have h2 : KeepsPower s s2 := h1.trans (s1.markBad_keepsPower f _)
  have h3 : KeepsPower s s3 := h1.kenPut _ _
  split
  · exact ((h1.dramPut _ _).withRec _).trans (State.persist_keepsPower _ _)
  · split
    · split
      · exact h2.trans (s2.mediumFail_keepsPower _ _)
      · exact (h2.trans (s2.circRecord_keepsPower _ _ _ _)).trans (State.slotBadEvent_keepsPower _ _ _ _)
    · exact (h3.withRec _).trans (State.persist_keepsPower _ _)

theorem State.record_keepsPower (s : State) (f : KenFault) (e : Event) : KeepsPower s (s.record f e) := by
  unfold State.record
  split
  · exact s.mergeWrite_keepsPower f _
  · exact s.append_keepsPower f e

/-! ### Start-up, thaw, a stopped erase, draining the queue -/

theorem State.rebuild_keepsPower (s : State) (powerOn : Bool) : KeepsPower s (s.rebuild powerOn).2 := by
  unfold State.rebuild
  extract_lets vs fidx ops pcs best pos s1 r1 s2 r2
  have h1 : KeepsPower s s1 := (((KeepsPower.refl s).setReg _ _).setReg _ _).setReg _ _
  have h2 : KeepsPower s s2 := by
    dsimp only [s2]
    split
    · exact h1.withRec _
    · exact h1
  exact h2.withRec _

theorem State.countCycle_keepsPower (s : State) (powerOn : Bool) : KeepsPower s (s.countCycle powerOn) := by
  unfold State.countCycle
  split
  · exact (KeepsPower.refl s).withRec _
  · exact .refl s

theorem State.recorderStart_keepsPower (s0 : State) : KeepsPower s0 s0.recorderStart := by
  unfold State.recorderStart
  extract_lets waiting on r0 s reset fresh k r s1 s2 s3 word s4 own d q
  have hs : KeepsPower s0 s := (KeepsPower.refl s0).withRec _
  have hreset (x : State) : KeepsPower x (reset x) := x.queueOwn_keepsPower _ _
  have h1 : KeepsPower s0 s1 := by
    refine hs.trans ?_
    dsimp -zeta only [s1]
    split
    · extract_lets b x ops was pend q x1 x2 x3
      have hx : KeepsPower s x := (((KeepsPower.refl s).setReg _ _).setReg _ _).setReg _ _
      have hx1 : KeepsPower s x1 := hx.withRec _
      have hx2 : KeepsPower s x2 := (hx1.trans (x1.countCycle_keepsPower on)).setBit _ _ _
      have hx3 : KeepsPower s x3 := (hx2.trans (x2.persist_keepsPower false)).trans (hreset _)
      split
      · exact hx3.trans (x3.queueOwn_keepsPower _ _)
      · exact hx3
    · have hk : KeepsPower s (k.2.countCycle on) := (s.rebuild_keepsPower on).trans (State.countCycle_keepsPower _ on)
      exact ((hk.trans (State.persist_keepsPower _ false)).trans (hreset _)).trans (State.queueOwn_keepsPower _ _ _)
  have h2 : KeepsPower s0 s2 := (h1.setReg _ _).setBit _ _ _
  have h3 : KeepsPower s0 s3 := h2.trans (KeepsPower.foldl _ _ _ State.toRecorder_keepsPower)
  have h4 : KeepsPower s0 s4 := (((h3.setBit _ _ _).setBit _ _ _).setReg _ _).setReg _ _
  split
  · exact .refl s0
  · split
    · exact (h4.trans (s4.ownEvent_keepsPower _ _)).withRec _
    · exact h3

theorem State.thaw_keepsPower (s : State) (why : Nat) : KeepsPower s (s.thaw why) := by
  unfold State.thaw
  split
  · exact .refl s
  · exact ((((KeepsPower.refl s).setBit _ _ _).setBit _ _ _).withRec _).raise _ _

theorem State.eraseSlots_keepsPower (s : State) (f : KenFault) (lo hi : Nat) : KeepsPower s (s.eraseSlots f lo hi) := by
  unfold State.eraseSlots
  extract_lets keep s1
  have h1 : KeepsPower s s1 := ⟨rfl, rfl⟩
  exact h1.trans (KeepsPower.foldl _ _ _ fun x i => x.markBad_keepsPower f i)

theorem State.clearedRecord_keepsPower (s : State) (f : KenFault) (erased : Nat) : KeepsPower s (s.clearedRecord f erased) :=
  (s.ownEvent_keepsPower _ _).trans (State.append_keepsPower _ f _)

theorem State.stopErase_keepsPower (s : State) (f : KenFault) (erased : Nat) : KeepsPower s (s.stopErase f erased) := by
  unfold State.stopErase
  extract_lets n s1 r
  have h1 : KeepsPower s s1 := s.eraseSlots_keepsPower _ _ _
  split
  · exact (h1.withRec _).trans (State.clearedRecord_keepsPower _ f n)
  · exact .refl s

theorem State.nextRecord_keepsPower (s : State) (e : Event) (t : State) (h : s.nextRecord = some (e, t)) : KeepsPower s t := by
  unfold State.nextRecord at h
  split at h <;> cases h
  · exact (KeepsPower.refl s).withRec _
  · exact (KeepsPower.refl s).withRec _

theorem State.drainRecords_keepsPower (s : State) (f : KenFault) (n : Nat) : KeepsPower s (s.drainRecords f n) := by
  induction n generalizing s with
  | zero => exact .refl s
  | succ n ih =>
    unfold State.drainRecords
    split
    next e s1 heq =>
      have h1 := (s.nextRecord_keepsPower e s1 heq).trans (s1.record_keepsPower f e)
      exact ((h1.trans (State.settle_keepsPower _)).trans (OnlyRegs.keepsPower (State.queueLost_carried _).1)).trans (ih _)
    · exact .refl s

/-! ### The last gasp completes -/

/-- What the last gasp leaves when it has completed: the ring released on the present tick, and nothing else of the device state or the switches changed (16 R341; 10 R212). -/
structure GaspCompletes (s t : State) : Prop where
  sys : t.sys = { s.sys with gaspRun := none, released := some t.clk.now }
  drv : t.drv = s.drv
  ring : t.bit Reg.PWR_STAT 5 = false
  raised : Raised t 0x0806

theorem State.netRelease_completes (s : State) : GaspCompletes s ({ s with sys := { s.sys with gaspRun := none } } : State).netRelease where
  sys := rfl
  drv := rfl
  ring := State.bit_setBit_same ({ s with sys := { s.sys with gaspRun := none } } : State) Reg.PWR_STAT 5 false (by decide)
  raised := State.raised_raise _ _ _

theorem GaspCompletes.of_keepsPower {s t u : State} (k : GaspCompletes t u) (h : KeepsPower s t) : GaspCompletes s u where
  sys := by rw [k.sys, h.sys]
  drv := k.drv.trans h.drv
  ring := k.ring
  raised := k.raised

theorem State.gaspSteps_completes (s0 : State) (f : KenFault) (erased : Nat) (h : s0.sys.gaspRun.isSome = true) :
    GaspCompletes s0 (s0.gaspSteps f erased) := by
  unfold State.gaspSteps
  split
  next hnone => simp [hnone] at h
  next cause st vhld hrun =>
    extract_lets s s1 wr c s2 s3 n r s4 d s5 y
    have h1 : KeepsPower s0 s1 := (s0.recorderStart_keepsPower.trans (s.thaw_keepsPower 2)).trans (State.stopErase_keepsPower _ f erased)
    have h2 : KeepsPower s0 s2 := ((h1.withRec _).trans (State.closeAllEps_onlyRegs _).keepsPower).trans (State.settle_keepsPower _)
    have h3 : KeepsPower s0 s3 := h2.trans (s2.drainRecords_keepsPower f _)
    have h4 : KeepsPower s0 s4 := (h3.trans (s3.ownEvent_keepsPower _ _)).trans (r.2.append_keepsPower f r.1)
    have h5 : KeepsPower s0 s5 := (h4.withRec _).trans (State.persist_keepsPower _ _)
    exact s5.netRelease_completes.of_keepsPower h5

end Sys2Proof.Machine
end

section
/-! SUPPORT. Entering DRAINING (18 R362 to R365) and the outputs at the last gasp (18 R365). -/

namespace Sys2Proof.Machine

/-! ### Leaving ARMED and DRY -/

theorem State.setShed_regs (s : State) (n : Nat) : RegsWithin 0x20000 0x30000 s (s.setShed n) := by
  unfold State.setShed
  extract_lets old s1 s2 c s3
  have h1 : RegsWithin 0x20000 0x30000 s s1 := (RegsWithin.refl _ _ s).setRf 0 2 n (by decide)
  have h2 : RegsWithin 0x20000 0x30000 s s2 := by
    dsimp only [s2]
    split
    · exact h1.setBit _ _ (by decide)
    · exact h1
  have h3 : RegsWithin 0x20000 0x30000 s s3 := h2
  split
  · exact .refl _ _ s
  · exact h3.raise _ _

theorem State.shedDown_regs (s : State) : RegsWithin 0x20000 0x30000 s s.shedDown := by
  unfold State.shedDown
  extract_lets l
  split
  · exact .refl _ _ s
  · exact s.setShed_regs _

/-- The queue's fill shows in registers of CMD alone. -/
theorem State.setQueue_regs (s : State) (q : List Cmd) : RegsWithin 0x20000 0x30000 s (s.setQueue q) := by
  unfold State.setQueue
  extract_lets old new c s1 s2 s3
  have h1 : RegsWithin 0x20000 0x30000 s s1 := .refl _ _ s
  have h2 : RegsWithin 0x20000 0x30000 s s2 := h1.setRf 16 15 _ (by decide)
  have h3 : RegsWithin 0x20000 0x30000 s s3 := by
    dsimp only [s3]
    split
    · exact h2.setBit _ _ (by decide)
    · exact h2
  split
  · exact h3.trans (s3.setShed_regs _)
  · split
    · exact h3.trans s3.shedDown_regs
    · exact h3

theorem State.setShed_queue (s : State) (n : Nat) : (s.setShed n).cmd.queue = s.cmd.queue := by
  unfold State.setShed
  extract_lets old s1 s2 c s3
  have h2 : s2.cmd = s.cmd := by
    dsimp only [s2]
    split <;> simp [s1, State.episodeLevel]
  split
  · rfl
  · show s2.cmd.queue = s.cmd.queue
    rw [h2]

theorem State.shedDown_queue (s : State) : s.shedDown.cmd.queue = s.cmd.queue := by
  unfold State.shedDown
  extract_lets l
  split
  · rfl
  · exact s.setShed_queue _

/-- Emptying the queue leaves it empty: the fill can only fall. -/
theorem State.setQueue_nil (s : State) : (s.setQueue []).cmd.queue = [] := by
  unfold State.setQueue
  extract_lets old new c s1 s2 s3
  have h3 : s3.cmd = s1.cmd := by
    dsimp only [s3]
    split <;> simp [s2]
  rw [if_neg (by simp [new])]
  split
  · rw [State.shedDown_queue, h3]
  · rw [h3]

theorem State.rplEnd_intakeOnly (s : State) (cause : Nat) : IntakeOnly s (s.rplEnd cause) := by
  unfold State.rplEnd
  split
  · exact ((s.setReg_intakeOnly _ _).trans (State.setReg_intakeOnly _ _ _)).trans (State.raise_intakeOnly _ _ _)
  · exact .refl s

theorem State.rplEnd_regs (s : State) (cause : Nat) : RegsWithin 0x20000 0x30000 s (s.rplEnd cause) := by
  unfold State.rplEnd
  split
  · exact (((RegsWithin.refl _ _ s).setBit _ _ (by decide)).setBit _ _ (by decide)).raise _ _
  · exact .refl _ _ s

/-- What leaving ARMED or DRY leaves: nothing queued and nothing planned; registers of CMD alone have changed. -/
structure Discards (s t : State) : Prop where
  rest : IntakeOnly s t
  regs : RegsWithin 0x20000 0x30000 s t
  queue : t.cmd.queue = []
  cal : t.trn.cal = []

theorem State.discardAll_discards (s : State) (entered : Nat) : Discards s (s.discardAll entered) := by
  unfold State.discardAll
  extract_lets n s1 r s2
  have h1 : IntakeOnly s s1 := s.setQueue_intakeOnly []
  have h2 : IntakeOnly s s2 := h1.trans ⟨rfl, .refl s1⟩
  have hr : RegsWithin 0x20000 0x30000 s s2 := s.setQueue_regs []
  split
  next hn =>
    have hlen : s.cmd.queue.length = 0 ∧ s.trn.cal.length = 0 := by omega
    exact ⟨.refl s, .refl _ _ s, List.eq_nil_of_length_eq_zero hlen.1, List.eq_nil_of_length_eq_zero hlen.2⟩
  · exact {
      rest := (h2.trans (s2.setReg_intakeOnly _ _)).trans (State.raise_intakeOnly _ _ _)
      regs := (hr.setReg _ (by decide)).raise _ _
      queue := s.setQueue_nil
      cal := rfl }

theorem State.leaveLive_discards (s : State) (tgt : DevState) : Discards s (s.leaveLive tgt) := by
  have h := (s.rplEnd 1).discardAll_discards tgt.num
  exact ⟨(s.rplEnd_intakeOnly 1).trans h.rest, (s.rplEnd_regs 1).trans h.regs, h.queue, h.cal⟩

/-! ### Shots and switches -/

/-- `t` is `s` but for the shots, the drive and what sensing holds. -/
def DriveOnly (s t : State) : Prop := t = { s with trn := { s.trn with shots := t.trn.shots }, drv := t.drv, vsn := t.vsn }

theorem DriveOnly.refl (s : State) : DriveOnly s s := rfl

theorem DriveOnly.trans {s t u : State} (h : DriveOnly s t) (k : DriveOnly t u) : DriveOnly s u := by
  unfold DriveOnly at *
  exact k.trans (by rw [h])

theorem DriveOnly.withDrv {s t : State} (h : DriveOnly s t) (d : Drv) : DriveOnly s { t with drv := d } := h.trans rfl

theorem DriveOnly.foldl {α : Type} (f : State → α → State) (l : List α) (s : State) (h : ∀ x a, DriveOnly x (f x a)) : DriveOnly s (l.foldl f s) :=
  foldl_related DriveOnly .refl .trans f l s fun x a _ => h x a

theorem State.retire_driveOnly (s : State) (h : Shot) : DriveOnly s (s.retire h) := by
  unfold State.retire
  extract_lets s1
  split <;> rfl

theorem State.finish_driveOnly (s : State) (h : Shot) : DriveOnly s (s.finish h) :=
  ((DriveOnly.refl s).withDrv _).trans (State.retire_driveOnly _ h)

theorem State.withholdAll_driveOnly (s : State) (flt : Bool) : DriveOnly s (s.withholdAll flt) := DriveOnly.foldl _ _ _ fun _ _ => rfl

theorem State.propOpen_driveOnly (s : State) (v : Nat) : DriveOnly s (s.propOpen v) := by
  unfold State.propOpen
  split <;> rfl

theorem State.openAll_driveOnly (s : State) : DriveOnly s s.openAll := by
  unfold State.openAll
  extract_lets s1
  have h1 : DriveOnly s s1 := DriveOnly.foldl _ _ _ fun x v => by
    split
    · exact x.propOpen_driveOnly v
    · exact .refl x
  exact h1.withDrv _

theorem State.cutShot_driveOnly (s : State) (h : Shot) (flt : Bool) : DriveOnly s (s.cutShot h flt) := by
  unfold State.cutShot
  split
  · rfl
  · split
    · extract_lets h1
      split
      · exact s.finish_driveOnly h1
      · rfl
    · exact .refl s

/-- LS, FW and HB of every channel and bank. -/
def State.switches (s : State) : BitVec 96 × BitVec 96 × BitVec 12 := (s.drv.ls, s.drv.fw, s.drv.hb)

theorem State.retire_drv (s : State) (h : Shot) : (s.retire h).drv = s.drv := by
  unfold State.retire
  extract_lets s1
  split <;> rfl

theorem State.finish_switches (s : State) (h : Shot) : (s.finish h).switches = s.switches := by
  unfold State.finish State.switches
  rw [State.retire_drv]

/-- Cutting a shot short moves no switch. -/
theorem State.cutShot_switches (s : State) (h : Shot) (flt : Bool) : (s.cutShot h flt).switches = s.switches := by
  unfold State.cutShot
  split
  · rfl
  · split
    · extract_lets h1
      split
      · exact s.finish_switches h1
      · rfl
    · rfl

/-! ### Entering DRAINING -/

/-- What entering DRAINING with a code leaves (18 R362, R364). -/
structure EntersDraining (s : State) (code : Nat) (t : State) : Prop where
  sys : t.sys = { s.sys with dev := .draining, cause := code, prev := s.sys.dev.num, devTick := s.clk.now, drainTick := some s.clk.now, drainCode := code,
                             swSafe := s.safeLatched }
  clk : t.clk = s.clk
  bus : KeepsBus s t
  queue : t.cmd.queue = []
  cal : t.trn.cal = []
  shots : code ≠ 22 → t.trn.shots = s.trn.shots
  pwrStat : t.reg Reg.PWR_STAT = s.reg Reg.PWR_STAT

theorem State.toDraining_enters (s : State) (code : Nat) : EntersDraining s code (s.toDraining code) := by
  unfold State.toDraining
  extract_lets s1 s2
  have hdev : KeepsBus s (s.setDev .draining code) := State.raise_keepsBus _ _ _
  have hlive : Discards (s.setDev .draining code) s1 := State.leaveLive_discards _ _
  have hdrive : DriveOnly s1 s2 := by
    dsimp only [s2]
    split
    · exact s1.withholdAll_driveOnly false
    · exact .refl s1
  have hsys : s2.sys = (s.setDev .draining code).sys := (congrArg State.sys hdrive :).trans hlive.rest.keepsPower.sys
  have hclk : s2.clk = s.clk := (congrArg State.clk hdrive :).trans (congrArg State.clk hlive.rest.rest :)
  have hbus : KeepsBus s s2 := (hdev.trans hlive.rest.bus).trans (keepsBus_of_eq (congrArg State.bus hdrive :))
  have hkeep (x : State) : OnlyRegs x x.closeAllEps := x.closeAllEps_onlyRegs
  refine ⟨?_, (State.closeAllEps_clk _).trans hclk, fun e he => State.closeAllEps_keepsBus _ e (hbus e he), ?_, ?_, fun hcode => ?_, ?_⟩
  · rw [State.closeAllEps_sys]
    show ({ s2.sys with drainTick := some s2.clk.now, drainCode := code, swSafe := s.safeLatched } : Sys) = _
    rw [hsys, hclk]
    rfl
  · rw [hkeep]
    show s2.cmd.queue = []
    rw [(congrArg State.cmd hdrive :)]
    exact hlive.queue
  · rw [hkeep]
    show s2.trn.cal = []
    rw [hdrive]
    exact hlive.cal
  · rw [hkeep]
    show s2.trn.shots = s.trn.shots
    rw [show s2 = s1 from if_neg hcode, hlive.rest.rest]
    rfl
  · rw [State.closeAllEps_reg]
    show s2.reg Reg.PWR_STAT = s.reg Reg.PWR_STAT
    rw [State.reg, (congrArg State.regs hdrive :)]
    exact hlive.regs _ (by decide)

end Sys2Proof.Machine
end

section
/-! SUPPORT. What the last gasp's outputs come to (18 R365): channels open, boost stopped, loops stopped, analog outputs and fans at 0, CAN in CONFIG. -/

namespace Sys2Proof.Machine

/-! ### Folds over a range -/

/-- What each step of a fold over a range brings about for its own index, and no other step undoes, holds of every index at its end. -/
theorem foldl_range_forall (f : State → Nat → State) (P : Nat → State → Prop) (n : Nat) (s : State) (hset : ∀ x j, j < n → P j (f x j))
    (hkeep : ∀ x j k, j ≠ k → P j x → P j (f x k)) (j : Nat) (hj : j < n) : P j ((List.range n).foldl f s) := by
  induction n with
  | zero => exact absurd hj (Nat.not_lt_zero j)
  | succ n ih =>
    rw [List.range_succ, List.foldl_concat]
    rcases Nat.lt_succ_iff_lt_or_eq.mp hj with hlt | rfl
    · exact hkeep _ _ _ (Nat.ne_of_lt hlt) (ih (fun x j hj => hset x j (by omega)) hlt)
    · exact hset _ j (Nat.lt_succ_self j)

/-! ### Inputs and outputs -/

/-- `t` is `s` but for registers, the front end, the CAN controllers, the signal fabric and free values. -/
def IoOnly (s t : State) : Prop :=
  t = { s with regs := t.regs, afe := t.afe, can0 := t.can0, can1 := t.can1, fabric := t.fabric, free := t.free }

theorem IoOnly.trans {s t u : State} (h : IoOnly s t) (k : IoOnly t u) : IoOnly s u := by
  unfold IoOnly at *
  exact k.trans (by rw [h])

/-- Of its registers an `IoOnly` step changes those at the addresses `lo` to `hi - 1` alone. -/
structure IoBlock (lo hi : Nat) (s t : State) : Prop where
  rest : IoOnly s t
  regs : RegsWithin lo hi s t

section
variable {lo hi : Nat} {s t u : State}

theorem IoBlock.refl (lo hi : Nat) (s : State) : IoBlock lo hi s s := ⟨rfl, .refl lo hi s⟩

theorem IoBlock.trans (h : IoBlock lo hi s t) (k : IoBlock lo hi t u) : IoBlock lo hi s u :=
  ⟨h.rest.trans k.rest, h.regs.trans k.regs⟩

theorem IoBlock.foldl {α : Type} (f : State → α → State) (l : List α) (s : State) (h : ∀ x, ∀ a ∈ l, IoBlock lo hi x (f x a)) :
    IoBlock lo hi s (l.foldl f s) :=
  foldl_related (IoBlock lo hi) (.refl lo hi) .trans f l s h

theorem IoBlock.setReg (h : IoBlock lo hi s t) {a : Nat} (w : Word) (hb : lo ≤ a ∧ a < hi) : IoBlock lo hi s (t.setReg a w) :=
  h.trans ⟨rfl, (RegsWithin.refl lo hi t).setReg w hb⟩

theorem IoBlock.setRf (h : IoBlock lo hi s t) {a : Nat} (l n v : Nat) (hb : lo ≤ a ∧ a < hi) : IoBlock lo hi s (t.setRf a l n v) := h.setReg _ hb

theorem IoBlock.setBit (h : IoBlock lo hi s t) {a : Nat} (i : Nat) (b : Bool) (hb : lo ≤ a ∧ a < hi) : IoBlock lo hi s (t.setBit a i b) :=
  h.setReg _ hb

/-- A field of a register outside the block keeps its value. -/
theorem IoBlock.rf (h : IoBlock lo hi s t) {a : Nat} (l n : Nat) (ha : a < lo ∨ hi ≤ a) : t.rf a l n = s.rf a l n := by
  rw [State.rf, h.regs a ha]
  rfl

end

/-! ### Front end -/

theorem State.measureExc_ioBlock (s : State) {j : Nat} (hj : j < 8) : IoBlock 0xB0000 0xC0000 s (s.measureExc j) := by
  have ha : 0xB0000 ≤ excA j ∧ excA j < 0xC0000 := by simp only [excA, Reg.AFE_EXC]; omega
  have hdraw : IoBlock 0xB0000 0xC0000 s s.draw.2 := ⟨rfl, .refl _ _ s⟩
  unfold State.measureExc
  split
  · exact hdraw.setRf _ _ _ ha
  · exact (IoBlock.refl _ _ s).setRf _ _ _ ha

theorem State.afeInvalid_ioBlock (s : State) {k : Nat} (hk : k < 16) : IoBlock 0xB0000 0xC0000 s (s.afeInvalid k) := by
  have ha : 0xB0000 ≤ chstA k ∧ chstA k < 0xC0000 := by simp only [chstA, Reg.AFE_CHST]; omega
  have hslot (v : Word) (b : Byte) : IoBlock 0xB0000 0xC0000 s (s.putSlot k v b) := ⟨rfl, .refl _ _ s⟩
  exact (hslot _ _).setRf _ _ _ ha

theorem State.excAllOff_ioBlock (s : State) : IoBlock 0xB0000 0xC0000 s s.excAllOff := by
  have hoff : IoBlock 0xB0000 0xC0000 s { s with afe := { s.afe with excOff := BitVec.allOnes 8 } } := ⟨rfl, .refl _ _ s⟩
  refine (hoff.trans (IoBlock.foldl _ _ _ fun x j hj => x.measureExc_ioBlock (List.mem_range.mp hj))).trans (IoBlock.foldl _ _ _ fun x k hk => ?_)
  split
  · exact x.afeInvalid_ioBlock (List.mem_range.mp hk)
  · exact .refl _ _ x

/-! ### CAN -/

/-- The mode in effect of both controllers. -/
def State.canModes (s : State) : Nat × Nat := (s.can0.mode, s.can1.mode)

/-- Registers of controller 1 stand 0x10000 above those of controller 0. -/
theorem canReg_bounds {x a : Nat} (hx : x < 2) (ha : 0xD0000 ≤ a ∧ a < 0xE0000) : 0xD0000 ≤ a + 0x10000 * x ∧ a + 0x10000 * x < 0xF0000 := by
  omega

theorem canRxf1_bounds {x : Nat} (hx : x < 2) : 0xD0000 ≤ Reg.CAN_RXF_ST x + 0x100 ∧ Reg.CAN_RXF_ST x + 0x100 < 0xF0000 := by
  simp only [Reg.CAN_RXF_ST]
  omega

theorem ttA_bounds {x b : Nat} (hx : x < 2) (hb : b < 4) : 0xD0000 ≤ ttA x b ∧ ttA x b < 0xF0000 := by
  simp only [ttA, Reg.CAN_TT_CTL]
  omega

theorem State.showCan_ioBlock (s : State) {x : Nat} (hx : x < 2) : IoBlock 0xD0000 0xF0000 s (s.showCan x) := by
  unfold State.showCan
  extract_lets c s1 head
  have h1 : IoBlock 0xD0000 0xF0000 s s1 := ((IoBlock.refl _ _ s).setRf _ _ _ (canReg_bounds hx (by decide))).setRf _ _ _ (canRxf1_bounds hx)
  exact ((h1.setRf _ _ _ (canReg_bounds hx (by decide))).setBit _ _ (canReg_bounds hx (by decide))).setBit _ _ (canReg_bounds hx (by decide))

theorem State.setCan_ioBlock (s : State) (x : Nat) (c : Can) (lo hi : Nat) : IoBlock lo hi s (s.setCan x c) := by
  unfold State.setCan
  split <;> exact ⟨rfl, .refl _ _ s⟩

theorem State.canStop_ioBlock (s : State) {x : Nat} (hx : x < 2) : IoBlock 0xD0000 0xF0000 s (s.canStop x) := by
  unfold State.canStop
  extract_lets c s1 s2 s3
  have h1 : IoBlock 0xD0000 0xF0000 s s1 := s.setCan_ioBlock x _ _ _
  have h2 : IoBlock 0xD0000 0xF0000 s s2 :=
    h1.trans (IoBlock.foldl _ _ _ fun y b hb => (IoBlock.refl _ _ y).setRf _ _ _ (ttA_bounds hx (List.mem_range.mp hb)))
  have h3 : IoBlock 0xD0000 0xF0000 s s3 := (h2.setRf _ _ _ (canReg_bounds hx (by decide))).setBit _ _ (canReg_bounds hx (by decide))
  exact ((h3.setRf _ _ _ (canReg_bounds hx (by decide))).setRf _ _ _ (canRxf1_bounds hx)).trans (State.showCan_ioBlock _ hx)

@[simp] theorem State.canModes_setRf (s : State) (a l n v : Nat) : (s.setRf a l n v).canModes = s.canModes := rfl

@[simp] theorem State.canModes_setBit (s : State) (a i : Nat) (b : Bool) : (s.setBit a i b).canModes = s.canModes := rfl

@[simp] theorem State.canModes_showCan (s : State) (x : Nat) : (s.showCan x).canModes = s.canModes := by
  simp [State.showCan]

/-- A controller that stops stands in CONFIG; the other goes on. -/
theorem State.canStop_modes (s : State) (x : Nat) : (s.canStop x).canModes = if x = 0 then (0, s.can1.mode) else (s.can0.mode, 0) := by
  unfold State.canStop
  extract_lets c s1 s2 s3
  have h2 : s2.canModes = s1.canModes := foldl_keeps State.canModes _ _ _ fun x _ _ => x.canModes_setRf _ _ _ _
  have h3 : s3.canModes = s2.canModes := (State.canModes_setBit _ _ _ _).trans (s2.canModes_setRf _ _ _ _)
  rw [State.canModes_showCan, State.canModes_setRf, State.canModes_setRf, h3, h2]
  dsimp only [s1]
  unfold State.setCan
  split <;> rfl

/-! ### Fans -/

theorem fanReg_bounds {k : Nat} (hk : k < 16) : 0xC0000 ≤ fanReg k ∧ fanReg k < 0xD0000 := by
  simp only [fanReg, Reg.FAN_ST]
  omega

theorem State.putDuty_ioBlock (s : State) {k : Nat} (hk : k < 16) (d : Nat) (spd forced : Bool) : IoBlock 0xC0000 0xD0000 s (s.putDuty k d spd forced) := by
  have ha := fanReg_bounds hk
  exact (((IoBlock.refl _ _ s).setRf _ _ _ ha).setBit _ _ ha).setBit _ _ ha

theorem State.fanDuty_putDuty_same (s : State) (k d : Nat) (spd forced : Bool) : (s.putDuty k d spd forced).fanDuty k = d % 2 ^ 10 := by
  unfold State.putDuty State.fanDuty
  rw [State.setBit, State.rf_setRf_out _ _ _ _ _ _ _ (by decide) (by decide), State.setBit, State.rf_setRf_out _ _ _ _ _ _ _ (by decide) (by decide),
    State.rf_setRf_same _ _ _ _ _ (by decide)]

theorem State.fanDuty_putDuty_ne (s : State) {j k : Nat} (h : j ≠ k) (d : Nat) (spd forced : Bool) : (s.putDuty k d spd forced).fanDuty j = s.fanDuty j := by
  have hne : fanReg k ≠ fanReg j := by simp only [fanReg]; omega
  unfold State.putDuty State.fanDuty
  rw [State.setBit, State.rf_setRf_ne _ _ _ _ _ _ hne, State.setBit, State.rf_setRf_ne _ _ _ _ _ _ hne, State.rf_setRf_ne _ _ _ _ _ _ hne]

/-! ### All of them -/

/-- What the outputs come to at the last gasp. -/
structure GaspOutputs (s t : State) : Prop where
  sys : t.sys = { s.sys with boostOn := false }
  clk : t.clk = s.clk
  bus : t.bus = s.bus
  cmd : t.cmd = s.cmd
  cal : t.trn.cal = s.trn.cal
  pwrStat : t.reg Reg.PWR_STAT = s.reg Reg.PWR_STAT
  switches : t.switches = (0, 0, 0)
  loops : t.loop.todo = []
  analog : ∀ k < 8, t.rf (Reg.GIO_AO + 4 * k) 0 16 = 0
  fans : ∀ k < 16, t.fanDuty k = 0
  can : t.canModes = (0, 0)

theorem State.openAll_switches (s : State) : s.openAll.switches = (0, 0, 0) := by
  unfold State.openAll
  rfl

theorem State.canStop_both_modes (s : State) : ((s.canStop 0).canStop 1).canModes = (0, 0) := by
  have h0 := s.canStop_modes 0
  have h1 := (s.canStop 0).canStop_modes 1
  rw [h1, if_neg (by decide)]
  exact congrArg (fun m => (m.1, 0)) h0

/-- The high sides follow their conditions; nothing else changes. -/
theorem State.refreshHs_driveOnly (s : State) : DriveOnly s s.refreshHs := by
  unfold State.refreshHs
  extract_lets hs d
  exact rfl

theorem State.refreshHs_switches (s : State) : s.refreshHs.switches = s.switches := by
  unfold State.refreshHs
  extract_lets hs d
  exact rfl

theorem GaspOutputs.refreshHs {s t : State} (h : GaspOutputs s t) : GaspOutputs s t.refreshHs := by
  have hd := t.refreshHs_driveOnly
  have hsw := t.refreshHs_switches
  generalize t.refreshHs = u at hd hsw ⊢
  exact {
    sys := (congrArg State.sys hd :).trans h.sys
    clk := (congrArg State.clk hd :).trans h.clk
    bus := (congrArg State.bus hd :).trans h.bus
    cmd := (congrArg State.cmd hd :).trans h.cmd
    cal := (congrArg (fun x => x.trn.cal) hd :).trans h.cal
    pwrStat := (congrArg (fun x => x.reg Reg.PWR_STAT) hd :).trans h.pwrStat
    switches := hsw.trans h.switches
    loops := (congrArg (fun x => x.loop.todo) hd :).trans h.loops
    analog := fun k hk => (congrArg (fun x => x.rf (Reg.GIO_AO + 4 * k) 0 16) hd :).trans (h.analog k hk)
    fans := fun k hk => (congrArg (fun x => x.fanDuty k) hd :).trans (h.fans k hk)
    can := (congrArg State.canModes hd :).trans h.can }

theorem DriveOnly.boostStop {s t : State} (h : DriveOnly s t) : DriveOnly s.boostStop t.boostStop := by
  unfold DriveOnly at *
  rw [h]
  rfl

/-- The channels' part of the last gasp: every switch opens, every running shot is cut. -/
theorem State.cutAll_driveOnly (s : State) :
    DriveOnly s ((s.withholdAll false).openAll.trn.shots.foldl (fun x h => x.cutShot h false) (s.withholdAll false).openAll) :=
  ((s.withholdAll_driveOnly false).trans (State.openAll_driveOnly _)).trans (DriveOnly.foldl _ _ _ fun x h => x.cutShot_driveOnly h false)

theorem State.cutAll_switches (s : State) (l : List Shot) : (l.foldl (fun x h => x.cutShot h false) s.openAll).switches = (0, 0, 0) :=
  (foldl_keeps State.switches _ _ _ fun x h _ => x.cutShot_switches h false).trans s.openAll_switches

theorem State.zeroAnalog_ioBlock (s : State) :
    IoBlock 0x120000 0x130000 s ((List.range 8).foldl (fun x k => x.setRf (Reg.GIO_AO + 4 * k) 0 16 0) s.showDo) :=
  ((IoBlock.refl _ _ s).setReg _ (by decide)).trans (IoBlock.foldl _ _ _ fun x k hk => (IoBlock.refl _ _ x).setRf _ _ _ (by
    have := List.mem_range.mp hk
    simp only [Reg.GIO_AO]
    omega))

theorem State.zeroAnalog_rf (s : State) (k : Nat) (hk : k < 8) :
    ((List.range 8).foldl (fun x k => x.setRf (Reg.GIO_AO + 4 * k) 0 16 0) s).rf (Reg.GIO_AO + 4 * k) 0 16 = 0 :=
  foldl_range_forall _ (fun k x => x.rf (Reg.GIO_AO + 4 * k) 0 16 = 0) 8 s (fun x _ _ => x.rf_setRf_same _ _ _ _ (by decide))
    (fun x j k hne h => (State.rf_setRf_ne x _ _ _ _ _ (by omega)).trans h) k hk

theorem State.zeroFans_ioBlock (s : State) : IoBlock 0xC0000 0xD0000 s ((List.range 16).foldl (fun x k => x.putDuty k 0 false false) s) :=
  IoBlock.foldl _ _ _ fun x _ hk => x.putDuty_ioBlock (List.mem_range.mp hk) 0 false false

theorem State.zeroFans_fanDuty (s : State) (k : Nat) (hk : k < 16) : ((List.range 16).foldl (fun x k => x.putDuty k 0 false false) s).fanDuty k = 0 :=
  foldl_range_forall _ (fun k x => x.fanDuty k = 0) 16 s (fun x _ _ => x.fanDuty_putDuty_same _ 0 false false)
    (fun x _ _ hne h => (x.fanDuty_putDuty_ne hne 0 false false).trans h) k hk

/-- The parts of the last gasp's outputs, in their order: channels and shots, what waits in loops and outputs, analog outputs, fans, excitation, CAN. -/
theorem State.gaspOutputs_spec (s : State) : GaspOutputs s s.gaspOutputs := by
  unfold State.gaspOutputs
  extract_lets s1 s2 l g f s3 s4 s5
  have h2 : DriveOnly s.boostStop s2 := s.cutAll_driveOnly.boostStop
  have hstop (x : State) : x.boostStop.switches = x.switches := rfl
  have h2sw : s2.switches = (0, 0, 0) := (hstop _).trans (State.cutAll_switches _ _)
  clear_value s2
  have h3sw : (s3.drv.ls, s3.drv.fw, s3.drv.hb) = (0, 0, 0) := h2sw
  have h4 : IoBlock 0x120000 0x130000 s3 s4 := s3.zeroAnalog_ioBlock
  have hao : ∀ k < 8, s4.rf (Reg.GIO_AO + 4 * k) 0 16 = 0 := State.zeroAnalog_rf _
  clear_value s4
  have h5 : IoBlock 0xC0000 0xD0000 s4 s5 := s4.zeroFans_ioBlock
  have hfan : ∀ k < 16, s5.fanDuty k = 0 := s4.zeroFans_fanDuty
  clear_value s5
  have h6 := s5.excAllOff_ioBlock
  have hcan := s5.excAllOff.canStop_both_modes
  have h7 := (s5.excAllOff.canStop_ioBlock (x := 0) (by decide)).trans (State.canStop_ioBlock _ (x := 1) (by decide))
  generalize s5.excAllOff = s6 at h6 hcan h7 ⊢
  generalize (s6.canStop 0).canStop 1 = s7 at hcan h7 ⊢
  have hrest : IoOnly s3 s7 := ((h4.rest.trans h5.rest).trans h6.rest).trans h7.rest
  have hpwr : s7.reg Reg.PWR_STAT = s3.reg Reg.PWR_STAT :=
    ((h7.regs Reg.PWR_STAT (by decide)).trans (h6.regs Reg.PWR_STAT (by decide))).trans ((h5.regs Reg.PWR_STAT (by decide)).trans (h4.regs Reg.PWR_STAT (by decide)))
  have hfan7 (k : Nat) (hk : k < 16) : s7.fanDuty k = s5.fanDuty k := by
    have hb := fanReg_bounds hk
    exact (h7.rf 8 10 (by omega)).trans (h6.rf 8 10 (by omega))
  have hao7 (k : Nat) (hk : k < 8) : s7.rf (Reg.GIO_AO + 4 * k) 0 16 = s4.rf (Reg.GIO_AO + 4 * k) 0 16 := by
    have hb : 0x120000 ≤ Reg.GIO_AO + 4 * k := by simp only [Reg.GIO_AO]; omega
    exact ((h7.rf 0 16 (by omega)).trans (h6.rf 0 16 (by omega))).trans (h5.rf 0 16 (by omega))
  refine GaspOutputs.refreshHs {
    sys := (congrArg State.sys hrest :).trans (congrArg State.sys h2 :)
    clk := (congrArg State.clk hrest :).trans (congrArg State.clk h2 :)
    bus := (congrArg State.bus hrest :).trans (congrArg State.bus h2 :)
    cmd := (congrArg State.cmd hrest :).trans (congrArg State.cmd h2 :)
    cal := (congrArg (fun x => x.trn.cal) hrest :).trans (congrArg (fun x => x.trn.cal) h2 :)
    pwrStat := hpwr.trans (congrArg (fun x => x.reg Reg.PWR_STAT) h2 :)
    switches := (congrArg (fun x => (x.drv.ls, x.drv.fw, x.drv.hb)) hrest :).trans h3sw
    loops := (congrArg (fun x => x.loop.todo) hrest :)
    analog := fun k hk => (hao7 k hk).trans (hao k hk)
    fans := fun k hk => (hfan7 k hk).trans (hfan k hk)
    can := hcan }

end Sys2Proof.Machine
end

section
/-! SUPPORT. The host watchdog (18 R367), the end of DRAINING's 20 ms (18 R364), supplies (18 R355 to R357) and live removal (18 R370). -/

namespace Sys2Proof.Machine

/-! ### What the delivery of events leaves of SYS_STATUS -/

theorem State.toRecorder_status (s : State) (e : Event) : (s.toRecorder e).reg Reg.SYS_STATUS = s.reg Reg.SYS_STATUS := by
  unfold State.toRecorder
  split
  · rfl
  · extract_lets s1 r
    show s1.reg Reg.SYS_STATUS = s.reg Reg.SYS_STATUS
    exact (State.reg_setBit_ne _ _ _ (by decide)).trans (s.reg_count_ne (by decide))

theorem State.toFrames_status (s : State) (e : Event) : (s.toFrames e).reg Reg.SYS_STATUS = s.reg Reg.SYS_STATUS := by
  unfold State.toFrames
  split
  · rfl
  · exact (State.reg_episode _ _ _ _ _ _).trans (s.reg_count_ne (by decide))

/-- Handing an event on writes ATTN alone of SYS_STATUS (18 R373). -/
theorem State.carry_status (s : State) (e : Event) {i : Nat} (hi : i ≠ 2) : (s.carry e).bit Reg.SYS_STATUS i = s.bit Reg.SYS_STATUS i := by
  unfold State.carry
  extract_lets n s1 first sh s2
  have h1 : s1.bit Reg.SYS_STATUS i = s.bit Reg.SYS_STATUS i := congrArg (bitOf · i) (State.toFrames_status _ e)
  have h2 : s2.bit Reg.SYS_STATUS i = s.bit Reg.SYS_STATUS i := by
    dsimp only [s2]
    split
    · exact h1
    · exact h1
  split
  · exact (s2.bit_setBit_other _ _ _ _ (by decide) hi.symm).trans h2
  · exact h2

theorem State.queueLost_status (s : State) {i : Nat} (hi : i ≠ 2) : s.queueLost.bit Reg.SYS_STATUS i = s.bit Reg.SYS_STATUS i := by
  unfold State.queueLost
  split
  · extract_lets e s1 r
    show bitOf (s1.reg Reg.SYS_STATUS) i = _
    exact (congrArg (bitOf · i) (State.reg_setBit_ne _ _ _ (by decide))).trans (s.carry_status _ hi)
  · rfl

theorem State.deliver_status (s : State) (e : Event) {i : Nat} (hi : i ≠ 2) : (s.deliver e).bit Reg.SYS_STATUS i = s.bit Reg.SYS_STATUS i :=
  ((State.carry_status _ _ hi).trans (congrArg (bitOf · i) (State.toRecorder_status _ _))).trans (s.queueLost_status hi)

theorem State.flush_status (s : State) {i : Nat} (hi : i ≠ 2) : s.flush.bit Reg.SYS_STATUS i = s.bit Reg.SYS_STATUS i :=
  foldl_keeps (State.bit · Reg.SYS_STATUS i) _ _ _ fun x e _ => x.deliver_status e hi

/-! ### The host watchdog -/

@[simp] theorem State.fc_setFc_same (s : State) (k : Nat) (c : FanCtx) : (s.setFc k c).fc k = c := storeGet_set_same _ _ _ _

theorem State.fc_setFc_ne (s : State) {j k : Nat} (c : FanCtx) (h : j ≠ k) : (s.setFc j c).fc k = s.fc k := storeGet_set_ne _ _ _ h

/-- `t` is `s` but for the fans' contexts. -/
def FansOnly (s t : State) : Prop := t = { s with fan := { s.fan with fans := t.fan.fans } }

theorem FansOnly.trans {s t u : State} (h : FansOnly s t) (k : FansOnly t u) : FansOnly s u := by
  unfold FansOnly at *
  exact k.trans (by rw [h])

/-- The expiry holds every fan's duty. -/
def holdDuties (s : State) : State := (List.range 16).foldl (fun x k => x.setFc k { x.fc k with held := x.fanDuty k }) s

theorem holdDuties_fansOnly (s : State) : FansOnly s (holdDuties s) :=
  foldl_related FansOnly (fun _ => rfl) .trans _ _ s fun _ _ _ => rfl

theorem holdDuties_reg (s : State) (a : Nat) : (holdDuties s).reg a = s.reg a := foldl_keeps (State.reg · a) _ _ s fun _ _ _ => rfl

theorem holdDuties_held (s : State) (k : Nat) (hk : k < 16) : ((holdDuties s).fc k).held = s.fanDuty k := by
  have hfold : ((holdDuties s).fc k).held = (holdDuties s).fanDuty k :=
    foldl_range_forall _ (fun k x => (x.fc k).held = x.fanDuty k) 16 s (fun x k _ => congrArg FanCtx.held (x.fc_setFc_same k _))
      (fun x _ _ hne h => (congrArg FanCtx.held (x.fc_setFc_ne _ hne.symm)).trans h) k hk
  exact hfold.trans (congrArg (fld · 8 10) (holdDuties_reg s (fanReg k)))

/-- What the expiry of the host watchdog does to fans (12 R298; 18 R367). -/
structure WdogFans (s t : State) : Prop where
  power : KeepsPower s t
  clk : t.clk = s.clk
  bus : KeepsBus s t
  raised : Raised t 0x0C09
  shown : t.bit Reg.FAN_STAT 0 = true
  held : ∀ k < 16, (t.fc k).held = s.fanDuty k
  regs : ∀ a, a ≠ Reg.FAN_STAT → t.reg a = s.reg a

theorem State.fanWdog_expired (s : State) : WdogFans s (s.fanWdog true) := by
  unfold State.fanWdog
  extract_lets s1 s2
  rw [if_pos rfl]
  have h2 : OnlyRegs s s2 := (onlyRegs_raise s _ _).trans ((onlyRegs_setReg s1 _ _).trans (onlyRegs_setReg _ _ _))
  have hregs (a : Nat) (ha : a ≠ Reg.FAN_STAT) : s2.reg a = s.reg a := (State.reg_setBit_ne _ _ _ ha.symm).trans (State.reg_setBit_ne _ _ _ ha.symm)
  have hbit : s2.bit Reg.FAN_STAT 0 = true := (State.bit_setBit_other _ _ _ _ _ (by decide) (by decide)).trans (State.bit_setBit_same _ _ _ _ (by decide))
  have hraised : Raised s2 0x0C09 := s.raised_raise 0x0C09 _
  have hbus : KeepsBus s s2 := s.raise_keepsBus _ _
  have hf := holdDuties_fansOnly s2
  have hheld := holdDuties_held s2
  have hreg := holdDuties_reg s2
  show WdogFans s (holdDuties s2)
  clear_value s2
  have hb2 : KeepsBus s2 (holdDuties s2) := keepsBus_of_eq (congrArg State.bus hf :)
  have hclk : (holdDuties s2).clk = s2.clk := (congrArg State.clk hf :)
  exact {
    power := h2.keepsPower.trans ⟨(congrArg State.sys hf :), (congrArg State.drv hf :)⟩
    clk := hclk.trans (congrArg State.clk h2 :)
    bus := hbus.trans hb2
    raised := hraised.keep hb2 hclk
    shown := (congrArg (bitOf · 0) (hreg _)).trans hbit
    held := fun k hk => (hheld k hk).trans (congrArg (fld · 8 10) (hregs _ (by simp only [fanReg, Reg.FAN_ST, Reg.FAN_STAT]; omega)))
    regs := fun a ha => (hreg a).trans (hregs a ha) }

/-- The expiry before its effect on fans: the tick it comes on, WDOG and its event. -/
def State.wdogMark (s : State) (k : Nat) : State :=
  ((s.reachTick (k + s.wdogTicks)).setBit Reg.SYS_STATUS 1 true).raise 0x0003 (by1 1 ++ by2 (s.rf Reg.SYS_WDOG 0 16))

theorem State.wdogExpire_eq (s : State) (k : Nat) (hk : s.sys.wdogLast = some k) (hen : s.bit Reg.SYS_WDOG 16 = true)
    (hon : s.bit Reg.SYS_STATUS 1 = false) : s.wdogExpire = (s.wdogMark k).fanWdog true := by
  unfold State.wdogExpire
  rw [hk]
  exact if_pos ⟨hen, hon⟩

/-- What shows on the tick of an expiry whose count began on tick `k`: WDOG and its event (18 R367). -/
structure WdogMarks (k : Nat) (s t : State) : Prop where
  power : KeepsPower s t
  now : t.clk.now = max s.clk.now (k + 25000000 * s.rf Reg.SYS_WDOG 0 16)
  shown : t.bit Reg.SYS_STATUS 1 = true
  raised : Raised t 0x0003
  regs : ∀ a, a ≠ Reg.SYS_STATUS → t.reg a = s.reg a

theorem State.wdogMark_marks (s : State) (k : Nat) : WdogMarks k s (s.wdogMark k) where
  power := ⟨rfl, rfl⟩
  now := by
    show s.clk.now + (k + 250000 * (100 * s.rf Reg.SYS_WDOG 0 16) - s.clk.now) = _
    omega
  shown := (s.reachTick (k + s.wdogTicks)).bit_setBit_same Reg.SYS_STATUS 1 true (by decide)
  raised := State.raised_raise _ _ _
  regs := fun _ ha => (s.reachTick (k + s.wdogTicks)).reg_setBit_ne 1 true ha.symm

/-! ### The release that ends DRAINING's shots -/

/-- Whether a shot conducts: it is in boost, peak or hold. -/
def shotConducts (h : Shot) : Prop := h.phase = .boost ∨ h.phase = .peak ∨ h.phase = .hold

/-- `t` is `s` but for registers and the drive. -/
def SwitchOnly (s t : State) : Prop := t = { s with regs := t.regs, drv := t.drv }

theorem SwitchOnly.trans {s t u : State} (h : SwitchOnly s t) (k : SwitchOnly t u) : SwitchOnly s u := by
  unfold SwitchOnly at *
  exact k.trans (by rw [h])

theorem State.dropHb_switchOnly (s : State) (v : Nat) : SwitchOnly s (s.dropHb v) := by
  unfold State.dropHb
  split <;> exact rfl

theorem State.fastDecay_switchOnly (s : State) (v : Nat) : SwitchOnly s (s.fastDecay v) := by
  have hclamp (q : Nat) : SwitchOnly s (s.clampLs v q) := rfl
  have hcount (x : State) (a : Nat) : SwitchOnly x (x.count a) := rfl
  unfold State.fastDecay
  split
  · exact (hclamp _).trans (hcount _ _)
  · exact rfl

theorem State.relSwitches_switchOnly (s : State) (v : Nat) (p : List Byte) : SwitchOnly s (s.relSwitches v p) := by
  unfold State.relSwitches
  split
  · exact rfl
  · split
    · exact s.fastDecay_switchOnly v
    · split <;> exact rfl

/-- A shot's release leaves the device state, the clock and the events alone, and the shot no longer conducts. -/
structure Releases (id : Nat) (s t : State) : Prop where
  sys : t.sys = s.sys
  clk : t.clk = s.clk
  shots : ∀ g ∈ t.trn.shots, shotConducts g → g ∈ s.trn.shots ∧ g.id ≠ id

/-- Of shots where one has been replaced by a shot that does not conduct, each that conducts stood there before and is another. -/
theorem conducting_of_mem_map {l : List Shot} {h g : Shot} (hh : ¬ shotConducts h) (hg : g ∈ l.map fun x => if x.id = h.id then h else x)
    (hc : shotConducts g) : g ∈ l ∧ g.id ≠ h.id := by
  obtain ⟨x, hx, rfl⟩ := List.mem_map.mp hg
  by_cases hid : x.id = h.id
  · rw [if_pos hid] at hc
    exact absurd hc hh
  · rw [if_neg hid] at hc ⊢
    exact ⟨hx, hid⟩

theorem State.retire_releases (s : State) (h : Shot) : Releases h.id s (s.retire h) := by
  unfold State.retire
  extract_lets s1
  split
  · exact ⟨rfl, rfl, fun g hg _ => by
      obtain ⟨hmem, hid⟩ := List.mem_filter.mp hg
      exact ⟨hmem, by simpa using hid⟩⟩
  · exact ⟨rfl, rfl, fun g hg hc => conducting_of_mem_map (h := { h with phase := .done }) (by simp [shotConducts]) hg hc⟩

theorem State.beginRelease_releases (s : State) (h : Shot) : Releases h.id s (s.beginRelease h) := by
  unfold State.beginRelease
  extract_lets v h1 s1 absorbed
  split
  · have hr := State.retire_releases { s with drv := { s.drv with strobe := bvPut s.drv.strobe (bankOf h1.req.valve) false } } h1
    exact ⟨hr.sys, hr.clk, hr.shots⟩
  · have hs : SwitchOnly s (s1.relSwitches v h.executed) := (s.dropHb_switchOnly v).trans (s1.relSwitches_switchOnly v _)
    generalize s1.relSwitches v h.executed = s2 at hs ⊢
    refine ⟨(congrArg State.sys hs :), (congrArg State.clk hs :), fun g hg hc => ?_⟩
    rw [← (congrArg (fun x => x.trn.shots) hs :)]
    exact conducting_of_mem_map (h := { h1 with dflags := orIf h1.dflags 4 absorbed }) (by simp [shotConducts, h1]) hg hc

/-- One shot's part of the timeout: where it conducts, its release begins, with TRUNC. -/
def truncShot (x : State) (h : Shot) : State :=
  if h.phase = .boost ∨ h.phase = .peak ∨ h.phase = .hold then
    x.beginRelease { h with relAt := some (max h.openAt (x.ntNs : Int)), pflags := orIf h.pflags pTRUNC true }
  else x

theorem truncShot_releases (x : State) (h : Shot) (hc : shotConducts h) : Releases h.id x (truncShot x h) := by
  unfold truncShot
  split
  next => exact x.beginRelease_releases { h with relAt := some (max h.openAt (x.ntNs : Int)), pflags := orIf h.pflags pTRUNC true }
  next hn => exact absurd hc hn

/-- The timeout leaves of the conducting shots those that none of the list names. -/
structure Truncates (l : List Shot) (s t : State) : Prop where
  sys : t.sys = s.sys
  clk : t.clk = s.clk
  shots : ∀ g ∈ t.trn.shots, shotConducts g → g ∈ s.trn.shots ∧ ∀ h ∈ l, shotConducts h → g.id ≠ h.id

theorem truncShots_truncates (l : List Shot) (s : State) : Truncates l s (l.foldl truncShot s) := by
  induction l generalizing s with
  | nil => exact ⟨rfl, rfl, fun g hg _ => ⟨hg, fun h hh => absurd hh List.not_mem_nil⟩⟩
  | cons h l ih =>
    have hl := ih (truncShot s h)
    by_cases hc : shotConducts h
    · have hr := truncShot_releases s h hc
      refine ⟨hl.sys.trans hr.sys, hl.clk.trans hr.clk, fun g hg hgc => ?_⟩
      obtain ⟨hmem, hne⟩ := hl.shots g hg hgc
      obtain ⟨hmem', hid⟩ := hr.shots g hmem hgc
      exact ⟨hmem', List.forall_mem_cons.mpr ⟨fun _ => hid, hne⟩⟩
    · have hskip : truncShot s h = s := if_neg hc
      rw [hskip] at hl
      rw [List.foldl_cons, hskip]
      refine ⟨hl.sys, hl.clk, fun g hg hgc => ?_⟩
      obtain ⟨hmem, hne⟩ := hl.shots g hg hgc
      exact ⟨hmem, List.forall_mem_cons.mpr ⟨fun h' => absurd h' hc, hne⟩⟩

/-- After the timeout over all its shots nothing conducts. -/
theorem truncShots_none (s : State) (g : Shot) (hg : g ∈ (s.trn.shots.foldl truncShot s).trn.shots) : ¬ shotConducts g := fun hc => by
  obtain ⟨hmem, hne⟩ := (truncShots_truncates s.trn.shots s).shots g hg hc
  exact hne g hmem hc rfl

theorem State.drainTimeout_eq (s : State) (k : Nat) (hk : s.sys.drainTick = some k) (hdev : s.sys.dev = .draining) (hcode : s.sys.drainCode ≠ 22) :
    s.drainTimeout = (s.reachTick (k + msTicks 20)).trn.shots.foldl truncShot (s.reachTick (k + msTicks 20)) := by
  unfold State.drainTimeout
  rw [hk]
  exact if_pos ⟨hdev, hcode⟩

/-! ### Supplies -/

/-- What the monitors hold after a measurement: the two supplies, HLDOK and the slots 80 and 94 (18 R357; 01 R17). -/
structure Measures (vsup vhld : Nat) (s t : State) : Prop where
  sys : t.sys = { s.sys with vsup := min 65535 vsup, vhld := min 65535 vhld }
  rest : t = { s with regs := t.regs, sys := t.sys, fabric := t.fabric }
  hldok : t.bit Reg.PWR_STAT 1 = decide (2800 ≤ min 65535 vhld)
  bits : ∀ i ≠ 1, t.bit Reg.PWR_STAT i = s.bit Reg.PWR_STAT i
  slot80 : t.slot 80 = ⟨0, w32i (divRound ((min 65535 vsup : Nat) * 65536 : Int) 100)⟩
  slot94 : t.slot 94 = ⟨0, w32i (divRound ((min 65535 vhld : Nat) * 65536 : Int) 100)⟩
  slots : ∀ n, n ≠ 80 → n ≠ 94 → t.slot n = s.slot n
  regs : ∀ a, a ≠ Reg.PWR_STAT → t.reg a = s.reg a

theorem State.setSupply_measures (s : State) (vsup vhld : Nat) : Measures vsup vhld s (s.setSupply vsup vhld) := by
  unfold State.setSupply
  extract_lets a b y s1 s2
  have hreg (r : Nat) : ((s2.putVal 80 (divRound ((a : Int) * 65536) 100)).putVal 94 (divRound ((b : Int) * 65536) 100)).reg r = s2.reg r :=
    (State.reg_putSlot _ _ _ _ _).trans (s2.reg_putSlot _ _ _ _)
  have hs1 (r : Nat) : s1.reg r = s.reg r := rfl
  have hs2 (n : Nat) : s2.slot n = s.slot n := rfl
  exact {
    sys := rfl
    rest := rfl
    hldok := (congrArg (bitOf · 1) (hreg _)).trans (s1.bit_setBit_same _ _ _ (by decide))
    bits := fun i hi => (congrArg (bitOf · i) (hreg _)).trans ((s1.bit_setBit_other _ _ _ _ (by decide) hi.symm).trans (congrArg (bitOf · i) (hs1 _)))
    slot80 := (State.slot_putSlot_ne _ _ _ (by decide)).trans (s2.slot_putSlot_same _ _ _)
    slot94 := State.slot_putSlot_same _ _ _ _
    slots := fun n h80 h94 => ((State.slot_putSlot_ne _ _ _ h94.symm).trans (s2.slot_putSlot_ne _ _ h80.symm)).trans (hs2 n)
    regs := fun a ha => (hreg a).trans ((s1.reg_setBit_ne _ _ ha.symm).trans (hs1 a)) }

/-- A measurement changes no bank's role. -/
theorem Measures.bankRole {vsup vhld : Nat} {s t : State} (h : Measures vsup vhld s t) (b : Nat) : t.bankRole b = s.bankRole b := by
  have himg : t.img = s.img := (congrArg State.img h.rest :)
  simp [State.bankRole, State.bankByte, State.sx, State.sect, himg]

/-! ### The boost controller -/

/-- The boost controller's start moves nothing but the device state, and of that nothing but the boost controller's. -/
theorem State.boostStartUp_eq (s : State) :
    s.boostStartUp = { s with sys := { s.sys with boostOn := s.boostStartUp.sys.boostOn, boostStart := s.boostStartUp.sys.boostStart } } := by
  unfold State.boostStartUp
  split <;> rfl

/-- With a bank of role 1 and nothing to hold it stopped the boost controller starts on the present tick. -/
theorem State.boostStartUp_starts (s : State) (hrole : ∃ b < 12, s.bankRole b = 1) (hsafe : s.sys.dev ≠ .safe) (hboot : s.sys.dev ≠ .boot)
    (hov : s.bit Reg.PWR_STAT 3 = false) (hov1 : s.bit Reg.PRF_VFLT 0 = false) (hgasp : s.sys.gaspDone = false) :
    s.boostStartUp.sys = { s.sys with boostOn := true, boostStart := s.clk.now } := by
  obtain ⟨b, hb, hrole⟩ := hrole
  have hany : ((List.range 12).any fun b => s.bankRole b == 1) = true := List.any_eq_true.mpr ⟨b, List.mem_range.mpr hb, by simp [hrole]⟩
  unfold State.boostStartUp
  rw [if_pos (by simp [hany, hsafe, hboot, hov, hov1, hgasp])]

/-- What the end of an overvoltage leaves: VSUPOV cleared, the device state kept, and the boost controller started where nothing else holds it stopped (18 R356). -/
structure OvEnds (s t : State) : Prop where
  clk : t.clk = s.clk
  shown : t.bit Reg.PWR_STAT 3 = false
  dev : t.sys.dev = s.sys.dev
  starts : (∃ b < 12, s.bankRole b = 1) → s.sys.dev ≠ .safe → s.sys.dev ≠ .boot → s.bit Reg.PRF_VFLT 0 = false → s.sys.gaspDone = false →
    t.sys.boostOn = true ∧ t.sys.boostStart = s.clk.now

theorem Measures.ovEnds {vsup vhld : Nat} {s x : State} (h : Measures vsup vhld s x) : OvEnds s (x.setBit Reg.PWR_STAT 3 false).boostStartUp := by
  have hclk : (x.setBit Reg.PWR_STAT 3 false).clk = s.clk := (congrArg State.clk h.rest :)
  have hsys : (x.setBit Reg.PWR_STAT 3 false).sys = { s.sys with vsup := min 65535 vsup, vhld := min 65535 vhld } := h.sys
  have hrole (b : Nat) : (x.setBit Reg.PWR_STAT 3 false).bankRole b = s.bankRole b := h.bankRole b
  have hshown : (x.setBit Reg.PWR_STAT 3 false).bit Reg.PWR_STAT 3 = false := x.bit_setBit_same _ _ _ (by decide)
  have hvflt : (x.setBit Reg.PWR_STAT 3 false).bit Reg.PRF_VFLT 0 = s.bit Reg.PRF_VFLT 0 :=
    (x.bit_setBit_ne _ _ _ (by decide)).trans (congrArg (bitOf · 0) (h.regs _ (by decide)))
  generalize x.setBit Reg.PWR_STAT 3 false = y at hclk hsys hrole hshown hvflt ⊢
  have heq := y.boostStartUp_eq
  have hstart := y.boostStartUp_starts
  generalize y.boostStartUp = z at heq hstart ⊢
  refine ⟨(congrArg State.clk heq :).trans hclk, ?_, ?_, fun hr hsafe hboot hov1 hgasp => ?_⟩
  · rw [heq]
    exact hshown
  · rw [heq]
    show y.sys.dev = _
    rw [hsys]
  · rw [hstart (by simpa [hrole] using hr) (by rwa [hsys]) (by rwa [hsys]) hshown (hvflt.trans hov1) (by rwa [hsys]), hclk]
    exact ⟨rfl, rfl⟩

end Sys2Proof.Machine
end

section
/-! SUPPORT. Power failure and the start of the last gasp (18 R365, R368). -/

namespace Sys2Proof.Machine

/-- What the notice of a power failure leaves before any state is entered (18 R368). -/
structure Notices (vsup vhld : Nat) (s t : State) : Prop where
  sys : t.sys = { s.sys with vsup := min 65535 vsup, vhld := min 65535 vhld }
  drv : t.drv = s.drv
  clk : t.clk = s.clk
  shown : t.bit Reg.PWR_STAT 2 = true
  raised : Raised t 0x1101

theorem Measures.notices {s s1 : State} {vsup vhld : Nat} (h : Measures vsup vhld s s1) (args : List Byte) :
    Notices vsup vhld s (((s1.setBit Reg.PWR_STAT 2 true).raise 0x1101 args).closeAllEps) where
  sys := (State.closeAllEps_sys _).trans h.sys
  drv := (State.closeAllEps_drv _).trans (congrArg State.drv h.rest :)
  clk := (State.closeAllEps_clk _).trans (congrArg State.clk h.rest :)
  shown := (congrArg (bitOf · 2) (State.closeAllEps_reg _ _)).trans (s1.bit_setBit_same _ _ _ (by decide))
  raised := (State.raised_raise _ _ _).keep (State.closeAllEps_keepsBus _) (State.closeAllEps_clk _)

/-- DRAINING as a power failure leaves it: entered with code 22, or kept where it was DRAINING (18 R362, R368). -/
structure FailDrains (s t : State) : Prop where
  dev : t.sys.dev = .draining
  fail : t.sys.gaspFail = s.sys.gaspFail
  used : t.sys.gaspUsed = s.sys.gaspUsed
  vhld : t.sys.vhld = s.sys.vhld
  clk : t.clk = s.clk
  bus : KeepsBus s t
  pwrStat : t.reg Reg.PWR_STAT = s.reg Reg.PWR_STAT
  entered : s.sys.dev ≠ .draining → t.cmd.queue = [] ∧ t.trn.cal = [] ∧ t.sys.cause = 22

/-- A power failure enters DRAINING where the device does not stand in it. -/
def State.failDrain (s : State) : State := if s.sys.dev = .draining then s else s.toDraining 22

theorem State.failDrain_drains (s : State) : FailDrains s s.failDrain := by
  unfold State.failDrain
  split
  next hd => exact ⟨hd, rfl, rfl, rfl, rfl, .refl _, rfl, fun h => absurd hd h⟩
  next hd =>
    have he := s.toDraining_enters 22
    generalize s.toDraining 22 = t at he ⊢
    exact {
      dev := by rw [he.sys]
      fail := by rw [he.sys]
      used := by rw [he.sys]
      vhld := by rw [he.sys]
      clk := he.clk
      bus := he.bus
      pwrStat := he.pwrStat
      entered := fun _ => ⟨he.queue, he.cal, by rw [he.sys]⟩ }

/-- The last gasp starts: it is used up for this power cycle, holds cause, state and VHLD for its record, and every output has its value (16 R341, R344; 18 R365). -/
structure GaspStarts (cause : Nat) (s t : State) : Prop where
  sys : t.sys = { s.sys with gaspUsed := true, gaspDone := true, gaspRun := some (cause, s.sys.dev.num, s.sys.vhld), boostOn := false }
  outputs : GaspOutputs { s with sys := { s.sys with gaspUsed := true, gaspDone := true, gaspRun := some (cause, s.sys.dev.num, s.sys.vhld) } } t

theorem State.gaspStart_starts (s : State) (cause : Nat) : GaspStarts cause s (s.gaspStart cause) := by
  unfold State.gaspStart
  extract_lets st y
  have h := State.gaspOutputs_spec { s with sys := { s.sys with gaspUsed := true, gaspDone := true, gaspRun := some (cause, s.sys.dev.num, s.sys.vhld) } }
  exact ⟨h.sys, h⟩

/-- What a power failure outside BOOT leaves where the last gasp has not yet been used (18 R364, R365, R368). -/
structure PowerFails (vhld : Nat) (s t : State) : Prop where
  dev : t.sys.dev = .draining
  fail : t.sys.gaspFail = true
  used : t.sys.gaspUsed = true
  done : t.sys.gaspDone = true
  run : t.sys.gaspRun = some (0, s.sys.dev.num, min 65535 vhld)
  boost : t.sys.boostOn = false
  clk : t.clk = s.clk
  shown : t.bit Reg.PWR_STAT 2 = true
  raised : Raised t 0x1101
  switches : t.switches = (0, 0, 0)
  loops : t.loop.todo = []
  analog : ∀ k < 8, t.rf (Reg.GIO_AO + 4 * k) 0 16 = 0
  fans : ∀ k < 16, t.fanDuty k = 0
  can : t.canModes = (0, 0)
  entered : s.sys.dev ≠ .draining → t.cmd.queue = [] ∧ t.trn.cal = [] ∧ t.sys.cause = 22

/-- A power failure is noted for the brown-out reset (18 R359). -/
def State.withFail (s : State) : State := { s with sys := { s.sys with gaspFail := true } }

/-- The record of a power failure's last gasp names the state before the failure (16 R344). -/
def State.noteGasp (s : State) (st : Nat) : State := { s with sys := { s.sys with gaspRun := some (0, st, s.sys.vhld) } }

/-- The power failure by its parts: the supplies, the notice, and outside BOOT DRAINING and the last gasp. -/
theorem State.pwrFail_eq (s : State) (vsup vhld : Nat) : s.pwrFail vsup vhld =
    let s1 := s.setSupply vsup vhld
    if s.pfThr ≤ vsup then s1
    else
      let s2 := ((s1.setBit Reg.PWR_STAT 2 true).raise 0x1101 (by2 vsup ++ by2 vhld)).closeAllEps
      if s.sys.dev = .boot then s2
      else
        let s3 := s2.withFail
        let st := s3.sys.dev.num
        let s4 := s3.failDrain
        if s4.sys.gaspUsed then s4 else (s4.gaspStart 0).noteGasp st := by
  unfold State.pwrFail State.withFail State.failDrain State.noteGasp
  rfl

theorem Notices.withFail {s s0 : State} {vsup vhld : Nat} (h : Notices vsup vhld s0 s) : Notices vsup vhld s0.withFail s.withFail where
  sys := congrArg (fun x => ({ x with gaspFail := true } : Sys)) h.sys
  drv := h.drv
  clk := h.clk
  shown := h.shown
  raised := h.raised

/-- The notice, DRAINING and the start of the last gasp, one after the other. -/
theorem GaspStarts.powerFails {s0 s1 s2 s3 : State} {vsup vhld : Nat} (hg : GaspStarts 0 s2 s3) (hd : FailDrains s1 s2)
    (h1 : Notices vsup vhld s0.withFail s1) : PowerFails vhld s0 (s3.noteGasp s0.sys.dev.num) where
  dev := (congrArg Sys.dev hg.sys).trans hd.dev
  fail := ((congrArg Sys.gaspFail hg.sys).trans hd.fail).trans (congrArg Sys.gaspFail h1.sys)
  used := congrArg Sys.gaspUsed hg.sys
  done := congrArg Sys.gaspDone hg.sys
  run := by
    have hv : s3.sys.vhld = min 65535 vhld := ((congrArg Sys.vhld hg.sys).trans hd.vhld).trans (congrArg Sys.vhld h1.sys)
    show some (0, s0.sys.dev.num, s3.sys.vhld) = _
    rw [hv]
  boost := congrArg Sys.boostOn hg.sys
  clk := (hg.outputs.clk.trans hd.clk).trans h1.clk
  shown := ((congrArg (bitOf · 2) hg.outputs.pwrStat).trans (congrArg (bitOf · 2) hd.pwrStat)).trans h1.shown
  raised := (h1.raised.keep hd.bus hd.clk).keep (keepsBus_of_eq hg.outputs.bus) hg.outputs.clk
  switches := hg.outputs.switches
  loops := hg.outputs.loops
  analog := hg.outputs.analog
  fans := hg.outputs.fans
  can := hg.outputs.can
  entered := fun h => by
    obtain ⟨hq, hcal, hcause⟩ := hd.entered (by rw [h1.sys]; exact h)
    exact ⟨(congrArg CmdState.queue hg.outputs.cmd).trans hq, hg.outputs.cal.trans hcal, (congrArg Sys.cause hg.sys).trans hcause⟩

theorem State.pwrFail_fails (s : State) (vsup vhld : Nat) (hv : vsup < s.pfThr) (hboot : s.sys.dev ≠ .boot) (hused : s.sys.gaspUsed = false) :
    PowerFails vhld s (s.pwrFail vsup vhld) := by
  have hn := ((s.setSupply_measures vsup vhld).notices (by2 vsup ++ by2 vhld)).withFail
  rw [State.pwrFail_eq]
  extract_lets s1 s2 s3 st s4
  have hd := s3.failDrain_drains
  have hst : st = s.sys.dev.num := congrArg (fun x => x.dev.num) hn.sys
  have hfree : ¬ s4.sys.gaspUsed = true := by
    rw [hd.used, hn.sys]
    exact Bool.eq_false_iff.mp hused
  rw [if_neg (Nat.not_le.mpr hv), if_neg hboot, if_neg hfree, hst]
  exact (s4.gaspStart_starts 0).powerFails hd hn

/-! ### Live removal (18 R370) -/

/-- EJECT_REQ_N as the request shows it, before it is served. -/
def State.ejectPin (s : State) (low : Bool) : State :=
  ({ s with sys := { s.sys with ejLow := low, ejServed := if low then s.sys.ejServed else false
                                ejRise := if low then s.sys.ejRise else s.clk.now } }).setBit Reg.PWR_STAT 4 low

theorem State.pwrEject_eq (s : State) (low : Bool) : s.pwrEject low = (s.ejectPin low).serveEject := rfl

theorem State.ejectPin_shown (s : State) (low : Bool) : (s.ejectPin low).bit Reg.PWR_STAT 4 = low := State.bit_setBit_same _ _ _ _ (by decide)

theorem State.ejectPin_reg (s : State) (low : Bool) {a : Nat} (h : a ≠ Reg.PWR_STAT) : (s.ejectPin low).reg a = s.reg a :=
  State.reg_setBit_ne _ _ _ h.symm

/-- An eject request that stands unserved is served in the states that DRAINING is entered from. -/
theorem State.serveEject_served (s : State) (hlow : s.sys.ejLow = true) (hsrv : s.sys.ejServed = false)
    (hdev : s.sys.dev = .ready ∨ s.sys.dev = .armed ∨ s.sys.dev = .dry ∨ s.sys.dev = .safe) :
    s.serveEject = State.toDraining { s.raise 0x1103 (by1 s.sys.dev.num) with sys := { s.sys with ejServed := true } } 20 := by
  refine if_pos ?_
  rw [hlow, hsrv]
  rcases hdev with h | h | h | h <;> simp [State.live, h]

theorem State.serveEject_none (s : State) (h : s.sys.ejLow = false ∨ s.sys.dev = .boot ∨ s.sys.dev = .loading) : s.serveEject = s := by
  refine if_neg ?_
  rcases h with h | h | h <;> simp [State.live, h]

/-- What serving an eject request leaves (18 R364, R370). -/
structure Ejects (s t : State) : Prop where
  entered : EntersDraining { s.raise 0x1103 (by1 s.sys.dev.num) with sys := { s.sys with ejServed := true } } 20 t
  raised : Raised t 0x1103

theorem State.serveEject_ejects (s : State) (hlow : s.sys.ejLow = true) (hsrv : s.sys.ejServed = false)
    (hdev : s.sys.dev = .ready ∨ s.sys.dev = .armed ∨ s.sys.dev = .dry ∨ s.sys.dev = .safe) : Ejects s s.serveEject := by
  rw [s.serveEject_served hlow hsrv hdev]
  have he := State.toDraining_enters { s.raise 0x1103 (by1 s.sys.dev.num) with sys := { s.sys with ejServed := true } } 20
  have hraised : Raised ({ s.raise 0x1103 (by1 s.sys.dev.num) with sys := { s.sys with ejServed := true } } : State) 0x1103 := s.raised_raise 0x1103 _
  exact ⟨he, hraised.keep he.bus he.clk⟩

end Sys2Proof.Machine
end

section
/-! SUPPORT. What the commands of supplies, watchdog, removal and the last gasp answer (18 R356, R357, R364 to R370; 16 R341). -/

namespace Sys2Proof.Machine

/-! ### What an answer shows of its effect -/

/-- A command whose effect `x` leaves the clock where it is answers `x`. -/
theorem answers_effect {c : Sys2Proof.Instr} {s0 s x : State} {P : State → Prop} (dt : Nat) (f : State → State) (he : exec c s0 = act dt f s0)
    (hp : s0.sys.powered = true) (hs : s = s0.pass dt) (hx : f s = x) (hclk : x.clk = s.clk) (h : P (s0.noteSwitches x.flush)) : Answers c s0 P := by
  subst hs hx
  exact answers_still dt f he hp (congrArg Clock.now hclk) h

theorem keepsRegs_of_ne {s t : State} {a : Nat} (h : ∀ b, b ≠ a → t.reg b = s.reg b) : KeepsRegs s t [a] :=
  fun b hb _ => h b fun heq => hb (heq ▸ List.mem_cons_self)

section
variable (u t : State)

theorem sys_answer : (u.noteSwitches t.flush).sys = t.sys := (State.noteSwitches_sys _ _).trans t.flush_sys

theorem clk_answer : (u.noteSwitches t.flush).clk = t.clk := (State.noteSwitches_clk _ _).trans t.flush_clk

theorem trn_answer : (u.noteSwitches t.flush).trn = t.trn := (State.noteSwitches_trn _ _).trans t.flush_trn

theorem cmd_answer : (u.noteSwitches t.flush).cmd = t.cmd := (State.noteSwitches_cmd _ _).trans t.flush_cmd

theorem slot_answer (n : Nat) : (u.noteSwitches t.flush).slot n = t.slot n := (State.slot_noteSwitches _ _ n).trans (t.slot_flush n)

theorem reg_answer {a : Nat} (h : a ∉ busRegs) : (u.noteSwitches t.flush).reg a = t.reg a := (State.noteSwitches_reg _ _ a).trans (t.reg_flush h)

theorem pwrStat_answer (i : Nat) : (u.noteSwitches t.flush).bit Reg.PWR_STAT i = t.bit Reg.PWR_STAT i :=
  congrArg (bitOf · i) (reg_answer u t (by decide))

theorem fanDuty_answer {k : Nat} (hk : k < 16) : (u.noteSwitches t.flush).fanDuty k = t.fanDuty k := by
  have hb := fanReg_bounds hk
  exact congrArg (fld · 8 10) (reg_answer u t (loopBlock_not_busRegs (by omega) (by omega)))

theorem analog_answer {k : Nat} (hk : k < 8) : (u.noteSwitches t.flush).rf (Reg.GIO_AO + 4 * k) 0 16 = t.rf (Reg.GIO_AO + 4 * k) 0 16 := by
  have hout : Reg.GIO_AO + 4 * k ∉ busRegs := by
    simp only [busRegs, Reg.GIO_AO, Reg.REC_LOST_CNT, Reg.REC_STAT, Reg.NET_DUP_CNT, Reg.SYS_STATUS, List.mem_cons, List.not_mem_nil, or_false]
    omega
  exact congrArg (fld · 0 16) (reg_answer u t hout)

/-- LS, FW and HB as the answer shows them. -/
theorem switches_answer : (u.noteSwitches t.flush).switches = t.switches := by
  unfold State.switches
  rw [State.noteSwitches_ls, State.noteSwitches_fw, State.noteSwitches_hb, State.flush_drv]

/-- The CAN modes as the answer shows them. -/
theorem canModes_answer : (u.noteSwitches t.flush).canModes = t.canModes := by
  unfold State.canModes
  rw [State.noteSwitches_can0, State.noteSwitches_can1, State.flush_can0, State.flush_can1]

theorem loop_answer : (u.noteSwitches t.flush).loop = t.loop := (State.noteSwitches_loop _ _).trans t.flush_loop

end

/-- A gasp that completes leaves these of the state it ran on and of the ring. -/
theorem GaspCompletes.answer {x y : State} (h : GaspCompletes x y) (u : State) :
    (u.noteSwitches y.flush).sys = { x.sys with gaspRun := none, released := some (u.noteSwitches y.flush).clk.now } ∧
      (u.noteSwitches y.flush).bit Reg.PWR_STAT 5 = false ∧ Raised (u.noteSwitches y.flush) 0x0806 := by
  rw [sys_answer, clk_answer, pwrStat_answer]
  exact ⟨h.sys, h.ring, h.raised.answer u⟩

/-! ### The host watchdog (18 R367) -/

section
variable {s : State} (hp : s.sys.powered = true)
include hp

theorem sysWdogWrite_refused (w : Word) (hw : fld w 0 16 = 0 ∨ 600 < fld w 0 16) :
    Answers (.sysWdogWrite w) s fun t => t.sys = s.sys ∧ OnlyRegs s t ∧ KeepsRegs s t [] := by
  have he : (s.writeWdog w).2 = s := by
    unfold State.writeWdog
    rw [if_pos hw]
  refine answers_effect 0 (fun x => (x.writeWdog w).2) rfl hp rfl he rfl ⟨?_, (OnlyRegs.refl s).answer, KeepsRegs.answer (fun _ _ _ => rfl) s⟩
  rw [sys_answer]

theorem sysWdogWrite_taken (w : Word) (hpos : fld w 0 16 ≠ 0) (hmax : fld w 0 16 ≤ 600) :
    Answers (.sysWdogWrite w) s fun t => t.rf Reg.SYS_WDOG 0 16 = fld w 0 16 ∧ t.bit Reg.SYS_WDOG 16 = bitOf w 16 ∧ t.sys = s.sys ∧
      OnlyRegs s t ∧ KeepsRegs s t [Reg.SYS_WDOG] := by
  have he : (s.writeWdog w).2 = s.setReg Reg.SYS_WDOG (w &&& 0x1FFFF#32) := by
    unfold State.writeWdog
    rw [if_neg (by omega)]
  have hreg : (s.noteSwitches (s.setReg Reg.SYS_WDOG (w &&& 0x1FFFF#32)).flush).reg Reg.SYS_WDOG = w &&& 0x1FFFF#32 :=
    (reg_answer _ _ (by decide)).trans (s.reg_setReg_same _ _)
  refine answers_effect 0 (fun x => (x.writeWdog w).2) rfl hp rfl he rfl ⟨?_, ?_, ?_, (onlyRegs_setReg s _ _).answer,
    KeepsRegs.answer (keepsRegs_of_ne fun b hb => s.reg_setReg_ne _ hb.symm) s⟩
  · rw [State.rf, hreg]
    exact fld_and_of_ones w _ 0 16 (by decide)
  · rw [State.bit, hreg]
    simp [bitOf]
  · rw [sys_answer]
    rfl

theorem wdogExpire_expires (hc : s.cmd.coming = []) (k : Nat) (hk : s.sys.wdogLast = some k) (hen : s.bit Reg.SYS_WDOG 16 = true)
    (hon : s.bit Reg.SYS_STATUS 1 = false) :
    Answers .wdogExpire s fun t => t.bit Reg.SYS_STATUS 1 = true ∧ Raised t 0x0003 ∧ Raised t 0x0C09 ∧
      t.clk.now = max s.clk.now (k + 25000000 * s.rf Reg.SYS_WDOG 0 16) ∧ t.bit Reg.FAN_STAT 0 = true ∧ (∀ k < 16, (t.fc k).held = s.fanDuty k) ∧
      t.sys = s.sys ∧ t.drv = s.drv ∧ KeepsRegs s t [Reg.FAN_STAT] := by
  refine answers_now State.wdogExpire rfl hp hc ?_
  rw [s.wdogExpire_eq k hk hen hon]
  have hm := s.wdogMark_marks k
  generalize s.wdogMark k = x at hm ⊢
  have hf := x.fanWdog_expired
  generalize x.fanWdog true = y at hf ⊢
  rw [State.noteSwitches_flush_of_drv (hf.power.drv.trans hm.power.drv)]
  have hraised (code : Nat) (h : Raised y code) : Raised y.flush code := State.noteSwitches_flush_of_drv (s := y) rfl ▸ h.answer y
  refine ⟨?_, hraised _ (hm.raised.keep hf.bus hf.clk), hraised _ hf.raised, ?_, (y.bit_flush 0 (by decide)).trans hf.shown, fun k hk => ?_,
    (y.flush_sys.trans hf.power.sys).trans hm.power.sys, (y.flush_drv.trans hf.power.drv).trans hm.power.drv, fun a ha hb => ?_⟩
  · exact (y.flush_status (by decide)).trans ((congrArg (bitOf · 1) (hf.regs _ (by decide))).trans hm.shown)
  · rw [State.flush_clk, hf.clk, hm.now]
  · have hduty : x.fanDuty k = s.fanDuty k := congrArg (fld · 8 10) (hm.regs _ (by simp only [fanReg, Reg.FAN_ST, Reg.SYS_STATUS]; omega))
    rw [State.fc, State.flush_fan]
    exact (hf.held k hk).trans hduty
  · have hne : a ≠ Reg.FAN_STAT := fun h => ha (h ▸ List.mem_cons_self)
    have hst : a ≠ Reg.SYS_STATUS := fun h => hb (h ▸ by decide)
    exact (y.reg_flush hb).trans ((hf.regs a hne).trans (hm.regs a hst))

/-! ### The end of DRAINING (18 R364) -/

theorem drainTimeout_truncates (hc : s.cmd.coming = []) (k : Nat) (hk : s.sys.drainTick = some k) (hdev : s.sys.dev = .draining)
    (hcode : s.sys.drainCode ≠ 22) :
    Answers .drainTimeout s fun t => t.clk.now = max s.clk.now (k + 5000000) ∧ t.sys = s.sys ∧
      ∀ h ∈ t.trn.shots, h.phase ≠ .boost ∧ h.phase ≠ .peak ∧ h.phase ≠ .hold := by
  refine answers_now State.drainTimeout rfl hp hc ?_
  rw [s.drainTimeout_eq k hk hdev hcode]
  have ht := truncShots_truncates (s.reachTick (k + msTicks 20)).trn.shots (s.reachTick (k + msTicks 20))
  have hnone := truncShots_none (s.reachTick (k + msTicks 20))
  generalize (s.reachTick (k + msTicks 20)).trn.shots.foldl truncShot (s.reachTick (k + msTicks 20)) = x at ht hnone ⊢
  rw [sys_answer, clk_answer, trn_answer, ht.sys, ht.clk]
  refine ⟨?_, State.reachTick_sys _ _, fun h hh => ?_⟩
  · simp only [State.reachTick, State.advance, msTicks]
    omega
  · simpa [shotConducts] using hnone h hh

end

section
variable {s0 s : State} {dt : Nat} (hp : s0.sys.powered = true) (hs : s = s0.pass dt)
include hp hs

/-! ### Power failure (18 R365, R368) -/

theorem pwrFail_outsideBoot (v h : Nat) (hv : v < s.pfThr) (hboot : s.sys.dev ≠ .boot) (hused : s.sys.gaspUsed = false) :
    Answers (.pwrFail dt v h) s0 fun t => t.sys.dev = .draining ∧ t.sys.gaspFail = true ∧ t.sys.gaspUsed = true ∧ t.sys.gaspDone = true ∧
      t.sys.gaspRun = some (0, s.sys.dev.num, min 65535 h) ∧ t.bit Reg.PWR_STAT 2 = true ∧ Raised t 0x1101 ∧ t.drv.ls = 0 ∧ t.drv.fw = 0 ∧ t.drv.hb = 0 ∧
      t.sys.boostOn = false ∧ (∀ k < 8, t.rf (Reg.GIO_AO + 4 * k) 0 16 = 0) ∧ (∀ k < 16, t.fanDuty k = 0) ∧ t.can0.mode = 0 ∧ t.can1.mode = 0 ∧
      t.loop.todo = [] ∧ (s.sys.dev ≠ .draining → t.cmd.queue = [] ∧ t.trn.cal = [] ∧ t.sys.cause = 22) := by
  have hf := s.pwrFail_fails v h hv hboot hused
  refine answers_effect dt (fun x => x.pwrFail v h) rfl hp hs rfl hf.clk ?_
  generalize s.pwrFail v h = x at hf ⊢
  have hsw := (switches_answer s0 x).trans hf.switches
  have hcan := (canModes_answer s0 x).trans hf.can
  simp only [State.switches, Prod.mk.injEq] at hsw
  simp only [State.canModes, Prod.mk.injEq] at hcan
  obtain ⟨hls, hfw, hhb⟩ := hsw
  rw [sys_answer, cmd_answer, trn_answer, loop_answer, pwrStat_answer]
  exact ⟨hf.dev, hf.fail, hf.used, hf.done, hf.run, hf.shown, hf.raised.answer s0, hls, hfw, hhb, hf.boost,
    fun k hk => (analog_answer s0 x hk).trans (hf.analog k hk), fun k hk => (fanDuty_answer s0 x hk).trans (hf.fans k hk), hcan.1, hcan.2, hf.loops, hf.entered⟩

theorem pwrFail_inBoot (v h : Nat) (hv : v < s.pfThr) (hboot : s.sys.dev = .boot) :
    Answers (.pwrFail dt v h) s0 fun t => t.sys.dev = .boot ∧ t.sys.gaspRun = s.sys.gaspRun ∧ t.bit Reg.PWR_STAT 2 = true ∧ Raised t 0x1101 ∧ t.drv = s.drv := by
  have hn := (s.setSupply_measures v h).notices (by2 v ++ by2 h)
  refine answers_effect dt (fun x => x.pwrFail v h) rfl hp hs ((s.pwrFail_eq v h).trans ((if_neg (Nat.not_le.mpr hv)).trans (if_pos hboot))) hn.clk ?_
  generalize (((s.setSupply v h).setBit Reg.PWR_STAT 2 true).raise 0x1101 (by2 v ++ by2 h)).closeAllEps = x at hn ⊢
  have hdrv : x.drv = s0.drv := by rw [hn.drv, hs, State.pass_drv]
  have hraised := hn.raised.answer s0
  have hshown := (pwrStat_answer s0 x 2).trans hn.shown
  rw [State.noteSwitches_flush_of_drv hdrv] at hraised hshown ⊢
  rw [State.flush_sys, State.flush_drv, hn.sys]
  exact ⟨hboot, rfl, hshown, hraised, hn.drv⟩

theorem pwrFail_aboveThreshold (v h : Nat) (hv : s.pfThr ≤ v) :
    Answers (.pwrFail dt v h) s0 fun t => t.sys = { s.sys with vsup := min 65535 v, vhld := min 65535 h } ∧
      t.bit Reg.PWR_STAT 1 = decide (2800 ≤ min 65535 h) ∧ t.slot 80 = ⟨0, w32i (divRound ((min 65535 v : Nat) * 65536 : Int) 100)⟩ ∧
      t.slot 94 = ⟨0, w32i (divRound ((min 65535 h : Nat) * 65536 : Int) 100)⟩ ∧ (∀ n, n ≠ 80 → n ≠ 94 → t.slot n = s.slot n) ∧
      KeepsRegs s t [Reg.PWR_STAT] := by
  have hm := s.setSupply_measures v h
  refine answers_effect dt (fun x => x.pwrFail v h) rfl hp hs ((s.pwrFail_eq v h).trans (if_pos hv)) (congrArg State.clk hm.rest :) ?_
  generalize s.setSupply v h = x at hm ⊢
  refine ⟨(sys_answer _ _).trans hm.sys, (pwrStat_answer _ _ _).trans hm.hldok, (slot_answer _ _ _).trans hm.slot80, (slot_answer _ _ _).trans hm.slot94,
    fun n h80 h94 => (slot_answer _ _ _).trans (hm.slots n h80 h94), KeepsRegs.answer (keepsRegs_of_ne hm.regs) s0⟩

/-! ### Overvoltage (18 R356) -/

theorem pwrVsupOv_above (v : Nat) (hv : 6200 < v) (hov : s.bit Reg.PWR_STAT 3 = false) :
    Answers (.pwrVsupOv dt v) s0 fun t => t.bit Reg.PWR_STAT 3 = true ∧ t.sys.boostOn = false ∧ t.sys.dev = s.sys.dev ∧ Raised t 0x1102 := by
  have hm := s.setSupply_measures v s.sys.vhld
  have he : s.vsupOv v = (((s.setSupply v s.sys.vhld).setBit Reg.PWR_STAT 3 true).boostStop).raise 0x1102 (by2 v) := by
    exact if_neg (by simpa [hov] using hv)
  generalize s.setSupply v s.sys.vhld = x at hm he
  refine answers_effect dt (fun x => x.vsupOv v) rfl hp hs he (congrArg State.clk hm.rest :) ⟨?_, ?_, ?_, (State.raised_raise _ _ _).answer s0⟩
  · exact (pwrStat_answer _ _ _).trans (x.bit_setBit_same _ _ _ (by decide))
  · rw [sys_answer]
    rfl
  · rw [sys_answer]
    show x.sys.dev = _
    rw [hm.sys]

theorem pwrVsupOv_else (v : Nat) (hv : v ≤ 6200 ∨ s.bit Reg.PWR_STAT 3 = true) :
    Answers (.pwrVsupOv dt v) s0 fun t => t.bit Reg.PWR_STAT 3 = s.bit Reg.PWR_STAT 3 ∧ t.sys.boostOn = s.sys.boostOn := by
  have hm := s.setSupply_measures v s.sys.vhld
  refine answers_effect dt (fun x => x.vsupOv v) rfl hp hs (if_pos hv) (congrArg State.clk hm.rest :) ⟨?_, ?_⟩
  · exact (pwrStat_answer _ _ _).trans (hm.bits 3 (by decide))
  · rw [sys_answer, hm.sys]

theorem vsupOvEnd_below (v : Nat) (hv : v < 6000) (hov : s.bit Reg.PWR_STAT 3 = true) :
    Answers (.vsupOvEnd dt v) s0 fun t => t.bit Reg.PWR_STAT 3 = false ∧ t.sys.dev = s.sys.dev ∧
      ((∃ b < 12, s.bankRole b = 1) → s.sys.dev ≠ .safe → s.sys.dev ≠ .boot → s.bit Reg.PRF_VFLT 0 = false → s.sys.gaspDone = false →
        t.sys.boostOn = true ∧ t.sys.boostStart = t.clk.now) := by
  have he : s.vsupOvEnd v = ((s.setSupply v s.sys.vhld).setBit Reg.PWR_STAT 3 false).boostStartUp := if_pos ⟨hv, hov⟩
  have ho := (s.setSupply_measures v s.sys.vhld).ovEnds
  refine answers_effect dt (fun x => x.vsupOvEnd v) rfl hp hs he ho.clk ?_
  rw [pwrStat_answer, sys_answer, clk_answer, ho.clk]
  exact ⟨ho.shown, ho.dev, ho.starts⟩

theorem vsupOvEnd_above (v : Nat) (hv : 6000 ≤ v) :
    Answers (.vsupOvEnd dt v) s0 fun t => t.bit Reg.PWR_STAT 3 = s.bit Reg.PWR_STAT 3 ∧ t.sys.boostOn = s.sys.boostOn := by
  have hm := s.setSupply_measures v s.sys.vhld
  have he : s.vsupOvEnd v = s.setSupply v s.sys.vhld := if_neg fun h => absurd h.1 (Nat.not_lt.mpr hv)
  refine answers_effect dt (fun x => x.vsupOvEnd v) rfl hp hs he (congrArg State.clk hm.rest :) ⟨?_, ?_⟩
  · exact (pwrStat_answer _ _ _).trans (hm.bits 3 (by decide))
  · rw [sys_answer, hm.sys]

/-! ### Power-off (18 R357) -/

theorem powerOff_absent (h : Nat) (hh : h < 1000) (hv : s.sys.vsup < s.pfThr) :
    Answers (.powerOff dt h) s0 fun t => t.sys.powered = false ∧ t.dram = s.dram ∧ t.nor = s.nor ∧ t.kennel = s.kennel := by
  have he : s.powerOff h = { s with sys := { s.sys with powered := false, vsup := 0, vhld := h }, bus := [], episodes := [] } := if_pos ⟨hh, hv⟩
  refine answers_effect dt (fun x => x.powerOff h) rfl hp hs he rfl ⟨?_, ?_, ?_, ?_⟩
  · rw [sys_answer]
  · rw [State.noteSwitches_dram, State.flush_dram]
  · rw [State.noteSwitches_nor, State.flush_nor]
  · rw [State.noteSwitches_kennel, State.flush_kennel]

theorem powerOff_stays (h : Nat) (hh : 1000 ≤ h ∨ s.pfThr ≤ s.sys.vsup) :
    Answers (.powerOff dt h) s0 fun t => t.sys.powered = true ∧ t.sys.vhld = min 65535 h ∧ t.sys.dev = s.sys.dev := by
  have hm := s.setSupply_measures s.sys.vsup h
  have he : s.powerOff h = s.setSupply s.sys.vsup h := if_neg (by omega)
  have hpow : s.sys.powered = true := by rw [hs, State.pass_sys, hp]
  refine answers_effect dt (fun x => x.powerOff h) rfl hp hs he (congrArg State.clk hm.rest :) ?_
  rw [sys_answer, hm.sys]
  exact ⟨hpow, rfl, rfl⟩

/-! ### Live removal (18 R370) -/

theorem pwrEject_served (hsrv : s.sys.ejServed = false) (hdev : s.sys.dev = .ready ∨ s.sys.dev = .armed ∨ s.sys.dev = .dry ∨ s.sys.dev = .safe) :
    Answers (.pwrEject dt true) s0 fun t => t.sys.dev = .draining ∧ t.sys.drainCode = 20 ∧ t.sys.drainTick = some s.clk.now ∧ t.sys.ejLow = true ∧
      t.cmd.queue = [] ∧ t.trn.cal = [] ∧ t.trn.shots = s.trn.shots ∧ t.bit Reg.PWR_STAT 4 = true ∧ Raised t 0x1103 := by
  obtain ⟨he, hraised⟩ := (s.ejectPin true).serveEject_ejects rfl hsrv hdev
  have hshown := s.ejectPin_shown true
  refine answers_effect dt (fun x => x.pwrEject true) rfl hp hs (s.pwrEject_eq true) he.clk ?_
  generalize (s.ejectPin true).serveEject = x at he hraised ⊢
  rw [sys_answer, cmd_answer, trn_answer, pwrStat_answer, he.sys]
  exact ⟨rfl, rfl, rfl, rfl, he.queue, he.cal, he.shots (by decide), (congrArg (bitOf · 4) he.pwrStat).trans hshown, hraised.answer s0⟩

theorem pwrEject_waits (hdev : s.sys.dev = .boot ∨ s.sys.dev = .loading) :
    Answers (.pwrEject dt true) s0 fun t => t.sys.dev = s.sys.dev ∧ t.sys.ejLow = true ∧ KeepsRegs s t [Reg.PWR_STAT] := by
  have he : s.pwrEject true = s.ejectPin true := (s.pwrEject_eq true).trans (State.serveEject_none _ (.inr hdev))
  refine answers_effect dt (fun x => x.pwrEject true) rfl hp hs he rfl ?_
  rw [sys_answer]
  exact ⟨rfl, rfl, KeepsRegs.answer (keepsRegs_of_ne fun a ha => s.ejectPin_reg true ha) s0⟩

theorem pwrEject_released : Answers (.pwrEject dt false) s0 (fun t => t.sys = { s.sys with ejLow := false, ejServed := false, ejRise := s.clk.now } ∧
    t.bit Reg.PWR_STAT 4 = false ∧ KeepsRegs s t [Reg.PWR_STAT]) := by
  have he : s.pwrEject false = s.ejectPin false := (s.pwrEject_eq false).trans (State.serveEject_none _ (.inl rfl))
  refine answers_effect dt (fun x => x.pwrEject false) rfl hp hs he rfl ?_
  rw [sys_answer, pwrStat_answer]
  exact ⟨rfl, s.ejectPin_shown false, KeepsRegs.answer (keepsRegs_of_ne fun a ha => s.ejectPin_reg false ha) s0⟩

/-! ### The last gasp (16 R341; 18 R365) -/

theorem lastGasp_completes (f : KenFault) (e : Nat) (hc : s0.cmd.coming = [])
    (hdue : (s.sys.dev = .draining ∧ s.sys.gaspUsed = false ∧ s.drainDone = true ∧ s.sys.gaspRun = none) ∨ s.sys.gaspRun.isSome = true) :
    Answers (.lastGasp dt f e) s0 fun t => t.sys.gaspRun = none ∧ t.sys.released = some t.clk.now ∧ t.bit Reg.PWR_STAT 5 = false ∧ Raised t 0x0806 ∧
      (s.sys.gaspRun = none → t.sys.gaspUsed = true ∧ t.sys.gaspDone = true ∧ t.drv.ls = 0 ∧ t.drv.fw = 0) := by
  refine answers_after dt (fun x => x.lastGasp f e) rfl hp hc ?_
  rw [← hs]
  rcases hdue with ⟨hdev, hused, hdone, hrun⟩ | hrun
  · have he : s.lastGasp f e = (s.gaspStart 1).gaspSteps f e := by
      unfold State.lastGasp
      rw [hrun, if_neg (by simp), if_pos (by simp [hdev, hused, hdone])]
    have hg := s.gaspStart_starts 1
    rw [he]
    generalize s.gaspStart 1 = x at hg ⊢
    have hcomp := x.gaspSteps_completes f e (by rw [hg.sys]; rfl)
    generalize x.gaspSteps f e = y at hcomp ⊢
    obtain ⟨hsys, hring, hraised⟩ := hcomp.answer s0
    have hsw := hg.outputs.switches
    simp only [State.switches, Prod.mk.injEq] at hsw
    obtain ⟨hls, hfw, -⟩ := hsw
    refine ⟨congrArg Sys.gaspRun hsys, congrArg Sys.released hsys, hring, hraised, fun _ => ⟨?_, ?_, ?_, ?_⟩⟩
    · rw [hsys, hg.sys]
    · rw [hsys, hg.sys]
    · rw [State.noteSwitches_ls, State.flush_drv, hcomp.drv, hls]
    · rw [State.noteSwitches_fw, State.flush_drv, hcomp.drv, hfw]
  · have he : s.lastGasp f e = s.gaspSteps f e := by
      unfold State.lastGasp
      rw [if_pos hrun]
    rw [he]
    obtain ⟨hsys, hring, hraised⟩ := (s.gaspSteps_completes f e hrun).answer s0
    exact ⟨congrArg Sys.gaspRun hsys, congrArg Sys.released hsys, hring, hraised, fun hnone => absurd hrun (by simp [hnone])⟩

theorem lastGasp_none (f : KenFault) (e : Nat) (hrun : s.sys.gaspRun = none) (hnot : s.sys.dev ≠ .draining ∨ s.sys.gaspUsed = true) :
    Answers (.lastGasp dt f e) s0 fun t => t.sys = s.sys ∧ t.drv = s.drv ∧ SameMem s t ∧ KeepsRegs s t [] := by
  have he : s.lastGasp f e = s := by
    unfold State.lastGasp
    rw [hrun, if_neg (by simp), if_neg (by rcases hnot with h | h <;> simp [h])]
  have hdrv : s.drv = s0.drv := by rw [hs, State.pass_drv]
  refine answers_effect dt (fun x => x.lastGasp f e) rfl hp hs he rfl ⟨?_, ?_, (OnlyRegs.refl s).sameMem.answer s0, KeepsRegs.answer (fun _ _ _ => rfl) s0⟩
  · rw [sys_answer]
  · rw [State.noteSwitches_flush_of_drv hdrv, State.flush_drv]

end

/-- Settles O54: each clause is what its command answers. Every output has its last-gasp value because the parts of the last gasp write blocks of registers that do not meet; DRAINING's shots stop because the timeout goes over every shot there is, and a release leaves none of its own that conducts. -/
theorem suppliesWatchdogAndRemoval : Obligations.SuppliesWatchdogAndRemoval := by
  unfold Obligations.SuppliesWatchdogAndRemoval
  refine ⟨fun s hp => ⟨?_, ?_, fun hc => ⟨?_, ?_⟩⟩, fun s0 dt hp => ⟨?_, ?_, ?_, ?_, ?_, ?_, ?_, ?_, ?_, ?_, ?_, ?_, fun f e hc => ?_, ?_⟩⟩
  · exact sysWdogWrite_refused hp
  · exact sysWdogWrite_taken hp
  · exact wdogExpire_expires hp hc
  · exact drainTimeout_truncates hp hc
  · exact pwrFail_outsideBoot hp rfl
  · exact pwrFail_inBoot hp rfl
  · exact pwrFail_aboveThreshold hp rfl
  · exact pwrVsupOv_above hp rfl
  · exact pwrVsupOv_else hp rfl
  · exact vsupOvEnd_below hp rfl
  · exact vsupOvEnd_above hp rfl
  · exact powerOff_absent hp rfl
  · exact powerOff_stays hp rfl
  · exact pwrEject_served hp rfl
  · exact pwrEject_waits hp rfl
  · exact pwrEject_released hp rfl
  · exact lastGasp_completes hp rfl f e hc
  · exact lastGasp_none hp rfl

end Sys2Proof.Machine
end
